-- ==== Sys2Proof/Word.lean ====
section
/-! DEFINITION. The word types of the ASF-416 and the shape of "one value per channel or position".
Bytes of frames, sweep stamps and line sequence numbers are bit vectors because the part sends them as
bits or lets them wrap; counts, times and loads are natural numbers or integers (section 3.1 and 3.5 of
the introduction). -/

namespace Sys2Proof

/-- A byte of a frame (R146: sent most significant bit first). -/
abbrev Byte := BitVec 8

/-- A 16-bit stamp or number that wraps: sweep count (R28), line sequence number (R161), tag serial (R18),
the store's sum (R201). -/
abbrev Word16 := BitVec 16

/-- A raw mat or presence reading, 0 to 4095 counts (section 3.1 of the introduction). -/
abbrev Count12 := BitVec 12

/-- The station field of a header, its low four bits (R146). -/
abbrev StationNo := BitVec 4

/-- A channel number or position number, 0 to 3 (section 3.2 of the introduction). -/
abbrev Pos := Fin 4

/-- One value for each of the four channels or positions. -/
structure Four (α : Type) where
  c0 : α
  c1 : α
  c2 : α
  c3 : α
deriving DecidableEq, Repr, Inhabited

end Sys2Proof
end

