-- ==== Sys2Proof/Config.lean ====
section
/-! DEFINITION. The configuration record of the part (R200 to R210, section 11.2) as a type, and the free
values: what the spec leaves open, as constants without a body. The three copies of the record (running,
working, store) are state and stand in Machine/State.lean; the ranges and defaults stand in
Machine/Params.lean. -/

namespace Sys2Proof.Machine

/-- The configuration record (section 11.2). Masks and the join map are numbers whose bit c stands for
channel c, or for the pair c and c+1 (R207). Times are in seconds, as the spec's tables give them. -/
structure Conf where
  fittedMask : Nat
  joinMap : Nat
  buckleMask : Nat
  tagMask : Nat
  gain : Four Nat
  zero : Four Nat
  pzero : Four Nat
  tObjOn : Nat
  tObjOff : Nat
  tSmallOn : Nat
  tSmallOff : Nat
  tAdultOn : Nat
  tAdultOff : Nat
  tCsOn : Nat
  tCsOff : Nat
  pOn : Nat
  pOff : Nat
  dwell : Nat
  tGrace : Nat
  tL1 : Nat
  chimeLimit : Nat
  vTrip : Nat
  tMove : Nat
  tIdle : Nat
  tLeft : Nat
deriving DecidableEq, Repr, Inhabited

/-- FREE VALUE. The contents of a store whose commit was cut off by a loss of supply: R208 says only that
its sum does not match. Applied to the free-value counter of State (log entry 5). -/
opaque Config.freeStoreContents : Nat → Conf

/-- FREE VALUE. The sum read from a store whose commit was cut off (R208); the machine takes it only where
it differs from the sum of the contents (log entry 5). -/
opaque Config.freeStoreSum : Nat → Word16

/-- FREE VALUE. In which order step 6 of one completion in WATCH takes a vacant run that reaches 30 (R189)
and an own belt or latch change (R190): the spec gives no order (log entry 6). True: the vacant run is
taken first. -/
opaque Config.vacantRunFirst : Bool

end Sys2Proof.Machine
end

