-- ==== Sys2Proof/Syntax.lean ====
section
/-! DEFINITION. The commands of the block, one constructor of Instr for each row of
spec/opcode_table.json, with what the outside brings along: the readings of a sweep, the cells of a
reception, the length of a pulse, the strap pins where they are read. The table gives its rows no operand
fields; each operand is what the rule named beside it says the step takes from outside (log entry 1). -/

namespace Sys2Proof

/-- Tag type (R18). -/
inductive TagType | infantRear | childForward | booster
deriving DecidableEq, Repr

/-- Tag anchor (R18). -/
inductive Anchor | belt | bar
deriving DecidableEq, Repr

/-- What the tag exciter hears in the 4 ms of a tag read (R17): nothing, overlapping replies, or one reply
with its check result, its serial, its type and anchor (none for a code that is not defined) and its
nominal seat mass in hg. -/
inductive TagReply
  | silence
  | overlap
  | reply (checkPassed : Bool) (serial : Word16) (type : Option TagType) (anchor : Option Anchor) (mass : Byte)
deriving DecidableEq, Repr

/-- The raw readings of one channel in one sweep (chapter 1, table of elements). -/
structure ChannelReading where
  main : Count12
  check : Count12
  presence : Count12
  buckle : Byte
deriving DecidableEq, Repr

/-- All the measurements of one sweep: the four channels (those not fitted are not looked at), what the tag
exciter heard (looked at only when a tag read was due) and whether LATCH read OPEN. -/
structure SweepReadings where
  channels : Four ChannelReading
  tag : TagReply
  latchOpen : Bool
deriving DecidableEq, Repr

/-- One cell as a receiving station measures it (R145): the time from the falling edge of the cell before
(not looked at for the first cell) and the dominant length, both in microseconds. -/
structure LineCell where
  gap : Nat
  dominant : Nat
deriving DecidableEq, Repr

/-- A departure tag: station, position, departure sequence (R107). -/
structure DepTag where
  station : StationNo
  pos : Pos
  seq : BitVec 10
deriving DecidableEq, Repr

/-- The commands. Each docstring names the rule its row of the table names. -/
inductive Instr
  /-- POWER_ON (R196), with the five strap pins as they read (R200): bits 2..0 row, bit 3 half, bit 4 duty. -/
  | powerOn (pins : BitVec 5)
  /-- SWEEP_START (R26). -/
  | sweepStart
  /-- SWEEP_COMPLETION (R29), with the sweep's measurements. -/
  | sweepCompletion (readings : SweepReadings)
  /-- ONE_SHOT_COMPLETION (R35), with the one-shot sweep's measurements. -/
  | oneShotCompletion (readings : SweepReadings)
  /-- GRACE_TIMER_EXPIRY (R90) of the record at a position. -/
  | graceTimerExpiry (p : Pos)
  /-- ESCALATION_TIMER_EXPIRY (R91). -/
  | escalationTimerExpiry (p : Pos)
  /-- CHIME_SECOND (R92). -/
  | chimeSecond (p : Pos)
  /-- SLOW_TIMER_EXPIRY (R93). -/
  | slowTimerExpiry (p : Pos)
  /-- BUCKLED_RUN_EXPIRY (R97). -/
  | buckledRunExpiry (p : Pos)
  /-- SEATED_TIME_SECOND (R65). -/
  | seatedTimeSecond (p : Pos)
  /-- LAMP_FLASH_TOGGLE (R102) of the lamp of a position. -/
  | lampFlashToggle (p : Pos)
  /-- TELL_TALE_FLASH_TOGGLE (R139). -/
  | tellTaleFlashToggle
  /-- DEPARTURE_ENTRY_EXPIRY (R112) of the listed entry with this tag. -/
  | departureEntryExpiry (tag : DepTag)
  /-- ROSTER_SILENT (R131) of a station's slot. -/
  | rosterSilent (n : StationNo)
  /-- ROSTER_LOST (R131). -/
  | rosterLost (n : StationNo)
  /-- VEHICLE_DATA_LOST (R176). -/
  | vehicleDataLost
  /-- EMISSION_TIMER_EXPIRY (R174). -/
  | emissionTimerExpiry
  /-- RESTARTED_HOLD_EXPIRY (R171). -/
  | restartedHoldExpiry
  /-- EVENT_LOSS_HOLD_EXPIRY (R161). -/
  | eventLossHoldExpiry
  /-- FENCE_END (R166). -/
  | fenceEnd
  /-- STUCK_HOLD_END (R158). -/
  | stuckHoldEnd
  /-- LINE_STUCK (R158). -/
  | lineStuck
  /-- PULSE_END (R156), with the dominant length in microseconds, and the strap pins a wake would read. -/
  | pulseEnd (length : Nat) (pins : BitVec 5)
  /-- FRAME_TX_START (R148): the line is idle. -/
  | frameTxStart
  /-- ARBITRATION_LOST (R149). -/
  | arbitrationLost
  /-- BIT_MISMATCH (R150). -/
  | bitMismatch
  /-- FRAME_SENT (R151): echoed is true where the echo cell samples dominant. -/
  | frameSent (echoed : Bool)
  /-- WAKE_PULSE_SEND_START (R159): the line is idle. -/
  | wakePulseSendStart
  /-- WAKE_PULSE_RELEASE (R159): none where the line then reads recessive, else the whole length of the
  dominant in microseconds from the station's own falling edge; with the pins a wake would read. -/
  | wakePulseRelease (heard : Option Nat) (pins : BitVec 5)
  /-- FRAME_RECEPTION_END (R152): the cells read, from the start cell on, and whether the echo cell sampled
  dominant. -/
  | frameReceptionEnd (cells : List LineCell) (echoed : Bool)
  /-- SLEEP_REFUSE_HANDLED (R185). -/
  | sleepRefuseHandled
  /-- OWN_CLAIM_HANDLED (R117). -/
  | ownClaimHandled
  /-- CLAIM_HANDLED (R118). -/
  | claimHandled
  /-- DEPART_HANDLED (R109). -/
  | departHandled
  /-- ROW_RELEASE_HANDLED (R132). -/
  | rowReleaseHandled
  /-- ALERT_HANDLED (R182). -/
  | alertHandled
  /-- VEHICLE_HANDLED (R175). -/
  | vehicleHandled
  /-- STATE_HANDLED (R134). -/
  | stateHandled
  /-- SLEEP_PROPOSE_HANDLED (R183). -/
  | sleepProposeHandled
  /-- READ_CAPTURE (R205). -/
  | readCapture
  /-- CLEAR_CAPTURE (R202). -/
  | clearCapture
  /-- READ_COUNTERS (R203). -/
  | readCounters
  /-- READ_POSITION (R205). -/
  | readPosition
  /-- MEASURE (R34). -/
  | measure
  /-- READ_ROSTER (R204). -/
  | readRoster
  /-- READ_CONFIG (R204). -/
  | readConfig
  /-- ENTER_SERVICE (R206). -/
  | enterService
  /-- LEAVE_SERVICE (R209). -/
  | leaveService
  /-- STORE (R208). -/
  | storeConfig
  /-- CONFIG (R207). -/
  | configWrite
  /-- COMMIT_COMPLETION (R208). -/
  | commitCompletion
  /-- SERVICE_TIMER_EXPIRY (R209). -/
  | serviceTimerExpiry
  /-- IDLE_TIMER_EXPIRY (R183). -/
  | idleTimerExpiry
  /-- WINDOW_END (R186). -/
  | windowEnd
  /-- ALONE_TIMER_EXPIRY (R187). -/
  | aloneTimerExpiry
  /-- WATCH_TIMER_EXPIRY (R189). -/
  | watchTimerExpiry
  /-- LEFT_BEHIND_EXPIRY (R192). -/
  | leftBehindExpiry
  /-- ALERT_PERIOD_EXPIRY (R192) of the alert of the record at a position. -/
  | alertPeriodExpiry (p : Pos)
  /-- STANDBY_WATCH_SAMPLE (R22): the buckle ratio of each channel, whether LATCH read OPEN, and the strap
  pins a wake would read. -/
  | standbyWatchSample (ratios : Four Byte) (latchOpen : Bool) (pins : BitVec 5)
  /-- LOSS_OF_SUPPLY (R208). -/
  | lossOfSupply
  /-- DIAG_QUERY_ITEM_NOT_DEFINED (R204). -/
  | diagQueryItemNotDefined
deriving DecidableEq, Repr

end Sys2Proof
end

