-- ==== Sys2Proof/WellFormed.lean ====
section
/-! DEFINITION. Which commands the outside can send at all: the operand lies where the rule of the row puts
it. A meaning takes an ill-formed command as an event that does not occur, and changes nothing (log entry
2). -/

namespace Sys2Proof

/-- A station number that has a roster slot: 1 to 13 (R129). -/
def StationNo.hasSlot (n : StationNo) : Bool := 1 ≤ n.toNat && n.toNat ≤ 13

/-- A station number a departure tag may name: 1 to 12 (R107). -/
def StationNo.isRow (n : StationNo) : Bool := 1 ≤ n.toNat && n.toNat ≤ 12

/-- The operand check of each command. -/
def Instr.wf : Instr → Bool
  | .departureEntryExpiry tag => tag.station.isRow
  | .rosterSilent n => n.hasSlot
  | .rosterLost n => n.hasSlot
  | .pulseEnd length _ => 38 < length
  | .wakePulseRelease heard _ => heard.all fun length => 1500 < length
  | .frameReceptionEnd cells _ => !cells.isEmpty
  | .powerOn _ | .sweepStart | .sweepCompletion _ | .oneShotCompletion _ | .graceTimerExpiry _
  | .escalationTimerExpiry _ | .chimeSecond _ | .slowTimerExpiry _ | .buckledRunExpiry _
  | .seatedTimeSecond _ | .lampFlashToggle _ | .tellTaleFlashToggle | .vehicleDataLost
  | .emissionTimerExpiry | .restartedHoldExpiry | .eventLossHoldExpiry | .fenceEnd | .stuckHoldEnd
  | .lineStuck | .frameTxStart | .arbitrationLost | .bitMismatch | .frameSent _ | .wakePulseSendStart
  | .sleepRefuseHandled | .ownClaimHandled | .claimHandled | .departHandled | .rowReleaseHandled
  | .alertHandled | .vehicleHandled | .stateHandled | .sleepProposeHandled | .readCapture
  | .clearCapture | .readCounters | .readPosition | .measure | .readRoster | .readConfig
  | .enterService | .leaveService | .storeConfig | .configWrite | .commitCompletion
  | .serviceTimerExpiry | .idleTimerExpiry | .windowEnd | .aloneTimerExpiry | .watchTimerExpiry
  | .leftBehindExpiry | .alertPeriodExpiry _ | .standbyWatchSample _ _ _ | .lossOfSupply
  | .diagQueryItemNotDefined => true

end Sys2Proof
end

