-- ==== Sys2Proof/Decode.lean ====
section
/-! DEFINITION. The command a word spells by the table's bits. No row of spec/opcode_table.json gives bits,
so no word spells a command. -/

namespace Sys2Proof

/-- The rows of the table carry no "fixed" and no "fields": every word answers none. -/
def decodeTableWord (_nbits _w : Nat) : Option Instr := none

end Sys2Proof
end

