-- ==== Sys2Proof/Machine/Four.lean ====
section
/-! DEFINITION. Reading and writing one of the four values of a Four, and the arithmetic of section 3.1:
clamping, saturating counters. -/

namespace Sys2Proof

/-- The value of channel or position p. -/
def Four.get {α : Type} (f : Four α) : Pos → α
  | 0 => f.c0
  | 1 => f.c1
  | 2 => f.c2
  | 3 => f.c3

/-- f with the value of p replaced. -/
def Four.set {α : Type} (f : Four α) (p : Pos) (x : α) : Four α :=
  match p with
  | 0 => { f with c0 := x }
  | 1 => { f with c1 := x }
  | 2 => { f with c2 := x }
  | 3 => { f with c3 := x }

/-- The four values of a function of the position. -/
def Four.ofFn {α : Type} (f : Pos → α) : Four α := ⟨f 0, f 1, f 2, f 3⟩

/-- The same value four times. -/
def Four.const {α : Type} (x : α) : Four α := ⟨x, x, x, x⟩

/-- f applied to each value. -/
def Four.map {α β : Type} (f : α → β) (q : Four α) : Four β := ⟨f q.c0, f q.c1, f q.c2, f q.c3⟩

/-- The four values in position order. -/
def Four.toList {α : Type} (q : Four α) : List α := [q.c0, q.c1, q.c2, q.c3]

/-- Whether some value meets c. -/
def Four.any {α : Type} (q : Four α) (c : α → Bool) : Bool := c q.c0 || c q.c1 || c q.c2 || c q.c3

/-- The position numbers in position order. -/
def positionsInOrder : List Pos := [0, 1, 2, 3]

namespace Machine

/-- "Clamped to a range" (section 3.1 of the introduction), for natural numbers. -/
def clampNat (lo hi x : Nat) : Nat := if x < lo then lo else if hi < x then hi else x

/-- "Clamped to a range", for integers. -/
def clampInt (lo hi x : Int) : Int := if x < lo then lo else if hi < x then hi else x

/-- A counter adds 1 and stops at 65535 (section 3.5 of the introduction). -/
def saturatingSucc (n : Nat) : Nat := if n < 65535 then n + 1 else 65535

/-- The byte that carries a number. -/
def toByte (n : Nat) : Byte := BitVec.ofNat 8 n

/-- A two-byte number, most significant byte first (section 9.1). -/
def twoBytes (n : Nat) : List Byte := [toByte (n / 256), toByte (n % 256)]

/-- The number that two bytes carry, most significant byte first. -/
def ofTwoBytes (hi lo : Byte) : Nat := hi.toNat * 256 + lo.toNat

/-- Byte k of a payload, 0 where the payload has fewer (R155). -/
def byteAt (bytes : List Byte) (k : Nat) : Byte := bytes.getD k 0

end Machine

end Sys2Proof
end

