-- ==== Sys2Proof/Machine/Params.lean ====
section
/-! DEFINITION. The fixed times of the part, the defaults and ranges of the configuration record (R56, R104,
R112, R179, R182, R191, section 11.2), what a configuration says about channels and positions (R1, R62) and
the sum of a record (R201). Times are in milliseconds. -/

namespace Sys2Proof.Machine

/-- Seconds in milliseconds. -/
def seconds (n : Nat) : Nat := 1000 * n

/-- R25: the sweep period in ACTIVE. -/
def activePeriodMs : Nat := 50
/-- R25: the sweep period in WATCH. -/
def watchPeriodMs : Nat := 1000
/-- R1: the measurements of a sweep take 10 ms, or 14 ms when a tag read is due. -/
def sweepMs (tagRead : Bool) : Nat := if tagRead then 14 else 10
/-- R93: the slow time. -/
def slowMs : Nat := 5000
/-- R97: the buckled run. -/
def buckledRunMs : Nat := 10000
/-- R102: half a period of a flashing lamp. -/
def lampHalfMs : Nat := 250
/-- R131: a slot falls SILENT. -/
def silentMs : Nat := 1000
/-- R131: a slot becomes LOST. -/
def lostMs : Nat := 6000
/-- R176: the vehicle data record becomes LOST. -/
def vehicleLostMs : Nat := 2000
/-- R174: the emission timer. -/
def emissionMs : Nat := 200
/-- R171: the RESTARTED hold. -/
def restartedMs : Nat := 2000
/-- R161: the EVENT_LOSS hold. -/
def eventLossMs : Nat := 10000
/-- R166: the fence. -/
def fenceMs : Nat := 1000
/-- R158: recessive time that ends the stuck hold. -/
def stuckMs : Nat := 50
/-- R186: the proposal window. -/
def windowMs : Nat := 200
/-- R187: the alone timer. -/
def aloneMs : Nat := 10000
/-- R189: the watch timer. -/
def watchLimitMs : Nat := 3600000
/-- R189: the vacant run that ends WATCH. -/
def vacantLimit : Nat := 30
/-- R192: the alert period. -/
def alertPeriodMs : Nat := 2000
/-- R192: the greatest alert count. -/
def alertLimit : Nat := 60
/-- R184: an idle timer below this is RECENT_ACTIVITY. -/
def recentMs : Nat := 5000
/-- R22: the standby watch samples every 250 ms. -/
def standbySampleMs : Nat := 250
/-- R208: a store commit. -/
def commitMs : Nat := 20
/-- R209: the service timer. -/
def serviceMs : Nat := 300000
/-- R164: places of the transmit queue. -/
def txCapacity : Nat := 6
/-- R161: shared places of the receive queue. -/
def rxShared : Nat := 4
/-- R161: dedicated places of each class. -/
def rxDedicated : Nat := 2
/-- R111: places of the Departure List. -/
def departureCapacity : Nat := 8
/-- R166: the mismatch run that starts the fence. -/
def fenceRun : Nat := 8

/-- The defaults of section 11.2. -/
def Conf.default : Conf where
  fittedMask := 15
  joinMap := 0
  buckleMask := 15
  tagMask := 0
  gain := Four.const 256
  zero := Four.const 1024
  pzero := Four.const 1024
  tObjOn := 50
  tObjOff := 30
  tSmallOn := 100
  tSmallOff := 80
  tAdultOn := 400
  tAdultOff := 350
  tCsOn := 40
  tCsOff := 25
  pOn := 60
  pOff := 40
  dwell := 6
  tGrace := 20
  tL1 := 10
  chimeLimit := 90
  vTrip := 10
  tMove := 20
  tIdle := 30
  tLeft := 120

/-- R207: bit c of a mask stands for channel c. -/
def maskBit (mask : Nat) (p : Pos) : Bool := mask.testBit p.val

/-- The channel is fitted (R1). -/
def isFitted (c : Conf) (p : Pos) : Bool := maskBit c.fittedMask p

/-- The channel is the lower channel of a joined pair: join bit c joins c and c+1 (R207). -/
def isJoined (c : Conf) (p : Pos) : Bool := p.val < 3 && c.joinMap.testBit p.val

/-- The channel is the upper channel of a joined pair. -/
def isUpper (c : Conf) (p : Pos) : Bool := 0 < p.val && c.joinMap.testBit (p.val - 1)

/-- The number is a position, not ABSENT (R62). -/
def isPosition (c : Conf) (p : Pos) : Bool := isFitted c p && !isUpper c p

/-- The upper channel of the joined pair whose lower channel is p. -/
def upperOf (p : Pos) : Pos := p + 1

/-- The position's buckle input is read (R1, R13). -/
def buckleRead (c : Conf) (p : Pos) : Bool := isPosition c p && maskBit c.buckleMask p

/-- The position is tag-fitted (R1, R27). -/
def tagFitted (c : Conf) (p : Pos) : Bool := isPosition c p && maskBit c.tagMask p

/-- The CONFIG items of R207. -/
inductive Item
  | fitted | joins | buckles | tags
  | gain (p : Pos) | zero (p : Pos) | pzero (p : Pos)
  | tObjOn | tObjOff | tSmallOn | tSmallOff | tAdultOn | tAdultOff | tCsOn | tCsOff
  | pOn | pOff
  | dwell | tGrace | tL1 | chimeLimit | vTrip | tMove | tIdle | tLeft
deriving DecidableEq, Repr

/-- All items in the order of their codes (R201, R207). -/
def Item.all : List Item :=
  [.fitted, .joins, .buckles, .tags,
   .gain 0, .gain 1, .gain 2, .gain 3, .zero 0, .zero 1, .zero 2, .zero 3,
   .pzero 0, .pzero 1, .pzero 2, .pzero 3,
   .tObjOn, .tObjOff, .tSmallOn, .tSmallOff, .tAdultOn, .tAdultOff, .tCsOn, .tCsOff, .pOn, .pOff,
   .dwell, .tGrace, .tL1, .chimeLimit, .vTrip, .tMove, .tIdle, .tLeft]

/-- The code of an item (R207). -/
def Item.code : Item → Nat
  | .fitted => 1 | .joins => 2 | .buckles => 3 | .tags => 4
  | .gain p => 16 + p.val | .zero p => 20 + p.val | .pzero p => 24 + p.val
  | .tObjOn => 32 | .tObjOff => 33 | .tSmallOn => 34 | .tSmallOff => 35
  | .tAdultOn => 36 | .tAdultOff => 37 | .tCsOn => 38 | .tCsOff => 39
  | .pOn => 40 | .pOff => 41
  | .dwell => 48 | .tGrace => 49 | .tL1 => 50 | .chimeLimit => 51
  | .vTrip => 52 | .tMove => 53 | .tIdle => 54 | .tLeft => 55

/-- The item of a code, none where the code is not in the table. -/
def Item.ofCode (n : Nat) : Option Item := Item.all.find? fun i => i.code == n

/-- The value of an item in a record. -/
def Conf.value (c : Conf) : Item → Nat
  | .fitted => c.fittedMask | .joins => c.joinMap | .buckles => c.buckleMask | .tags => c.tagMask
  | .gain p => c.gain.get p | .zero p => c.zero.get p | .pzero p => c.pzero.get p
  | .tObjOn => c.tObjOn | .tObjOff => c.tObjOff | .tSmallOn => c.tSmallOn | .tSmallOff => c.tSmallOff
  | .tAdultOn => c.tAdultOn | .tAdultOff => c.tAdultOff | .tCsOn => c.tCsOn | .tCsOff => c.tCsOff
  | .pOn => c.pOn | .pOff => c.pOff
  | .dwell => c.dwell | .tGrace => c.tGrace | .tL1 => c.tL1 | .chimeLimit => c.chimeLimit
  | .vTrip => c.vTrip | .tMove => c.tMove | .tIdle => c.tIdle | .tLeft => c.tLeft

/-- The record with one item replaced, nothing else looked at. -/
def Conf.put (c : Conf) (v : Nat) : Item → Conf
  | .fitted => { c with fittedMask := v } | .joins => { c with joinMap := v }
  | .buckles => { c with buckleMask := v } | .tags => { c with tagMask := v }
  | .gain p => { c with gain := c.gain.set p v } | .zero p => { c with zero := c.zero.set p v }
  | .pzero p => { c with pzero := c.pzero.set p v }
  | .tObjOn => { c with tObjOn := v } | .tObjOff => { c with tObjOff := v }
  | .tSmallOn => { c with tSmallOn := v } | .tSmallOff => { c with tSmallOff := v }
  | .tAdultOn => { c with tAdultOn := v } | .tAdultOff => { c with tAdultOff := v }
  | .tCsOn => { c with tCsOn := v } | .tCsOff => { c with tCsOff := v }
  | .pOn => { c with pOn := v } | .pOff => { c with pOff := v }
  | .dwell => { c with dwell := v } | .tGrace => { c with tGrace := v } | .tL1 => { c with tL1 := v }
  | .chimeLimit => { c with chimeLimit := v } | .vTrip => { c with vTrip := v }
  | .tMove => { c with tMove := v } | .tIdle => { c with tIdle := v } | .tLeft => { c with tLeft := v }

/-- The range of an item: R56, R104, R112, R179, R182, R191; the masks have four bits and the join map three
(R207). -/
def Item.range : Item → Nat × Nat
  | .fitted | .buckles | .tags => (0, 15)
  | .joins => (0, 7)
  | .gain _ => (128, 383)
  | .zero _ => (256, 3840)
  | .pzero _ => (0, 4095)
  | .tObjOn | .tObjOff | .tSmallOn | .tSmallOff | .tAdultOn | .tAdultOff | .tCsOn | .tCsOff
  | .pOn | .pOff => (0, 2000)
  | .dwell => (2, 15)
  | .tGrace => (0, 60)
  | .tL1 => (0, 30)
  | .chimeLimit => (30, 180)
  | .vTrip => (5, 30)
  | .tMove => (5, 60)
  | .tIdle => (10, 300)
  | .tLeft => (30, 600)

/-- R201: the sum of the items' values as 16-bit numbers, the carry out of bit 15 dropped. -/
def Conf.sum (c : Conf) : Word16 := Item.all.foldl (fun acc i => acc + BitVec.ofNat 16 (c.value i)) 0

/-- R201, R207: no two pairs share a channel, and every joined pair is of two fitted channels. -/
def joinsGood (fitted joins : Nat) : Bool :=
  !(joins.testBit 0 && joins.testBit 1) && !(joins.testBit 1 && joins.testBit 2)
  && (!joins.testBit 0 || (fitted.testBit 0 && fitted.testBit 1))
  && (!joins.testBit 1 || (fitted.testBit 1 && fitted.testBit 2))
  && (!joins.testBit 2 || (fitted.testBit 2 && fitted.testBit 3))

/-- Every value of the record lies in its range. -/
def Conf.inRange (c : Conf) : Bool :=
  Item.all.all fun i => i.range.1 ≤ c.value i && c.value i ≤ i.range.2

/-- R200: the row the straps give, bits 2..0. -/
def strapRow (pins : BitVec 5) : Nat := pins.toNat % 8

/-- R200: the half the straps give, bit 3: 0 for A, 1 for B. -/
def strapHalf (pins : BitVec 5) : Nat := pins.toNat / 8 % 2

/-- R200: the duty strap, bit 4. -/
def strapDuty (pins : BitVec 5) : Bool := 16 ≤ pins.toNat

/-- R167: a row of 0 or 7 is invalid. -/
def strapsValid (pins : BitVec 5) : Bool := 1 ≤ strapRow pins && strapRow pins ≤ 6

/-- R200: the station number, 2 × (row − 1) + half + 1; 0 stands for "no number" (R65). -/
def stationOf (pins : BitVec 5) : StationNo :=
  if strapsValid pins then BitVec.ofNat 4 (2 * (strapRow pins - 1) + strapHalf pins + 1) else 0

end Sys2Proof.Machine
end

