-- ==== Sys2Proof/Machine/State.lean ====
section
/-! DEFINITION. The state of one ASF-416 station, block by block as the spec's block overview lays it out
(section 2 of the introduction), as plain data, with the queue of commands that wait, and the state after
reset. INVENTORY.md lists every field with the rule that names it and its reset value. -/

namespace Sys2Proof.Machine

/-! ### Names shared by the blocks -/

/-- A timer of the spec: stopped, or running with the milliseconds run so far. -/
inductive Timer
  | stopped
  | running (ms : Nat)
deriving DecidableEq, Repr

/-- The class or state of a position number (R63; codes 0 to 9 of section 9.1 in this order). -/
inductive Cls
  | absent | unscanned | empty | object | small | adult | unsized | unknown | csEmpty | csOccupied
deriving DecidableEq, Repr

/-- R63: the occupant classes. -/
def Cls.isOccupant : Cls → Bool
  | .small | .adult | .unsized | .unknown | .csOccupied => true
  | .absent | .unscanned | .empty | .object | .csEmpty => false

/-- The kinds of frame (section 9.1). -/
inductive FrameKind
  | sleepRefuse | claim | depart | rowRelease | alert | vehicle | state | sleepPropose
  | diagQuery | diagReply | config
deriving DecidableEq, Repr

/-- The severity of a fault observation. -/
inductive Severity | soft | hard
deriving DecidableEq, Repr

/-! ### Sensing front end (chapter 1) -/

/-- R2: the held readings of a fitted channel; the buckle ratio is absent where the input is not read. -/
structure HeldReading where
  main : Count12
  check : Count12
  presence : Count12
  buckle : Option Byte
deriving DecidableEq, Repr

/-- What the SFE holds per channel: R2 held readings, R9 open-wire reference. -/
structure SfeChannel where
  held : Option HeldReading
  reference : Option Count12
deriving DecidableEq, Repr

/-- R5: a fault kind's flag and its one count. -/
structure FaultRun where
  hard : Bool
  count : Nat
deriving DecidableEq, Repr

/-- R13: belt states (codes 0 to 3 of section 9.1). -/
inductive BeltState | buckled | unbuckled | fault | notFitted
deriving DecidableEq, Repr

/-- R14: the band group of a buckle reading. -/
inductive BandGroup | buckled | unbuckled | fault
deriving DecidableEq, Repr

/-- R14: a belt run. -/
structure BeltRun where
  group : BandGroup
  count : Nat
deriving DecidableEq, Repr

/-- R18: the record of a valid tag reply. -/
structure TagRecord where
  serial : Word16
  type : TagType
  anchor : Anchor
  mass : Byte
deriving DecidableEq, Repr

/-- R17: the result of a tag read. -/
inductive TagResult
  | noReply
  | collision
  | valid (record : TagRecord)
deriving DecidableEq, Repr

/-- R19: the kind of a tag read run. -/
inductive TagRunKind
  | noReply
  | collision
  | valid (serial : Word16)
deriving DecidableEq, Repr

/-- R19: a tag read run. -/
structure TagRun where
  kind : TagRunKind
  count : Nat
deriving DecidableEq, Repr

/-- R19: the debounced view of the tag at a position. -/
inductive TagView
  | none
  | present (record : TagRecord)
  | unclear
deriving DecidableEq, Repr

/-- What the SFE holds per position. -/
structure SfePosition where
  matRange : FaultRun
  matDisagree : FaultRun
  matOpen : FaultRun
  presenceRange : FaultRun
  belt : BeltState
  beltRun : Option BeltRun
  tagView : TagView
  tagRun : Option TagRun
deriving DecidableEq, Repr

/-- R21: a latch level. -/
inductive Latch | closed | opened
deriving DecidableEq, Repr

/-- R22: one watched buckle input: its reference (true for buckled) and whether the last sample differed. -/
structure BuckleWatch where
  reference : Bool
  differed : Bool
deriving DecidableEq, Repr

/-- R22: the standby watch: the watched buckle inputs, the latch reference (none until the first sample
gives it), whether the last latch sample differed, and the time since the last sample. -/
structure StandbyWatch where
  buckles : Four (Option BuckleWatch)
  latch : Option Latch
  latchDiffered : Bool
  ms : Nat
deriving DecidableEq, Repr

/-- The sensing state of section 1.10. -/
structure Sfe where
  channels : Four SfeChannel
  positions : Four SfePosition
  latch : Option Latch
  latchRun : Nat
  watch : Option StandbyWatch
deriving DecidableEq, Repr

/-! ### Sweep controller (chapter 2) -/

/-- R34: the part a MEASURE query names. -/
inductive MeasurePart | mat | presence | tag
deriving DecidableEq, Repr

/-- A sweep in flight: a periodic one with its number, its test mark and the position whose tag it reads
(R26), or the one-shot sweep of MEASURE (R35); each with the time since its start. -/
inductive Flight
  | periodic (number : Word16) (test : Bool) (tagAt : Option Pos) (ms : Nat)
  | oneShot (position : Pos) (part : MeasurePart) (ms : Nat)
deriving DecidableEq, Repr

/-- The five items of chapter 2; the sweep-in-flight flag is set while flight is present. -/
structure SweepCtl where
  count : Word16
  testCounter : BitVec 6
  pointer : Pos
  flight : Option Flight
  period : Timer
deriving DecidableEq, Repr

/-! ### Classifier (chapter 3) -/

/-- The classifier's state of one position; the reported load L is floor(L_f / 4) (R43). -/
structure ClsState where
  b16 : Int
  pb16 : Int
  lf : Nat
  shift : Int
  presence : Bool
  candidate : Option Cls
  dwell : Nat
deriving DecidableEq, Repr

/-! ### Position table, records, ladders (chapters 4, 5, 10) -/

/-- R64, R65: the occupant id; station 0 at a station with invalid straps. -/
structure OccupantId where
  station : StationNo
  pos : Pos
  seq : BitVec 10
deriving DecidableEq, Repr

/-- The optional tag identity of a departure entry (R107). -/
structure ChildId where
  serial : Word16
  type : TagType
deriving DecidableEq, Repr

/-- R107: a departure entry; age in milliseconds. -/
structure DepEntry where
  tag : DepTag
  cls : Cls
  wasBelted : Bool
  chime : Nat
  child : Option ChildId
  ageMs : Nat
deriving DecidableEq, Repr

/-- R64, R68: the origin of a record; the pending claim is there exactly while the origin is CLAIMING. -/
inductive Origin
  | boarded
  | restored
  | untraced
  | claiming (pending : DepEntry)
  | moved (tag : DepTag)
deriving DecidableEq, Repr

/-- R85: reminder kinds. -/
inductive ReminderKind | occupant | secure | none
deriving DecidableEq, Repr

/-- Section 5.3: the levels (codes 0 to 4 of section 9.1). -/
inductive Level | quiet | grace | level1 | level2 | spent
deriving DecidableEq, Repr

/-- R64: the tag part of a record. -/
structure TagPart where
  serial : Word16
  type : TagType
  anchor : Anchor
deriving DecidableEq, Repr

/-- R64, chapter 10: the alert state; while ACTIVE, the alert count and the alert period timer. -/
inductive Alert
  | none
  | active (count : Nat) (timer : Timer)
  | acknowledged
  | expired
deriving DecidableEq, Repr

/-- R64: the occupant record. Chime time used and seated time in seconds, seatedMs the part of a second since
the last full second of the record's life (R65). -/
structure Record where
  id : OccupantId
  cls : Cls
  origin : Origin
  everBuckled : Bool
  chimeUsed : Nat
  graceUsed : Bool
  buckledRun : Timer
  kind : ReminderKind
  level : Level
  graceTimer : Timer
  escalation : Timer
  chimeTimer : Timer
  slowTimer : Timer
  seated : Nat
  seatedMs : Nat
  tag : Option TagPart
  alert : Alert
deriving DecidableEq, Repr

/-- What a position number holds: its state (R63), its record (R64), and the level of its securing state,
whose kind is always SECURE (R86). -/
structure Seat where
  cls : Cls
  record : Option Record
  securing : Option Level
deriving DecidableEq, Repr

/-- The position table (chapter 4). -/
structure Positions where
  seats : Four Seat
  departureSeq : BitVec 10
  unlatched : Bool
  releasePending : Bool
deriving DecidableEq, Repr

/-- R102: a LAMP pin; a flashing lamp with its phase and the time in that phase. -/
inductive Lamp
  | off
  | steady
  | flashing (on : Bool) (ms : Nat)
deriving DecidableEq, Repr

/-! ### Duty unit (chapter 7) -/

/-- R129: the states of a roster slot. -/
inductive SlotState | absent | live | silent | lost | released
deriving DecidableEq, Repr

/-- R129: a roster slot; time since last heard in milliseconds. -/
structure RosterSlot where
  state : SlotState
  ms : Nat
deriving DecidableEq, Repr

/-- R133: a position slot of the Reminder View. -/
structure ViewSlot where
  cls : Cls
  level : Level
deriving DecidableEq, Repr

/-- R133: a row of the Reminder View; an EMPTY row holds no slot values. -/
inductive ViewRow
  | empty
  | filled (unlatched : Bool) (slots : Four ViewSlot)
deriving DecidableEq, Repr

/-- R138: tell-tale patterns. -/
inductive Pattern | flash | degraded | steady | off
deriving DecidableEq, Repr

/-- The duty unit. The roster holds 13 slots, station n at place n − 1; the own number's slot is never
touched. The view holds 12 rows, station n at place n − 1. ttOn is the TT pin (sinking), ttMs the time in
the present phase, chime the CHM pin (pulled low). -/
structure Duty where
  yielded : Bool
  roster : List RosterSlot
  view : List ViewRow
  pattern : Pattern
  ttOn : Bool
  ttMs : Nat
  chime : Bool
deriving DecidableEq, Repr

/-! ### Row link controller (chapter 8) -/

/-- A frame in the receive queue: kind, sending station, payload, line sequence number (R152). -/
structure RxFrame where
  kind : FrameKind
  station : StationNo
  payload : List Byte
  seq : Word16
deriving DecidableEq, Repr

/-- What an own CLAIM keeps beside its frame: the claimed tag, the occupant id (R116), the void mark (R121). -/
structure ClaimRef where
  tag : DepTag
  id : OccupantId
  voided : Bool
deriving DecidableEq, Repr

/-- R162: the own CLAIM in the self slot. -/
structure SelfClaim where
  claim : ClaimRef
  seq : Word16
deriving DecidableEq, Repr

/-- R164: a transmit queue entry: waiting or being sent; for a STATE being sent, the newer content given
meanwhile; for a CLAIM, what it keeps beside its frame. -/
structure TxEntry where
  kind : FrameKind
  payload : List Byte
  sending : Bool
  newer : Option (List Byte)
  claim : Option ClaimRef
deriving DecidableEq, Repr

/-- What the station drives on the RLINK pin: nothing, a frame (its bytes from the header to the check byte,
R146), the echo cell of a frame it received well (R147), or its WAKE pulse (R159). -/
inductive Drive
  | released
  | frame (bytes : List Byte)
  | echo
  | wakePulse
deriving DecidableEq, Repr

/-- The row link controller. fence, stuck hold and EVENT_LOSS hold are off while their timer is stopped; the stuck
hold's timer counts recessive time, so it stands while lineHeld says that the line has been dominant since the last
LINE_STUCK (R158). -/
structure Link where
  rxq : List RxFrame
  selfSlot : Option SelfClaim
  txq : List TxEntry
  lineSeq : Word16
  mismatchRun : Nat
  fence : Timer
  stuck : Timer
  lineHeld : Bool
  eventLoss : Timer
  stationClash : Bool
  highWater : Nat
  wakePending : Bool
  drive : Drive
deriving DecidableEq, Repr

/-! ### STATE emission and vehicle data record (chapter 9) -/

/-- Section 9.2: the STATE emission. -/
structure Emission where
  report : List Byte
  lastPlaced : Option (List Byte)
  timer : Timer
  placedMark : Bool
  restarted : Timer
deriving DecidableEq, Repr

/-- Ignition values (section 9.1). -/
inductive Ignition | off | acc | on
deriving DecidableEq, Repr

/-- Section 9.3: the vehicle data record; the effective values are derived (R177). -/
structure Vehicle where
  ignition : Ignition
  speed : Nat
  fresh : Bool
  ageMs : Nat
  trip : Bool
deriving DecidableEq, Repr

/-! ### Mode controller (chapter 10) -/

/-- R181: the station modes. -/
inductive Mode | active | watch | standby | service
deriving DecidableEq, Repr

/-- R184: an open proposal window. -/
structure Window where
  ms : Nat
  refusedHere : Bool
deriving DecidableEq, Repr

/-- The mode controller; the alert of a record stands in the record. The left-behind timer runs exactly in
WATCH while a record qualifies (R191), so only its value is held. -/
structure ModeCtl where
  mode : Mode
  idle : Timer
  window : Option Window
  alone : Timer
  watch : Timer
  vacantRun : Nat
  leftBehindMs : Nat
  wakeCause : Bool
deriving DecidableEq, Repr

/-! ### Diagnosis and store (chapter 11) -/

/-- R202, R205: measurement fault kinds (codes 1 to 8 in this order). -/
inductive MeasFault
  | matRange | matDisagree | matOpen | presenceRange | buckleShort | buckleBetween | buckleOpen | tagUnclear
deriving DecidableEq, Repr

/-- R23: a measurement fault report. -/
structure MeasReport where
  pos : Pos
  kind : MeasFault
  severity : Severity
  main : Nat
  check : Nat
  stamp : Word16
deriving DecidableEq, Repr

/-- R155: link fault kinds (codes 1 to 8 of R205 in this order). -/
inductive LinkFault
  | checkFail | inconsistent | form | bitMismatch | echoMissing | stationClash | lineStuck | fenceEntry
deriving DecidableEq, Repr

/-- R155: a link fault report. -/
structure LinkReport where
  kind : LinkFault
  severity : Severity
  header : Byte
  first : Byte
  second : Byte
  stamp : Word16
deriving DecidableEq, Repr

/-- R202: a capture: EMPTY, SOFT_HELD, or LOCKED with its LOST flag. -/
inductive Capture (ρ : Type)
  | empty
  | softHeld (report : ρ)
  | locked (report : ρ) (lost : Bool)
deriving DecidableEq, Repr

/-- R203: the eighteen counters. -/
structure Counters where
  framesSent : Nat
  arbLoss : Nat
  rxEvent : Nat
  rxStatus : Nat
  rxService : Nat
  rxDropEvent : Nat
  rxDropStatus : Nat
  rxDropService : Nat
  echoMissing : Nat
  checkFail : Nat
  txOverflow : Nat
  listEvict : Nat
  claimsWon : Nat
  claimsYielded : Nat
  claimUnmatched : Nat
  refusalsSent : Nat
  softFaults : Nat
  foreignVehicle : Nat
deriving DecidableEq, Repr

/-- The captures, the counters, the commit (running or idle), a HALT that waits for it (R197, R208), and the
service timer (R209). -/
structure Diag where
  meas : Capture MeasReport
  link : Capture LinkReport
  counters : Counters
  commit : Timer
  haltWaiting : Bool
  service : Timer
deriving DecidableEq, Repr

/-- R201: the store: one configuration record with its sum. -/
structure Store where
  contents : Conf
  sum : Word16
deriving DecidableEq, Repr

/-- Section 11.2: the three copies of the configuration record, and CONFIG_DEFAULTED. -/
structure Configuration where
  running : Conf
  working : Conf
  store : Store
  defaulted : Bool
deriving DecidableEq, Repr

/-! ### The whole station -/

/-- The station. pending is the queue of the commands that wait, first in, first out; powered says whether
the supply is there; freeCount is the model's own counter of free values (log entry 5). -/
structure State where
  pending : List Instr
  powered : Bool
  freeCount : Nat
  straps : BitVec 5
  config : Configuration
  sfe : Sfe
  sweep : SweepCtl
  classes : Four ClsState
  table : Positions
  lamps : Four Lamp
  departures : List DepEntry
  duty : Duty
  link : Link
  emission : Emission
  vehicle : Vehicle
  modeCtl : ModeCtl
  diag : Diag
deriving DecidableEq, Repr

/-- No meaning of this block ends in a fault: every command the spec names has an effect, and a command that
cannot occur in a state changes nothing (log entry 2). Raised by nobody; closed. -/
inductive Fault
deriving DecidableEq, Repr

/-- Why a command has no meaning. -/
inductive Refusal
  /-- A row of the table whose meaning is not written yet. Raised by exec alone; safe: the machine stops. -/
  | notModelled (mnemonic : String)
deriving DecidableEq, Repr

/-- What a meaning answers. -/
abbrev Out := Host.Outcome State Fault Refusal

/-! ### One setter per block -/

/-- Replace the queue. -/
def State.setPending (s : State) (x : List Instr) : State := { s with pending := x }
/-- Replace the supply state. -/
def State.setPowered (s : State) (x : Bool) : State := { s with powered := x }
/-- Replace the free-value counter. -/
def State.setFreeCount (s : State) (x : Nat) : State := { s with freeCount := x }
/-- Replace the straps as read. -/
def State.setStraps (s : State) (x : BitVec 5) : State := { s with straps := x }
/-- Replace the configuration copies. -/
def State.setConfig (s : State) (x : Configuration) : State := { s with config := x }
/-- Replace the sensing state. -/
def State.setSfe (s : State) (x : Sfe) : State := { s with sfe := x }
/-- Replace the sweep controller. -/
def State.setSweep (s : State) (x : SweepCtl) : State := { s with sweep := x }
/-- Replace the classifier state. -/
def State.setClasses (s : State) (x : Four ClsState) : State := { s with classes := x }
/-- Replace the position table. -/
def State.setTable (s : State) (x : Positions) : State := { s with table := x }
/-- Replace the lamps. -/
def State.setLamps (s : State) (x : Four Lamp) : State := { s with lamps := x }
/-- Replace the Departure List. -/
def State.setDepartures (s : State) (x : List DepEntry) : State := { s with departures := x }
/-- Replace the duty unit. -/
def State.setDuty (s : State) (x : Duty) : State := { s with duty := x }
/-- Replace the row link controller. -/
def State.setLink (s : State) (x : Link) : State := { s with link := x }
/-- Replace the STATE emission. -/
def State.setEmission (s : State) (x : Emission) : State := { s with emission := x }
/-- Replace the vehicle data record. -/
def State.setVehicle (s : State) (x : Vehicle) : State := { s with vehicle := x }
/-- Replace the mode controller. -/
def State.setModeCtl (s : State) (x : ModeCtl) : State := { s with modeCtl := x }
/-- Replace diagnosis. -/
def State.setDiag (s : State) (x : Diag) : State := { s with diag := x }

/-! ### After reset -/

/-- The straps of the state after reset: row 1, half A, duty strap set, so station 1 (DESIGN CHOICE, log
entry 3: the spec gives pins no reset value). -/
def resetPins : BitVec 5 := 0b10001

/-- The store of the state after reset: an unprogrammed one, all zero; its values lie out of their ranges, so
it is not good (DESIGN CHOICE, log entry 4). -/
def blankStore : Store where
  contents :=
    { fittedMask := 0, joinMap := 0, buckleMask := 0, tagMask := 0, gain := Four.const 0, zero := Four.const 0
      pzero := Four.const 0, tObjOn := 0, tObjOff := 0, tSmallOn := 0, tSmallOff := 0, tAdultOn := 0
      tAdultOff := 0, tCsOn := 0, tCsOff := 0, pOn := 0, pOff := 0, dwell := 0, tGrace := 0, tL1 := 0
      chimeLimit := 0, vTrip := 0, tMove := 0, tIdle := 0, tLeft := 0 }
  sum := 0

/-- The machine right after a power-on with the pins and the store above: every field at the value the spec's
tables of values after each reset give for power-on (R24, R37, R61, R82, R105, R126, R142, R168, R180, R199,
R210); the report's bytes, which R180 gives no value before the first completion, are the model's (log entry 8). -/
def State.reset : State where
  pending := []
  powered := true
  freeCount := 0
  straps := resetPins
  config := { running := Conf.default, working := Conf.default, store := blankStore, defaulted := true }
  sfe :=
    { channels := Four.const { held := none, reference := none }
      positions := Four.const
        { matRange := { hard := false, count := 0 }, matDisagree := { hard := false, count := 0 }
          matOpen := { hard := false, count := 0 }, presenceRange := { hard := false, count := 0 }
          belt := .unbuckled, beltRun := none, tagView := .none, tagRun := none }
      latch := none, latchRun := 0, watch := none }
  sweep := { count := 0, testCounter := 0, pointer := 0, flight := none, period := .running 50 }
  classes := Four.const
    { b16 := 16384, pb16 := 16384, lf := 0, shift := 0, presence := false, candidate := none, dwell := 0 }
  table :=
    { seats := Four.const { cls := .unscanned, record := none, securing := none }
      departureSeq := 0, unlatched := false, releasePending := false }
  lamps := Four.const .off
  departures := []
  duty :=
    { yielded := false
      roster := [⟨.absent, 0⟩, ⟨.absent, 0⟩, ⟨.absent, 0⟩, ⟨.absent, 0⟩, ⟨.absent, 0⟩, ⟨.absent, 0⟩, ⟨.absent, 0⟩,
        ⟨.absent, 0⟩, ⟨.absent, 0⟩, ⟨.absent, 0⟩, ⟨.absent, 0⟩, ⟨.absent, 0⟩, ⟨.absent, 0⟩]
      view := [.empty, .empty, .empty, .empty, .empty, .empty, .empty, .empty, .empty, .empty, .empty, .empty]
      pattern := .off, ttOn := false, ttMs := 0, chime := false }
  link :=
    { rxq := [], selfSlot := none, txq := [], lineSeq := 0, mismatchRun := 0, fence := .stopped, stuck := .stopped
      lineHeld := false, eventLoss := .stopped, stationClash := false, highWater := 0, wakePending := false, drive := .released }
  emission :=
    { report := [0, 0, 0, 0, 0, 0], lastPlaced := none, timer := .stopped, placedMark := false
      restarted := .running 0 }
  vehicle := { ignition := .off, speed := 0, fresh := false, ageMs := 2000, trip := false }
  modeCtl :=
    { mode := .active, idle := .running 0, window := none, alone := .running 0, watch := .stopped, vacantRun := 0
      leftBehindMs := 0, wakeCause := false }
  diag :=
    { meas := .empty, link := .empty
      counters :=
        { framesSent := 0, arbLoss := 0, rxEvent := 0, rxStatus := 0, rxService := 0, rxDropEvent := 0
          rxDropStatus := 0, rxDropService := 0, echoMissing := 0, checkFail := 0, txOverflow := 0, listEvict := 0
          claimsWon := 0, claimsYielded := 0, claimUnmatched := 0, refusalsSent := 0, softFaults := 0
          foreignVehicle := 0 }
      commit := .stopped, haltWaiting := false, service := .stopped }

end Sys2Proof.Machine
end

