-- ==== Sys2Proof/Machine/Operands.lean ====
section
/-! DEFINITION. What is read from the outside and how frames are laid out: the tag read (R17), the buckle
bands (R13), the codes and payloads of section 9.1 (R169, R170), the check byte (R146), the cells of a frame
(R144, R145) and the classes of a pulse (R156). -/

namespace Sys2Proof.Machine

/-! ### Readings -/

/-- R17: the result of a tag read. A reply with serial 0 or an undefined code is a COLLISION. -/
def tagResult : TagReply → TagResult
  | .silence => .noReply
  | .overlap => .collision
  | .reply checkPassed serial (some type) (some anchor) mass =>
    if checkPassed && serial != 0 then .valid { serial, type, anchor, mass } else .collision
  | .reply _ _ _ _ _ => .collision

/-- R13: the five bands of a buckle ratio. -/
inductive Band | short | buckled | unbuckled | between | open
deriving DecidableEq, Repr

/-- R13: the band of a ratio. -/
def bandOf (ratio : Byte) : Band :=
  let r := ratio.toNat
  if r ≤ 19 then .short else if r ≤ 99 then .buckled else if r ≤ 179 then .unbuckled
  else if r ≤ 219 then .between else .open

/-- R13: the group of a band. -/
def Band.group : Band → BandGroup
  | .buckled => .buckled
  | .unbuckled => .unbuckled
  | .short | .between | .open => .fault

/-- R15: the fault kind of a band of the fault group. -/
def Band.faultKind : Band → MeasFault
  | .short => .buckleShort
  | .between => .buckleBetween
  | .open | .buckled | .unbuckled => .buckleOpen

/-! ### Codes (section 9.1, R205) -/

/-- Class codes. -/
def Cls.code : Cls → Nat
  | .absent => 0 | .unscanned => 1 | .empty => 2 | .object => 3 | .small => 4 | .adult => 5
  | .unsized => 6 | .unknown => 7 | .csEmpty => 8 | .csOccupied => 9

/-- The class of a code; 10 to 15 are undefined. -/
def Cls.ofCode : Nat → Option Cls
  | 0 => some .absent | 1 => some .unscanned | 2 => some .empty | 3 => some .object | 4 => some .small
  | 5 => some .adult | 6 => some .unsized | 7 => some .unknown | 8 => some .csEmpty | 9 => some .csOccupied
  | _ => none

/-- Level codes. -/
def Level.code : Level → Nat
  | .quiet => 0 | .grace => 1 | .level1 => 2 | .level2 => 3 | .spent => 4

/-- The level of a code; 5 to 7 are undefined. -/
def Level.ofCode : Nat → Option Level
  | 0 => some .quiet | 1 => some .grace | 2 => some .level1 | 3 => some .level2 | 4 => some .spent
  | _ => none

/-- Belt state codes. -/
def BeltState.code : BeltState → Nat
  | .buckled => 0 | .unbuckled => 1 | .fault => 2 | .notFitted => 3

/-- Tag type codes: 0 none. -/
def tagTypeCode : TagType → Nat
  | .infantRear => 1 | .childForward => 2 | .booster => 3

/-- The tag type of a code; 0 is none. -/
def tagTypeOfCode : Nat → Option TagType
  | 1 => some .infantRear | 2 => some .childForward | 3 => some .booster
  | _ => none

/-- Anchor codes (R35). -/
def anchorCode : Anchor → Nat
  | .belt => 0 | .bar => 1

/-- Frame kind numbers. -/
def FrameKind.code : FrameKind → Nat
  | .sleepRefuse => 1 | .claim => 2 | .depart => 3 | .rowRelease => 4 | .alert => 5 | .vehicle => 6
  | .state => 7 | .sleepPropose => 8 | .diagQuery => 10 | .diagReply => 11 | .config => 12

/-- R146: the known kinds are 1 to 8 and 10 to 12. -/
def FrameKind.ofCode : Nat → Option FrameKind
  | 1 => some .sleepRefuse | 2 => some .claim | 3 => some .depart | 4 => some .rowRelease | 5 => some .alert
  | 6 => some .vehicle | 7 => some .state | 8 => some .sleepPropose | 10 => some .diagQuery
  | 11 => some .diagReply | 12 => some .config
  | _ => none

/-- The payload length of a kind (section 9.1). -/
def FrameKind.payloadLength : FrameKind → Nat
  | .sleepRefuse => 1 | .claim => 3 | .depart => 6 | .rowRelease => 0 | .alert => 2 | .vehicle => 2
  | .state => 6 | .sleepPropose => 0 | .diagQuery => 3 | .diagReply => 6 | .config => 4

/-- The three classes of received frame; a DIAG_REPLY has none (R160). -/
inductive FrameClass | event | status | service
deriving DecidableEq, Repr

/-- R160: the class of a kind. -/
def FrameKind.frameClass : FrameKind → Option FrameClass
  | .sleepRefuse | .claim | .depart | .rowRelease | .alert | .sleepPropose => some .event
  | .vehicle | .state => some .status
  | .diagQuery | .config => some .service
  | .diagReply => none

/-- The refusal reasons of a SLEEP_REFUSE (R184). -/
inductive Reason | service | alertActive | latchOpen | recentActivity
deriving DecidableEq, Repr

/-- Reason codes (section 9.1). -/
def Reason.code : Reason → Nat
  | .recentActivity => 1 | .service => 2 | .alertActive => 3 | .latchOpen => 4

/-- R204: the results of a DIAG or CONFIG frame. -/
inductive Result | ok | clamped | badItem | notService | moving | busy | badJoin
deriving DecidableEq, Repr

/-- Result codes. -/
def Result.code : Result → Nat
  | .ok => 0 | .clamped => 1 | .badItem => 2 | .notService => 3 | .moving => 4 | .busy => 5 | .badJoin => 6

/-- Roster slot state codes (R204). -/
def SlotState.code : SlotState → Nat
  | .absent => 0 | .live => 1 | .silent => 2 | .lost => 3 | .released => 4

/-- Measurement fault codes (R205). -/
def MeasFault.code : MeasFault → Nat
  | .matRange => 1 | .matDisagree => 2 | .matOpen => 3 | .presenceRange => 4 | .buckleShort => 5
  | .buckleBetween => 6 | .buckleOpen => 7 | .tagUnclear => 8

/-- Link fault codes (R205). -/
def LinkFault.code : LinkFault → Nat
  | .checkFail => 1 | .inconsistent => 2 | .form => 3 | .bitMismatch => 4 | .echoMissing => 5
  | .stationClash => 6 | .lineStuck => 7 | .fenceEntry => 8

/-- Severity codes (R205). -/
def Severity.code : Severity → Nat
  | .soft => 0 | .hard => 1

/-- Origin codes (R205); 0 is no record. -/
def Origin.code : Origin → Nat
  | .boarded => 1 | .restored => 2 | .untraced => 3 | .claiming _ => 4 | .moved _ => 5

/-- Alert state codes (R205). -/
def Alert.code : Alert → Nat
  | .none => 0 | .active _ _ => 1 | .acknowledged => 2 | .expired => 3

/-- Tag view codes (R205). -/
def TagView.code : TagView → Nat
  | .none => 0 | .present _ => 1 | .unclear => 2

/-! ### Payloads -/

/-- The header: kind in the high four bits, station in the low four (R146). -/
def headerByte (kind : FrameKind) (station : StationNo) : Byte := toByte (kind.code * 16 + station.toNat)

/-- The station field of a header. -/
def headerStation (header : Byte) : StationNo := BitVec.ofNat 4 header.toNat

/-- The kind of a header, none where it is not known. -/
def headerKind (header : Byte) : Option FrameKind := FrameKind.ofCode (header.toNat / 16)

/-- A departure tag as CLAIM bytes 0 and 1 carry it. -/
def tagBytes (t : DepTag) : List Byte :=
  [toByte (t.station.toNat * 16 + t.pos.val * 4 + t.seq.toNat / 256), toByte (t.seq.toNat % 256)]

/-- The departure tag that two bytes carry. -/
def tagOfBytes (b0 b1 : Byte) : DepTag where
  station := BitVec.ofNat 4 (b0.toNat / 16)
  pos := ⟨b0.toNat / 4 % 4, Nat.mod_lt _ (by decide)⟩
  seq := BitVec.ofNat 10 (b0.toNat % 4 * 256 + b1.toNat)

/-- R115: the match kinds. -/
inductive MatchKind | serial | cls
deriving DecidableEq, Repr

/-- CLAIM: departure tag, claimer position in bits 7–6, match kind in bit 5 (1 CLASS), the rest 0. -/
def claimPayload (tag : DepTag) (claimer : Pos) (kind : MatchKind) : List Byte :=
  tagBytes tag ++ [toByte (claimer.val * 64 + (match kind with | .serial => 0 | .cls => 32))]

/-- DEPART: the fields of a departure entry (R169). -/
def departPayload (e : DepEntry) : List Byte :=
  tagBytes e.tag
  ++ [toByte (e.cls.code * 16 + (if e.wasBelted then 8 else 0)
        + (match e.child with | some c => 4 + tagTypeCode c.type | none => 0)),
      toByte e.chime]
  ++ twoBytes (match e.child with | some c => c.serial.toNat | none => 0)

/-- R109, R170: the entry of a DEPART payload, none where the frame is discarded. -/
def entryOfDepart (payload : List Byte) : Option DepEntry :=
  let tag := tagOfBytes (byteAt payload 0) (byteAt payload 1)
  let flags := (byteAt payload 2).toNat
  let serial : Word16 := BitVec.ofNat 16 (ofTwoBytes (byteAt payload 4) (byteAt payload 5))
  let chime := min (byteAt payload 3).toNat 180
  match Cls.ofCode (flags / 16) with
  | none => none
  | some cls =>
    if !cls.isOccupant || !tag.station.isRow then none
    else
      let entry (child : Option ChildId) : DepEntry :=
        { tag, cls, wasBelted := flags / 8 % 2 == 1, chime, child, ageMs := 0 }
      if flags / 4 % 2 == 1 then
        match tagTypeOfCode (flags % 4) with
        | none => none
        | some type => if serial == 0 then none else some (entry (some { serial, type }))
      else some (entry none)

/-- ALERT: position in bits 7–6 and class in bits 5–2, then the count. -/
def alertPayload (p : Pos) (cls : Cls) (count : Nat) : List Byte :=
  [toByte (p.val * 64 + cls.code * 4), toByte count]

/-- The position an ALERT payload names. -/
def alertPos (payload : List Byte) : Pos := ⟨(byteAt payload 0).toNat / 64 % 4, Nat.mod_lt _ (by decide)⟩

/-- The count an ALERT payload carries. -/
def alertCountOf (payload : List Byte) : Nat := (byteAt payload 1).toNat

/-- SLEEP_REFUSE: the reason. -/
def refusePayload (r : Reason) : List Byte := [toByte r.code]

/-- DIAG_REPLY: item, result, four data bytes; bytes not used are 0 (R169). -/
def replyPayload (item : Nat) (result : Result) (data : List Byte) : List Byte :=
  [toByte item, toByte result.code, byteAt data 0, byteAt data 1, byteAt data 2, byteAt data 3]

/-- STATE position byte: class, level, kind bit. -/
def positionByte (cls : Cls) (level : Level) (secure : Bool) : Byte :=
  toByte (cls.code * 16 + level.code * 2 + (if secure then 1 else 0))

/-- The slot a STATE position byte gives; none for an undefined class or level code (R134). -/
def slotOfByte (b : Byte) : Option ViewSlot :=
  match Cls.ofCode (b.toNat / 16), Level.ofCode (b.toNat / 2 % 8) with
  | some cls, some level => some { cls, level }
  | _, _ => none

/-- STATE belt byte: position 0 in bits 7–6, on to position 3 in bits 1–0. -/
def beltByte (belts : Four BeltState) : Byte :=
  toByte (belts.c0.code * 64 + belts.c1.code * 16 + belts.c2.code * 4 + belts.c3.code)

/-- What a VEHICLE payload carries (section 9.1); none for an invalid ignition or speed. -/
structure VehicleFrame where
  ignition : Option Ignition
  speed : Option Nat
  doorOpen : Bool
  acknowledge : Bool
deriving DecidableEq, Repr

/-- R170, R175: reading a VEHICLE payload. -/
def vehicleOfPayload (payload : List Byte) : VehicleFrame :=
  let b := (byteAt payload 0).toNat
  let v := (byteAt payload 1).toNat
  { ignition := match b / 64 with | 0 => some .off | 1 => some .acc | 2 => some .on | _ => none
    speed := if v ≤ 250 then some v else none
    doorOpen := 0 < b / 4 % 16
    acknowledge := b / 2 % 2 == 1 }

/-! ### Check byte (R146) -/

/-- One bit into the check register. -/
def crcBit (reg : Byte) (bit : Bool) : Byte :=
  if reg.msb != bit then (reg <<< 1) ^^^ 0x07 else reg <<< 1

/-- The bits of a byte, most significant first. -/
def bitsOf (b : Byte) : List Bool :=
  [b.getLsbD 7, b.getLsbD 6, b.getLsbD 5, b.getLsbD 4, b.getLsbD 3, b.getLsbD 2, b.getLsbD 1, b.getLsbD 0]

/-- One byte into the check register. -/
def crcByte (reg b : Byte) : Byte := (bitsOf b).foldl crcBit reg

/-- The check byte over header and payload. -/
def crc (bytes : List Byte) : Byte := bytes.foldl crcByte 0

/-! ### Cells (R144, R145) -/

/-- The cell a transmitter drives for a bit: 13 µs for 1, 27 µs for 0, in a cell of 40 µs. -/
def cellOfBit (bit : Bool) : LineCell := { gap := 40, dominant := if bit then 13 else 27 }

/-- The start cell. -/
def startCell : LineCell := { gap := 40, dominant := 36 }

/-- The bytes of a frame from the header to the check byte. -/
def frameBytes (header : Byte) (payload : List Byte) : List Byte :=
  (header :: payload) ++ [crc (header :: payload)]

/-- The cells a transmitter drives for a frame, from the start cell to the last cell of the check byte. -/
def frameCells (header : Byte) (payload : List Byte) : List LineCell :=
  startCell :: ((frameBytes header payload).flatMap bitsOf).map cellOfBit

/-- R145: what a dominant length is read as. -/
inductive CellShape | bit (value : Bool) | start | wrong | long
deriving DecidableEq, Repr

/-- R145: the table of dominant lengths. -/
def cellShape (dominant : Nat) : CellShape :=
  if dominant < 8 then .wrong
  else if dominant ≤ 18 then .bit true
  else if dominant ≤ 21 then .wrong
  else if dominant ≤ 31 then .bit false
  else if dominant ≤ 38 then .start
  else .long

/-- How the reading of a frame's cells ends: a whole frame with header, payload and check byte; FORM with the
bytes read; or cut off by a long dominant, which the pulse alone reports (R156). -/
inductive Reading
  | frame (kind : FrameKind) (header : Byte) (payload : List Byte) (check : Byte)
  | form (bytes : List Byte)
  | cutByPulse
deriving DecidableEq, Repr

/-- What the bytes read so far come to, after a byte is complete: an unknown kind ends the reception at once
(R146), the check byte completes it. -/
def afterByte (bytes : List Byte) : Option Reading :=
  match bytes with
  | [] => none
  | header :: rest =>
    match headerKind header with
    | none => some (.form bytes)
    | some kind =>
      if rest.length == kind.payloadLength + 1 then
        some (.frame kind header (rest.take kind.payloadLength) (byteAt rest kind.payloadLength))
      else none

/-- R145: reading the cells after the start cell; bytes are the whole bytes read, bits the bits of the byte
being read, first bit first. -/
def readCells : List LineCell → List Byte → List Bool → Reading
  | [], bytes, _ => .form bytes
  | cell :: rest, bytes, bits =>
    if cell.gap < 36 || 44 < cell.gap then .form bytes
    else
      match cellShape cell.dominant with
      | .wrong => .form bytes
      | .start => .form bytes
      | .long => .cutByPulse
      | .bit b =>
        if bits.length == 7 then
          let byte : Byte := (bits ++ [b]).foldl (fun acc x => (acc <<< 1) ||| (if x then 1 else 0)) 0
          match afterByte (bytes ++ [byte]) with
          | some reading => reading
          | none => readCells rest (bytes ++ [byte]) []
        else readCells rest bytes (bits ++ [b])

/-- R145: the first cell must be a start cell. -/
def readFrame : List LineCell → Reading
  | [] => .form []
  | first :: rest =>
    match cellShape first.dominant with
    | .start => readCells rest [] []
    | .long => .cutByPulse
    | .wrong => .form []
    | .bit _ => .form []

/-! ### Pulses (R156) -/

/-- The classes of a long dominant when it ends. -/
inductive PulseClass | none | form | wake | halt | lineStuck
deriving DecidableEq, Repr

/-- R156: the class of a dominant of so many microseconds. -/
def pulseClass (length : Nat) : PulseClass :=
  if length ≤ 38 then .none
  else if length < 1000 then .form
  else if length ≤ 2000 then .wake
  else if length < 4000 then .form
  else if length ≤ 6000 then .halt
  else if length ≤ 10000 then .form
  else .lineStuck

end Sys2Proof.Machine
end

