-- ==== Sys2Proof/Machine/Flags.lean ====
section
/-! DEFINITION. What is derived from the state and held nowhere: effective ignition and speed (R177), duty
(R127), refusal reasons (R184), the due condition (R87), lamps (R102), the tell-tale pattern and chime request
(R137 to R140), the report and its flags byte (R171). -/

namespace Sys2Proof.Machine

/-! ### Station and vehicle -/

/-- R200: the station's number, 0 with invalid straps. -/
def State.station (s : State) : StationNo := stationOf s.straps

/-- R167: the straps are valid. -/
def State.validStraps (s : State) : Bool := strapsValid s.straps

/-- R177: the effective ignition is the reported one, whatever the freshness. -/
def Vehicle.effIgnition (v : Vehicle) : Ignition := v.ignition

/-- R177: the effective speed. -/
def Vehicle.effSpeed (v : Vehicle) (c : Conf) : Nat :=
  if v.fresh then v.speed else if v.ignition = .on then c.vTrip else 0

/-- R177: VEHICLE_LOST. -/
def Vehicle.lostFlag (v : Vehicle) : Bool := !v.fresh && v.ignition == .on

/-- The effective ignition is ON. -/
def State.ignitionOn (s : State) : Bool := s.vehicle.effIgnition == .on

/-- The effective speed of the station. -/
def State.effSpeed (s : State) : Nat := s.vehicle.effSpeed s.config.running

/-- The effective speed is at or above V_trip. -/
def State.atSpeed (s : State) : Bool := s.config.running.vTrip ≤ s.effSpeed

/-! ### Positions and records -/

/-- Some own position's settled class is an occupant class (R186, R189). -/
def Positions.anyOccupant (t : Positions) : Bool := t.seats.any fun seat => seat.cls.isOccupant

/-- R191: a record qualifies for the left-behind watch. -/
def Record.qualifies (r : Record) : Bool := (r.cls == .csOccupied || r.cls == .small) && r.alert == .none

/-- R191: some own record qualifies. -/
def Positions.anyQualifies (t : Positions) : Bool := t.seats.any fun seat => seat.record.any Record.qualifies

/-- An alert is ACTIVE. -/
def Alert.isActive : Alert → Bool
  | .active _ _ => true
  | .none | .acknowledged | .expired => false

/-- R184: some own record's alert is ACTIVE. -/
def Positions.anyAlert (t : Positions) : Bool := t.seats.any fun seat => seat.record.any fun r => r.alert.isActive

/-- R109: the tag is the pending claim or the MOVED origin of this record. -/
def Record.holdsTag (r : Record) (tag : DepTag) : Bool :=
  match r.origin with
  | .claiming e => e.tag == tag
  | .moved t => t == tag
  | .boarded | .restored | .untraced => false

/-- R109: the tag is pending or settled at some record of this station. -/
def Positions.holdsTag (t : Positions) (tag : DepTag) : Bool :=
  t.seats.any fun seat => seat.record.any fun r => r.holdsTag tag

/-- R191: the left-behind timer runs. -/
def State.leftBehindRuns (s : State) : Bool := s.modeCtl.mode == .watch && s.table.anyQualifies

/-! ### Reminders (R85, R87) -/

/-- R85, R77: the reminder kind of a class with its tag part. -/
def reminderKind (cls : Cls) (tag : Option TagPart) : ReminderKind :=
  if cls = .csOccupied then
    match tag with
    | none => .occupant
    | some t =>
      match t.type, t.anchor with
      | .booster, _ => .occupant
      | .infantRear, .belt => .secure
      | .childForward, .belt => .secure
      | .infantRear, .bar => .none
      | .childForward, .bar => .none
  else .occupant

/-- R87: the belt state of a due reminder. -/
def BeltState.unfastened : BeltState → Bool
  | .unbuckled | .fault => true
  | .buckled | .notFitted => false

/-- R87: a reminder of this kind is due. -/
def isDue (kind : ReminderKind) (belt : BeltState) (ignitionOn : Bool) : Bool :=
  kind != .none && belt.unfastened && ignitionOn

/-- R86: the restraint in view keeps or makes a securing state. -/
def TagRecord.needsSecuring (r : TagRecord) : Bool := r.type != .booster && r.anchor == .belt

/-- The level at a position: its record's, its securing state's, else QUIET (R102). -/
def Seat.level (seat : Seat) : Level :=
  match seat.record with
  | some r => r.level
  | none => seat.securing.getD .quiet

/-- R102: the lamp of a level in ACTIVE; a lamp that flashes already keeps its phase. -/
def lampOf (active : Bool) (level : Level) (before : Lamp) : Lamp :=
  if !active then .off
  else
    match level with
    | .quiet => .off
    | .grace | .level1 | .spent => .steady
    | .level2 =>
      match before with
      | .flashing on ms => .flashing on ms
      | .off | .steady => .flashing true 0

/-! ### Duty (R127, R137 to R140) -/

/-- R127: the station holds duty. -/
def State.holdsDuty (s : State) : Bool := strapDuty s.straps && s.validStraps && !s.duty.yielded

/-- R137: the outputs are driven. -/
def State.outputsDriven (s : State) : Bool := s.holdsDuty && s.modeCtl.mode == .active && s.ignitionOn

/-- R133: a slot contributes while its class is neither ABSENT nor UNSCANNED. -/
def ViewSlot.contributes (v : ViewSlot) : Bool := v.cls != .absent && v.cls != .unscanned

/-- Some contributing slot of a FILLED row meets c. -/
def ViewRow.anySlot (c : Level → Bool) : ViewRow → Bool
  | .empty => false
  | .filled _ slots => slots.any fun v => v.contributes && c v.level

/-- A FILLED row has UNLATCHED set. -/
def ViewRow.isUnlatched : ViewRow → Bool
  | .empty => false
  | .filled u _ => u

/-- R140: some contributing slot of the view is at LEVEL_2. -/
def Duty.anyLevel2 (d : Duty) : Bool := d.view.any (ViewRow.anySlot fun l => l == .level2)

/-- R138: some contributing slot is at GRACE, LEVEL_1 or SPENT. -/
def Duty.anySteady (d : Duty) : Bool :=
  d.view.any (ViewRow.anySlot fun l => l == .grace || l == .level1 || l == .spent)

/-- R138, priority 2: some cause of DEGRADED. -/
def State.degraded (s : State) : Bool :=
  s.duty.roster.any (fun slot => slot.state == .silent || slot.state == .lost)
  || s.duty.view.any ViewRow.isUnlatched || s.table.unlatched || s.vehicle.lostFlag

/-- R137, R138: the tell-tale pattern the state gives. -/
def State.patternWanted (s : State) : Pattern :=
  if !s.outputsDriven then .off
  else if s.duty.anyLevel2 then .flash
  else if s.degraded then .degraded
  else if s.duty.anySteady then .steady
  else .off

/-- R140: the chime request the state gives. -/
def State.chimeWanted (s : State) : Bool := s.outputsDriven && s.duty.anyLevel2

/-! ### Refusal reasons (R184) -/

/-- R184: RECENT_ACTIVITY. -/
def State.recentActivity (s : State) : Bool :=
  match s.modeCtl.idle with
  | .running ms => ms < recentMs
  | .stopped => s.ignitionOn

/-- R184: the first refusal reason that holds. -/
def State.refusalReason (s : State) : Option Reason :=
  if s.modeCtl.mode = .service then some .service
  else if s.table.anyAlert then some .alertActive
  else if s.sfe.latch = some .opened then some .latchOpen
  else if s.recentActivity then some .recentActivity
  else none

/-! ### The report (R103, R171) -/

/-- R103: the level and the kind bit (true for SECURE) a position sends. -/
def Seat.reminderSent (seat : Seat) : Level × Bool :=
  match seat.record with
  | some r =>
    match r.kind with
    | .occupant => (r.level, false)
    | .secure => (r.level, true)
    | .none => (.quiet, false)
  | none =>
    match seat.securing with
    | some level => (level, true)
    | none => (.quiet, false)

/-- R103, R171: the position byte. -/
def Seat.byte (seat : Seat) : Byte := positionByte seat.cls seat.reminderSent.1 seat.reminderSent.2

/-- A capture is LOCKED. -/
def Capture.isLocked {ρ : Type} : Capture ρ → Bool
  | .locked _ _ => true
  | .empty | .softHeld _ => false

/-- A timer runs. -/
def Timer.isRunning : Timer → Bool
  | .running _ => true
  | .stopped => false

/-- R171: FAULT_HELD. -/
def State.faultHeld (s : State) : Bool :=
  s.diag.meas.isLocked || s.diag.link.isLocked || s.config.defaulted

/-- R171: the flags byte, RESTARTED in bit 7 down to SERVICE in bit 0. -/
def State.flagsByte (s : State) : Byte :=
  toByte ((if s.emission.restarted.isRunning then 128 else 0)
    + (if s.link.eventLoss.isRunning then 64 else 0)
    + (if s.vehicle.lostFlag then 32 else 0)
    + (if s.table.unlatched then 16 else 0)
    + (if s.holdsDuty then 8 else 0)
    + (if s.link.stationClash || s.duty.yielded then 4 else 0)
    + (if s.faultHeld then 2 else 0)
    + (if s.modeCtl.mode = .service then 1 else 0))

/-- R171: the belt state a number sends, NOT_FITTED where it is ABSENT. -/
def State.beltSent (s : State) (p : Pos) : BeltState :=
  if (s.table.seats.get p).cls = .absent then .notFitted else (s.sfe.positions.get p).belt

/-- R171: the report built from the state as it stands. -/
def State.buildReport (s : State) : List Byte :=
  [s.table.seats.c0.byte, s.table.seats.c1.byte, s.table.seats.c2.byte, s.table.seats.c3.byte,
   beltByte (Four.ofFn s.beltSent), s.flagsByte]

end Sys2Proof.Machine
end

