-- ==== Sys2Proof/Machine/Ops.lean ====
section
/-! DEFINITION. The operations the blocks share: guarded answers, fault reports and counters (R202, R203), the
transmit queue (R164, R165), the receive queue and the handler's order (R160 to R163), the Departure List
(R107 to R111), ending claims (R121), alerts (R193), lamps, tell-tale and STATE placing (R102, R138, R172).
An operation is written as one new value per block it touches, so that the blocks it leaves alone are
unchanged by definition. -/

namespace Sys2Proof.Machine

/-! ### Answers -/

/-- A command that can occur has its effect; one that cannot leaves the state (log entry 2). -/
def onlyIf (canOccur : Bool) (after before : State) : Out := .next (if canOccur then after else before)

/-! ### Timers -/

/-- A running timer returns to 0 and runs on; a stopped one stays stopped. -/
def Timer.restart : Timer → Timer
  | .running _ => .running 0
  | .stopped => .stopped

/-- A running timer one millisecond on, not beyond its limit. -/
def Timer.tick (limit : Nat) : Timer → Timer
  | .running ms => if ms < limit then .running (ms + 1) else .running ms
  | .stopped => .stopped

/-- A running timer stands at its limit: where an event that restarts it is taken first, its expiry does not occur
(as R174, R182, R187 and R191 say; log entry 2). -/
def Timer.isAt (limit : Nat) : Timer → Bool
  | .running ms => limit ≤ ms
  | .stopped => false

/-! ### Fault reports and counters -/

/-- R202: the table of capture transitions. -/
def Capture.apply {ρ : Type} (c : Capture ρ) (severity : Severity) (report : ρ) : Capture ρ :=
  match c, severity with
  | .empty, .soft => .softHeld report
  | .empty, .hard => .locked report false
  | .softHeld held, .soft => .softHeld held
  | .softHeld _, .hard => .locked report false
  | .locked held _, _ => .locked held true

/-- R202: every soft report adds 1 to SOFT_FAULTS. -/
def Counters.softReport (c : Counters) (severity : Severity) : Counters :=
  match severity with
  | .soft => { c with softFaults := saturatingSucc c.softFaults }
  | .hard => c

/-- R23, R202: a measurement report goes to its capture. -/
def Diag.reportMeas (d : Diag) (r : MeasReport) : Diag :=
  { d with meas := d.meas.apply r.severity r, counters := d.counters.softReport r.severity }

/-- R155: the severity of a link fault. -/
def LinkFault.severity : LinkFault → Severity
  | .checkFail | .form | .bitMismatch | .echoMissing => .soft
  | .inconsistent | .stationClash | .lineStuck | .fenceEntry => .hard

/-- R155, R202: a link report goes to its capture. -/
def Diag.reportLink (d : Diag) (r : LinkReport) : Diag :=
  { d with link := d.link.apply r.severity r, counters := d.counters.softReport r.severity }

/-- R36, R155: a link fault judged now carries the sweep count as it stands. -/
def State.reportLink (s : State) (kind : LinkFault) (header : Byte) (payload : List Byte) : State :=
  s.setDiag (s.diag.reportLink
    { kind, severity := kind.severity, header, first := byteAt payload 0, second := byteAt payload 1
      stamp := s.sweep.count })

/-- Change the counters. -/
def State.count (s : State) (f : Counters → Counters) : State :=
  s.setDiag { s.diag with counters := f s.diag.counters }

/-! ### Transmit queue -/

/-- R164: a queued STATE given newer content: in place where it waits, kept beside it where it is being sent. -/
def TxEntry.give (e : TxEntry) (payload : List Byte) : TxEntry :=
  if e.sending then { e with newer := some payload } else { e with payload := payload }

/-- A waiting entry of a kind. -/
def TxEntry.waits (kind : FrameKind) (e : TxEntry) : Bool := e.kind == kind && !e.sending

/-- What offering a frame comes to. -/
structure Offer where
  txq : List TxEntry
  taken : Bool
  overflow : Bool
deriving DecidableEq, Repr

/-- R165: the queue an EVENT frame finds after displacing the waiting STATE, or else the waiting DIAG_REPLY
placed first; none where neither waits. -/
def displace (q : List TxEntry) : Option (List TxEntry) :=
  if q.any (TxEntry.waits .state) then some (q.eraseP (TxEntry.waits .state))
  else if q.any (TxEntry.waits .diagReply) then some (q.eraseP (TxEntry.waits .diagReply))
  else none

/-- R164, R165: a frame offered to the queue. -/
def offerEntry (q : List TxEntry) (e : TxEntry) : Offer :=
  if e.kind == .state && q.any (fun x => x.kind == .state) then
    { txq := q.map fun x => if x.kind == .state then x.give e.payload else x, taken := true, overflow := false }
  else if q.length < txCapacity then { txq := q ++ [e], taken := true, overflow := false }
  else if e.kind == .state || e.kind == .diagReply then { txq := q, taken := false, overflow := true }
  else
    match displace q with
    | some rest => { txq := rest ++ [e], taken := true, overflow := true }
    | none => { txq := q, taken := false, overflow := true }

/-- A new waiting entry. -/
def newEntry (kind : FrameKind) (payload : List Byte) (claim : Option ClaimRef) : TxEntry :=
  { kind, payload, sending := false, newer := none, claim }

/-- R167: a station with invalid straps refuses every frame with no counting. -/
def State.offerOf (s : State) (e : TxEntry) : Offer :=
  if s.validStraps then offerEntry s.link.txq e
  else { txq := s.link.txq, taken := false, overflow := false }

/-- R165: each frame refused or displaced adds 1 to TX_OVERFLOW. -/
def State.offerTx (s : State) (e : TxEntry) : State :=
  (s.setLink { s.link with txq := (s.offerOf e).txq }).setDiag
    { s.diag with counters :=
        if (s.offerOf e).overflow then
          { s.diag.counters with txOverflow := saturatingSucc s.diag.counters.txOverflow }
        else s.diag.counters }

/-- Place a frame of this kind. -/
def State.place (s : State) (kind : FrameKind) (payload : List Byte) : State :=
  s.offerTx (newEntry kind payload none)

/-- R114: the transmit queue can take a CLAIM. -/
def canTakeClaim (q : List TxEntry) : Bool :=
  q.length < txCapacity || q.any fun e => e.waits .state || e.waits .diagReply

/-- R164: an owner withdraws its waiting entries that meet c. -/
def State.withdraw (s : State) (c : TxEntry → Bool) : State :=
  s.setLink { s.link with txq := s.link.txq.filter fun e => e.sending || !c e }

/-- R183: own proposals still waiting are withdrawn. -/
def State.withdrawProposals (s : State) : State := s.withdraw fun e => e.kind == .sleepPropose

/-- R193: ALERTs of the record at p still waiting are withdrawn. -/
def State.withdrawAlerts (s : State) (p : Pos) : State :=
  s.withdraw fun e => e.kind == .alert && alertPos e.payload == p

/-- The entry being sent. -/
def Link.sendingEntry (l : Link) : Option TxEntry := l.txq.find? fun e => e.sending

/-! ### Receive queue -/

/-- R161: how many frames of a class the queue holds. -/
def Link.classCount (l : Link) (c : FrameClass) : Nat :=
  (l.rxq.filter fun f => f.kind.frameClass == some c).length

/-- R161: shared places in use. -/
def Link.sharedInUse (l : Link) : Nat :=
  (l.classCount .event - rxDedicated) + (l.classCount .status - rxDedicated) + (l.classCount .service - rxDedicated)

/-- R161: a frame of this class finds a place. -/
def Link.hasPlace (l : Link) (c : FrameClass) : Bool :=
  l.classCount c < rxDedicated || l.sharedInUse < rxShared

/-- R161: the frames held, the self slot included. -/
def Link.held (l : Link) : Nat := l.rxq.length + (if l.selfSlot.isSome then 1 else 0)

/-- R161: the receive high-water mark rises as frames are placed. -/
def Link.raiseMark (l : Link) : Link := { l with highWater := max l.highWater l.held }

/-- R161: a placed frame counts in RX of its class. -/
def Counters.rxPlaced (c : Counters) : FrameClass → Counters
  | .event => { c with rxEvent := saturatingSucc c.rxEvent }
  | .status => { c with rxStatus := saturatingSucc c.rxStatus }
  | .service => { c with rxService := saturatingSucc c.rxService }

/-- R161: a dropped frame counts in RX_DROP of its class. -/
def Counters.rxDropped (c : Counters) : FrameClass → Counters
  | .event => { c with rxDropEvent := saturatingSucc c.rxDropEvent }
  | .status => { c with rxDropStatus := saturatingSucc c.rxDropStatus }
  | .service => { c with rxDropService := saturatingSucc c.rxDropService }

/-- R160: a SERVICE frame is placed when it comes from station 13 and its target is this station. -/
def State.isAddressed (s : State) (f : RxFrame) : Bool :=
  s.validStraps && f.station == 13 && (byteAt f.payload 0).toNat == s.station.toNat

/-- R160: the class in which a frame is offered to the queue, none where it is not. -/
def State.offeredClass (s : State) (f : RxFrame) : Option FrameClass :=
  match f.kind.frameClass with
  | some .service => if s.isAddressed f then some .service else none
  | some c => some c
  | none => none

/-- R161: a frame offered to the queue is placed or dropped. -/
def State.offerRx (s : State) (f : RxFrame) : State :=
  match s.offeredClass f with
  | none => s
  | some c =>
    if s.link.hasPlace c then
      (s.setLink (Link.raiseMark { s.link with rxq := s.link.rxq ++ [f] })).count fun k => k.rxPlaced c
    else
      (s.setLink { s.link with eventLoss := if c = .event then .running 0 else s.link.eventLoss }).count
        fun k => k.rxDropped c

/-- What the handler takes next. -/
inductive Handled
  | own (claim : SelfClaim)
  | frame (frame : RxFrame)
deriving DecidableEq, Repr

/-- R161: of two waiting numbers, a stands before b. -/
def seqBefore (a b : Word16) : Bool := 1 ≤ (b - a).toNat && (b - a).toNat ≤ 32767

/-- The first waiting frame of a class; the queue is in line order. -/
def Link.firstOf (l : Link) (c : FrameClass) : Option RxFrame := l.rxq.find? fun f => f.kind.frameClass == some c

/-- R163: the handler's order: EVENT frames with the self slot in line order, then STATUS, then SERVICE. -/
def Link.nextHandled (l : Link) : Option Handled :=
  match l.firstOf .event, l.selfSlot with
  | some f, some c => if seqBefore c.seq f.seq then some (.own c) else some (.frame f)
  | some f, none => some (.frame f)
  | none, some c => some (.own c)
  | none, none =>
    match l.firstOf .status with
    | some f => some (.frame f)
    | none => (l.firstOf .service).map .frame

/-- R31, R163: the handler takes frames: no sweep is in flight and the station is not in STANDBY. -/
def State.handlerRuns (s : State) : Bool := s.powered && s.sweep.flight.isNone && s.modeCtl.mode != .standby

/-- The frame of this kind that the handler takes now, none where the next is another or the handler waits. -/
def State.nextFrame (s : State) (kind : FrameKind) : Option RxFrame :=
  if s.handlerRuns then
    match s.link.nextHandled with
    | some (.frame f) => if f.kind = kind then some f else none
    | some (.own _) => none
    | none => none
  else none

/-- R161: a place is freed when the handler takes its frame. -/
def State.takeFrame (s : State) (f : RxFrame) : State := s.setLink { s.link with rxq := s.link.rxq.erase f }

/-- The handler gives the next frame to its owner, where it is of this kind. -/
def State.handleFrame (s : State) (kind : FrameKind) (owner : RxFrame → State → State) : Out :=
  .next (match s.nextFrame kind with
    | some f => owner f (s.takeFrame f)
    | none => s)

/-! ### Seats and records -/

/-- Change the seat of a number. -/
def State.updateSeat (s : State) (p : Pos) (f : Seat → Seat) : State :=
  s.setTable { s.table with seats := s.table.seats.set p (f (s.table.seats.get p)) }

/-- Change the record of a position, where it has one. -/
def State.updateRecord (s : State) (p : Pos) (f : Record → Record) : State :=
  s.updateSeat p fun seat => { seat with record := seat.record.map f }

/-- The record of a position. -/
def State.recordAt (s : State) (p : Pos) : Option Record := (s.table.seats.get p).record

/-- Change every seat, knowing its number. -/
def State.mapSeats (s : State) (f : Pos → Seat → Seat) : State :=
  s.setTable { s.table with seats := Four.ofFn fun p => f p (s.table.seats.get p) }

/-! ### Departure List -/

/-- R112, R118: the entries with this tag leave. -/
def removeTag (list : List DepEntry) (tag : DepTag) : List DepEntry := list.filter fun e => e.tag != tag

/-- R110, R111: an entry joins: in place of one with the same tag, at the tail, or at the tail after evicting
the oldest. -/
def joinList (list : List DepEntry) (e : DepEntry) : List DepEntry :=
  if list.any (fun x => x.tag == e.tag) then list.map fun x => if x.tag == e.tag then e else x
  else if list.length < departureCapacity then list ++ [e]
  else list.tail ++ [e]

/-- R111: joining this entry evicts one. -/
def joinEvicts (list : List DepEntry) (e : DepEntry) : Bool :=
  !list.any (fun x => x.tag == e.tag) && departureCapacity ≤ list.length

/-- R108 to R111: an entry joins the station's list, unless its tag is pending or settled here. -/
def State.joinEntry (s : State) (e : DepEntry) : State :=
  if s.table.holdsTag e.tag then s
  else
    (s.setDepartures (joinList s.departures e)).count fun k =>
      if joinEvicts s.departures e then { k with listEvict := saturatingSucc k.listEvict } else k

/-! ### Claims -/

/-- The claim is the one made for this occupant and tag. -/
def ClaimRef.isFor (c : ClaimRef) (id : OccupantId) (tag : DepTag) : Bool := c.id == id && c.tag == tag

/-- R121: the void mark. -/
def ClaimRef.void (c : ClaimRef) : ClaimRef := { c with voided := true }

/-- R121: a claim is withdrawn where its CLAIM waits, and voided where it is being sent or sits in the self
slot. -/
def State.endClaim (s : State) (id : OccupantId) (tag : DepTag) : State :=
  s.setLink
    { s.link with
      txq := (s.link.txq.filter fun e => e.sending || !(e.claim.any fun c => c.isFor id tag)).map fun e =>
        { e with claim := e.claim.map fun c => if c.isFor id tag then c.void else c }
      selfSlot := s.link.selfSlot.map fun x => if x.claim.isFor id tag then { x with claim := x.claim.void } else x }

/-- R74, R83, R119: the claim of a CLAIMING record is ended. -/
def State.endClaimOf (s : State) (r : Record) : State :=
  match r.origin with
  | .claiming e => s.endClaim r.id e.tag
  | .boarded | .restored | .untraced | .moved _ => s

/-! ### Left-behind timer and alerts -/

/-- R191: set to 0 where no own record qualifies; tested at step 6 and at each end of a record. -/
def State.testLeftBehind (s : State) : State :=
  s.setModeCtl { s.modeCtl with leftBehindMs := if s.table.anyQualifies then s.modeCtl.leftBehindMs else 0 }

/-- R193: the alert of the record at p ends in this state, where it is ACTIVE; its waiting ALERTs are
withdrawn. -/
def State.endAlert (s : State) (p : Pos) (after : Alert) : State :=
  match s.recordAt p with
  | some r => if r.alert.isActive then (s.updateRecord p fun r => { r with alert := after }).withdrawAlerts p else s
  | none => s

/-- R193: every ACTIVE alert becomes ACKNOWLEDGED. -/
def State.acknowledgeAlerts (s : State) : State :=
  positionsInOrder.foldl (fun s p => s.endAlert p .acknowledged) s

/-- R193: the end of a record ends its alert with it; its waiting ALERTs are withdrawn where it was ACTIVE. -/
def State.withdrawAlertsOf (s : State) (p : Pos) (r : Record) : State :=
  if r.alert.isActive then s.withdrawAlerts p else s

/-! ### Outputs -/

/-- R102: the lamps follow the levels. -/
def State.refreshLamps (s : State) : State :=
  s.setLamps (Four.ofFn fun p =>
    lampOf (s.modeCtl.mode == .active) (s.table.seats.get p).level (s.lamps.get p))

/-- R138 to R140: pattern and chime request are worked out again; a pattern that changes begins with its on
phase, one that stays keeps its phase. -/
def State.refreshDuty (s : State) : State :=
  s.setDuty
    (if s.patternWanted = s.duty.pattern then { s.duty with chime := s.chimeWanted }
     else
      { s.duty with
        pattern := s.patternWanted, ttOn := s.patternWanted != .off, ttMs := 0, chime := s.chimeWanted })

/-- Both. -/
def State.refreshOutputs (s : State) : State := s.refreshLamps.refreshDuty

/-! ### STATE placing -/

/-- R172: placing a STATE with the report: the mark is set and the emission timer restarts whether or not the
queue takes the frame; the last placed content is the report only where it does. -/
def State.placeState (s : State) : State :=
  (s.place .state s.emission.report).setEmission
    { s.emission with
      placedMark := true
      timer := .running 0
      lastPlaced := if (s.offerOf (newEntry .state s.emission.report none)).taken then some s.emission.report
        else s.emission.lastPlaced }

/-- R171: the report is built from the state as it stands. -/
def State.rebuildReport (s : State) : State := s.setEmission { s.emission with report := s.buildReport }

/-! ### Idle timer and proposal window (R182 to R187) -/

/-- R184: a SLEEP_REFUSE with this reason is placed, the refused-here mark is set, REFUSALS_SENT counts a frame
the queue takes, and the own idle timer restarts. -/
def State.placeRefusal (s : State) (w : Window) (r : Reason) : State :=
  let e := newEntry .sleepRefuse (refusePayload r) none
  let placed := s.offerTx e
  (placed.count fun k => if (s.offerOf e).taken then { k with refusalsSent := saturatingSucc k.refusalsSent } else k).setModeCtl
    { s.modeCtl with window := some { w with refusedHere := true }, idle := s.modeCtl.idle.restart }

/-- R184: a test of the refusal reasons: the first in an opening that finds a reason places one SLEEP_REFUSE. -/
def State.testReasons (s : State) : State :=
  match s.modeCtl.window with
  | none => s
  | some w =>
    if w.refusedHere then s
    else
      match s.refusalReason with
      | none => s
      | some r => s.placeRefusal w r

/-- R182, R184: the idle timer is set to 0 where it runs, and the reasons are tested again. -/
def State.restartIdle (s : State) : State :=
  if s.modeCtl.idle.isRunning then
    (s.setModeCtl { s.modeCtl with idle := .running 0 }).testReasons
  else s

/-- R185: an open window closes. -/
def State.closeWindow (s : State) : State := s.setModeCtl { s.modeCtl with window := none }

/-- R184: a proposal ended on the line: in ACTIVE or SERVICE the window opens or restarts, and the reasons are
tested. -/
def State.openWindow (s : State) : State :=
  if s.modeCtl.mode = .active ∨ s.modeCtl.mode = .service then
    (s.setModeCtl { s.modeCtl with window := some { ms := 0, refusedHere := false } }).testReasons
  else s

/-- R159: a WAKE pulse asked for becomes pending; a station with invalid straps drops the request. -/
def State.requestWake (s : State) : State :=
  s.setLink { s.link with wakePending := s.link.wakePending || s.validStraps }

end Sys2Proof.Machine
end

