-- ==== Sys2Proof/Machine/Ladder.lean ====
section
/-! DEFINITION. The belt-reminder ladder of a record and of a securing state (R85 to R101), as functions of the
record, the running configuration and the vehicle data as they stand. -/

namespace Sys2Proof.Machine

/-- What a ladder reads beside its record. -/
structure LadderEnv where
  conf : Conf
  atSpeed : Bool
  ignitionOn : Bool
deriving DecidableEq, Repr

/-- The surroundings as they stand. -/
def State.ladderEnv (s : State) : LadderEnv :=
  { conf := s.config.running, atSpeed := s.atSpeed, ignitionOn := s.ignitionOn }

/-- A level with all four ladder timers stopped (section 5.3). -/
def Record.atLevel (r : Record) (level : Level) : Record :=
  { r with level, graceTimer := .stopped, escalation := .stopped, chimeTimer := .stopped, slowTimer := .stopped }

/-- R92 to R94: entry into LEVEL_2, or SPENT where chime time used has reached the limit. -/
def Record.toLevel2 (env : LadderEnv) (r : Record) : Record :=
  if env.conf.chimeLimit ≤ r.chimeUsed then r.atLevel .spent
  else
    { r.atLevel .level2 with
      chimeTimer := .running 0
      slowTimer := if env.atSpeed then .stopped else .running 0 }

/-- R91: entry into LEVEL_1; at speed the escalation timer starts, and with T_l1 at 0 the reminder goes on at
once. -/
def Record.toLevel1 (env : LadderEnv) (r : Record) : Record :=
  if env.atSpeed then
    if env.conf.tL1 = 0 then r.toLevel2 env else { r.atLevel .level1 with escalation := .running 0 }
  else r.atLevel .level1

/-- R90: GRACE gives way to LEVEL_1, and grace-used is set. -/
def Record.leaveGrace (env : LadderEnv) (r : Record) : Record := { r with graceUsed := true }.toLevel1 env

/-- R89, R90: entry into GRACE; with T_grace at 0 it gives way at once. -/
def Record.toGrace (env : LadderEnv) (r : Record) : Record :=
  if env.conf.tGrace = 0 then r.leaveGrace env else { r.atLevel .grace with graceTimer := .running 0 }

/-- R89: the origin is MOVED or UNTRACED, or the belt has been worn. -/
def Record.getsNoGraceAtSpeed (r : Record) : Bool :=
  r.everBuckled ||
    match r.origin with
    | .moved _ | .untraced => true
    | .boarded | .restored | .claiming _ => false

/-- R89: a reminder at QUIET becomes due. -/
def Record.becomeDue (env : LadderEnv) (r : Record) : Record :=
  if env.atSpeed then
    if r.getsNoGraceAtSpeed then r.toLevel2 env else r.toLevel1 env
  else if r.graceUsed then r.toLevel1 env
  else r.toGrace env

/-- R87, R88: a ladder evaluated again: not due gives QUIET; due and at QUIET leaves it by R89; otherwise the
level stands. -/
def Record.evaluate (env : LadderEnv) (belt : BeltState) (r : Record) : Record :=
  if isDue r.kind belt env.ignitionOn then
    if r.level = .quiet then r.becomeDue env else r
  else r.atLevel .quiet

/-- R90, R91, R93: the effective speed rises to V_trip or above. -/
def Record.speedRise (env : LadderEnv) (r : Record) : Record :=
  match r.level with
  | .grace => r.leaveGrace env
  | .level1 => r.toLevel1 env
  | .level2 => { r with slowTimer := .stopped }
  | .quiet | .spent => r

/-- R91, R93: the effective speed falls below V_trip. -/
def Record.speedFall (r : Record) : Record :=
  match r.level with
  | .level1 => { r with escalation := .stopped }
  | .level2 => { r with slowTimer := .running 0 }
  | .quiet | .grace | .spent => r

/-- R101: trip end. -/
def Record.tripEnd (belt : BeltState) (r : Record) : Record :=
  { r.atLevel .quiet with chimeUsed := 0, graceUsed := false, everBuckled := belt == .buckled }

/-- R99: the pending claim's values are applied. -/
def Record.inherit (limit : Nat) (e : DepEntry) (r : Record) : Record :=
  { r with
    chimeUsed := min (max r.chimeUsed e.chime) limit
    everBuckled := r.everBuckled || e.wasBelted
    graceUsed := true }

/-- R100: the ladder after a settlement. -/
def Record.afterSettlement (env : LadderEnv) (r : Record) : Record :=
  match r.level with
  | .quiet | .spent => r
  | .grace => if env.atSpeed then r.toLevel2 env else r.atLevel .level1
  | .level1 => if env.atSpeed then r.toLevel2 env else r
  | .level2 => if env.conf.chimeLimit ≤ r.chimeUsed then r.atLevel .spent else r

/-- R92: one full second at LEVEL_2. -/
def Record.chimeTick (env : LadderEnv) (r : Record) : Record :=
  let used := min (r.chimeUsed + 1) env.conf.chimeLimit
  if env.conf.chimeLimit ≤ used then { r with chimeUsed := used }.atLevel .spent
  else { r with chimeUsed := used, chimeTimer := .running 0 }

/-- R96: the level of a securing state. -/
def securingLevel (belt : BeltState) (ignitionOn : Bool) : Level :=
  if isDue .secure belt ignitionOn then .level1 else .quiet

/-- R88: the ladder of a seat, of a record or a securing state, evaluated again. -/
def Seat.evaluate (env : LadderEnv) (belt : BeltState) (seat : Seat) : Seat :=
  { seat with
    record := seat.record.map fun r => r.evaluate env belt
    securing := seat.securing.map fun _ => securingLevel belt env.ignitionOn }

/-- R85: the reminder kind of a record is worked out again. -/
def Record.rekind (r : Record) : Record := { r with kind := reminderKind r.cls r.tag }

/-- R86: the table of securing states at step 4, before R96 is applied. -/
def securingAfter (cls : Cls) (view : TagView) (before : Option Level) : Option Level :=
  if cls = .csEmpty then
    match view with
    | .present record => if record.needsSecuring then some (before.getD .quiet) else none
    | .none | .unclear => before
  else none

/-- R85, R86, R88: step 4 at one position. -/
def Seat.step4 (env : LadderEnv) (sfe : SfePosition) (seat : Seat) : Seat :=
  Seat.evaluate env sfe.belt
    { seat with
      record := seat.record.map Record.rekind
      securing := securingAfter seat.cls sfe.tagView seat.securing }

/-- R194: the alert period timer stops. -/
def Alert.stopTimer : Alert → Alert
  | .active n _ => .active n .stopped
  | .none => .none
  | .acknowledged => .acknowledged
  | .expired => .expired

/-- R105: at a STANDBY entry the ladder timers and the buckled-run timer stop, and the alert period timer with
them (R194). -/
def Record.stopTimers (r : Record) : Record :=
  { r with
    graceTimer := .stopped, escalation := .stopped, chimeTimer := .stopped, slowTimer := .stopped
    buckledRun := .stopped, alert := r.alert.stopTimer }

end Sys2Proof.Machine
end

