-- ==== Sys2Proof/Machine/Modes.lean ====
section
/-! DEFINITION. The fresh values of the blocks (the tables of values after each reset), the changes of mode
(R181, R185 to R198) and what the vehicle data record hands on (R178). -/

namespace Sys2Proof.Machine

/-! ### Fresh values -/

/-- R24: no fault, nothing counted. -/
def FaultRun.clear : FaultRun := { hard := false, count := 0 }

/-- R24: the sensing state after power-on, wake and service exit. -/
def freshSfe (c : Conf) : Sfe where
  channels := Four.const { held := none, reference := none }
  positions := Four.ofFn fun p =>
    { matRange := .clear, matDisagree := .clear, matOpen := .clear, presenceRange := .clear
      belt := if buckleRead c p then .unbuckled else .notFitted
      beltRun := none, tagView := .none, tagRun := none }
  latch := none
  latchRun := 0
  watch := none

/-- R61: the classifier after power-on and service exit: the baselines at the zeros of the configuration. -/
def freshClasses (c : Conf) : Four ClsState :=
  Four.ofFn fun p =>
    { b16 := (c.zero.get p * 16 : Nat), pb16 := (c.pzero.get p * 16 : Nat), lf := 0, shift := 0, presence := false
      candidate := none, dwell := 0 }

/-- R61: the classifier at a wake: the baselines are kept. -/
def ClsState.atWake (c : ClsState) : ClsState :=
  { c with lf := 0, shift := 0, presence := false, candidate := none, dwell := 0 }

/-- R62, R82: every position UNSCANNED, every other number ABSENT, no record and no securing state. -/
def freshSeats (c : Conf) : Four Seat :=
  Four.ofFn fun p =>
    { cls := if isPosition c p then .unscanned else .absent, record := none, securing := none }

/-- R142: roster all ABSENT, view all EMPTY, outputs off. -/
def freshDuty (yielded : Bool) : Duty where
  yielded := yielded
  roster := List.replicate 13 { state := .absent, ms := 0 }
  view := List.replicate 12 .empty
  pattern := .off
  ttOn := false
  ttMs := 0
  chime := false

/-- R180: the vehicle data record after power-on, wake and service exit. -/
def freshVehicle : Vehicle := { ignition := .off, speed := 0, fresh := false, ageMs := vehicleLostMs, trip := false }

/-- The report after power-on, wake and service exit, until the first completion builds it: six zero bytes. The
spec gives no value; this one is the model's choice (log entry 8). -/
def freshReport : List Byte := [0, 0, 0, 0, 0, 0]

/-- R180: the STATE emission after power-on and wake (restarted: the RESTARTED hold from 0) and after a service
exit (the hold as it stands). -/
def freshEmission (restarted : Timer) : Emission where
  report := freshReport
  lastPlaced := none
  timer := .stopped
  placedMark := false
  restarted := restarted

/-- R199: the mode controller after power-on, wake and service exit; the ignition is then OFF, so the idle and
alone timers run. -/
def freshModeCtl : ModeCtl where
  mode := .active
  idle := .running 0
  window := none
  alone := .running 0
  watch := .stopped
  vacantRun := 0
  leftBehindMs := 0
  wakeCause := false

/-- R168: both queues and the self slot emptied, the line sequence number 0. -/
def Link.emptyQueues (l : Link) : Link := { l with rxq := [], selfSlot := none, txq := [], lineSeq := 0 }

/-- R168: what wake and service exit have in common, and what ends at a STANDBY entry too: mismatch run, fence,
EVENT_LOSS hold and pending pulse; nothing is driven. -/
def Link.quietDown (l : Link) : Link :=
  { l with
    mismatchRun := 0, fence := .stopped, eventLoss := .stopped, wakePending := false, drive := .released }

/-- R25, R37: after power-on, wake and service exit the first sweep is due at once. -/
def SweepCtl.dueAtOnce (c : SweepCtl) : SweepCtl :=
  { c with pointer := 0, flight := none, period := .running activePeriodMs }

/-! ### WATCH -/

/-- R188: entry into WATCH; the STATE emission stops placing (R173), own proposals are withdrawn (R183), the
outputs go off (R102, R137) and the period timer restarts (R25). -/
def State.enterWatch (s : State) : State :=
  ((((s.withdrawProposals.setModeCtl
    { s.modeCtl with
      mode := .watch, idle := .stopped, window := none, alone := .stopped, watch := .running 0, vacantRun := 0 }).setSweep
    { s.sweep with period := .running 0 }).setEmission
    { s.emission with timer := .stopped })).refreshOutputs

/-- R190: the change from WATCH to ACTIVE. -/
def State.leaveWatch (s : State) : State :=
  (((s.setModeCtl
    { s.modeCtl with
      mode := .active
      idle := if s.ignitionOn then .stopped else .running 0
      alone := if s.ignitionOn then .stopped else .running 0
      watch := .stopped, vacantRun := 0 }).setSweep
    { s.sweep with period := .running 0 }).setEmission
    { s.emission with lastPlaced := none, timer := .running 0 }).refreshOutputs

/-! ### STANDBY -/

/-- R22: the references the standby watch takes. -/
def Sfe.watchReferences (sfe : Sfe) (c : Conf) : StandbyWatch where
  buckles := Four.ofFn fun p =>
    if buckleRead c p then some { reference := (sfe.positions.get p).belt == .buckled, differed := false } else none
  latch := sfe.latch
  latchDiffered := false
  ms := 0

/-- R22: the standby watch is armed. -/
def Sfe.armWatch (sfe : Sfe) (c : Conf) : Sfe := { sfe with watch := some (sfe.watchReferences c) }

/-- R194: entry into STANDBY by any cause. A sweep in flight is abandoned (R32), the standby watch is armed
(R22), the fence ends (R166), the ladder timers stop (R105), the outputs go off; the queues are kept. -/
def State.enterStandby (s : State) : State :=
  (((((((s.withdrawProposals.setLink s.withdrawProposals.link.quietDown).setModeCtl
    { s.modeCtl with
      mode := .standby, idle := .stopped, window := none, alone := .stopped, watch := .stopped, vacantRun := 0
      wakeCause := false }).setSweep
    { s.sweep with flight := none, period := .stopped }).setSfe
    (s.sfe.armWatch s.config.running)).setTable
    { s.table with seats := s.table.seats.map fun seat => { seat with record := seat.record.map Record.stopTimers } }).setEmission
    { s.emission with timer := .stopped, restarted := .stopped, placedMark := false }).refreshOutputs)

/-- R157: the STANDBY entry of a HALT empties both queues and sets the line sequence number to 0. -/
def State.haltEntry (s : State) : State := s.enterStandby.setLink s.enterStandby.link.emptyQueues

/-- R186: the own decision. -/
def State.ownDecision (s : State) : State := if s.table.anyOccupant then s.enterWatch else s.enterStandby

/-! ### Wake and service exit -/

/-- R195: a wake, with the straps read again. The report's bytes are the model's (log entry 8). -/
def State.wake (s : State) (pins : BitVec 5) : State where
  pending := s.pending
  powered := s.powered
  freeCount := s.freeCount
  straps := pins
  config := s.config
  sfe := freshSfe s.config.running
  sweep := s.sweep.dueAtOnce
  classes := s.classes.map ClsState.atWake
  table := { seats := freshSeats s.config.running, departureSeq := 0, unlatched := false, releasePending := false }
  lamps := Four.const .off
  departures := []
  duty := freshDuty false
  link := { s.link.emptyQueues.quietDown with stationClash := false }
  emission := freshEmission (.running 0)
  vehicle := freshVehicle
  modeCtl := freshModeCtl
  diag := s.diag

/-- R209: the service exit: the working copy runs and the blocks restart ACTIVE. The report's bytes are the model's
(log entry 8). -/
def State.serviceExit (s : State) : State where
  pending := s.pending
  powered := s.powered
  freeCount := s.freeCount
  straps := s.straps
  config := { s.config with running := s.config.working }
  sfe := freshSfe s.config.working
  sweep := s.sweep.dueAtOnce
  classes := freshClasses s.config.working
  table :=
    { seats := freshSeats s.config.working, departureSeq := s.table.departureSeq, unlatched := false
      releasePending := false }
  lamps := Four.const .off
  departures := []
  duty := freshDuty s.duty.yielded
  link := s.link.emptyQueues.quietDown
  emission := freshEmission s.emission.restarted
  vehicle := freshVehicle
  modeCtl := freshModeCtl
  diag := { s.diag with commit := .stopped, haltWaiting := false, service := .stopped }

/-- R197: a HALT in SERVICE makes the service exit with STANDBY in place of ACTIVE. -/
def State.haltFromService (s : State) : State := s.serviceExit.haltEntry

/-! ### Heard pulses (R197) -/

/-- R197: a heard WAKE pulse. -/
def State.heardWake (s : State) (pins : BitVec 5) : State :=
  match s.modeCtl.mode with
  | .active => s.closeWindow.restartIdle
  | .watch => s.leaveWatch
  | .standby => s.wake pins
  | .service => s

/-- No input has differed on the last sample. -/
def StandbyWatch.clearDiffering (w : StandbyWatch) : StandbyWatch :=
  { w with buckles := w.buckles.map fun b => b.map fun x => { x with differed := false }, latchDiffered := false }

/-- R194: in STANDBY a HALT drops a pending wake cause and pulse; the standby watch keeps its references and
counts two further samples. -/
def Sfe.clearDiffering (sfe : Sfe) : Sfe := { sfe with watch := sfe.watch.map StandbyWatch.clearDiffering }

/-- R194, R197: a heard HALT in STANDBY. -/
def State.haltInStandby (s : State) : State :=
  ((s.setSfe (if s.modeCtl.wakeCause then s.sfe.clearDiffering else s.sfe)).setModeCtl
    { s.modeCtl with wakeCause := false }).setLink { s.link with wakePending := false }

/-- R197: a heard HALT pulse; one in SERVICE during a commit waits for it (R208). -/
def State.heardHalt (s : State) : State :=
  match s.modeCtl.mode with
  | .active => s.haltEntry
  | .watch => s.haltEntry
  | .standby => s.haltInStandby
  | .service =>
    if s.diag.commit.isRunning then s.setDiag { s.diag with haltWaiting := true } else s.haltFromService

/-! ### Service entry (R206) -/

/-- R83: the claims and alerts of every record end, with no departure. -/
def State.endRecordWork (s : State) : State :=
  positionsInOrder.foldl (fun s p =>
    match s.recordAt p with
    | some r => (s.endClaimOf r).withdrawAlertsOf p r
    | none => s) s

/-- R83, R198, R206: what service entry does before the STATE and the reply are placed. -/
def State.serviceBlocks (s : State) : State :=
  ((((((s.endRecordWork.withdrawProposals.setTable
    { s.table with seats := freshSeats s.config.running, unlatched := false, releasePending := false }).setDepartures
    []).setModeCtl
    { s.modeCtl with
      mode := .service, idle := .stopped, window := none, alone := .stopped, watch := .stopped, vacantRun := 0
      leftBehindMs := 0 }).setSweep
    { s.sweep with period := .stopped }).setDuty
    { s.duty with view := List.replicate 12 .empty }).setConfig
    { s.config with working := s.config.running }).refreshOutputs

/-- R206: service entry: then the service timer starts, and the STATE emission places a STATE with SERVICE set
(R173). -/
def State.enterServiceMode (s : State) : State :=
  ((s.serviceBlocks.setDiag { s.serviceBlocks.diag with service := .running 0 }).rebuildReport).placeState

/-! ### What the vehicle data record hands on (R178) -/

/-- R182, R183, R185, R190, R191, R193: the effective ignition becomes ON, at the mode controller. -/
def State.ignitionBecameOn (s : State) : State :=
  let t := s.acknowledgeAlerts.withdrawProposals
  let u := t.setModeCtl
    { t.modeCtl with idle := .stopped, window := none, alone := .stopped, leftBehindMs := 0 }
  if u.modeCtl.mode = .watch then u.leaveWatch else u

/-- R182, R187: the effective ignition leaves ON: in ACTIVE the idle and alone timers start. -/
def State.ignitionLeftOn (s : State) : State :=
  if s.modeCtl.mode = .active then
    s.setModeCtl { s.modeCtl with idle := .running 0, alone := .running 0 }
  else s

/-- R178: the changes between two derivations of the effective values. -/
structure VehicleChange where
  becameOn : Bool
  leftOn : Bool
  speedRose : Bool
  speedFell : Bool
  tripBegan : Bool
  tripEnded : Bool
deriving DecidableEq, Repr

/-- R178: comparing the effective values before and after. -/
def vehicleChange (c : Conf) (before after : Vehicle) : VehicleChange :=
  let wasOn := before.effIgnition == .on
  let isOn := after.effIgnition == .on
  let wasFast : Bool := c.vTrip ≤ before.effSpeed c
  let isFast : Bool := c.vTrip ≤ after.effSpeed c
  { becameOn := !wasOn && isOn
    leftOn := wasOn && !isOn
    speedRose := !wasFast && isFast
    speedFell := wasFast && !isFast
    tripBegan := !wasOn && isOn && !before.trip
    tripEnded := before.effIgnition != .off && after.effIgnition == .off && before.trip }

/-- R88: the vehicle data events at the ladder of a seat. R88 and R178 let any of the events of one frame go first;
ignition, then speed, then trip end is the model's choice (log entry 33). -/
def Seat.vehicleEvents (env : LadderEnv) (ch : VehicleChange) (belt : BeltState) (seat : Seat) : Seat :=
  let a := if ch.becameOn || ch.leftOn then seat.evaluate env belt else seat
  let b :=
    if ch.speedRose then { a with record := a.record.map fun r => r.speedRise env }
    else if ch.speedFell then { a with record := a.record.map Record.speedFall }
    else a
  if ch.tripEnded then
    { b with record := b.record.map fun r => r.tripEnd belt, securing := b.securing.map fun _ => .quiet }
  else b

/-- R178: the trip flag. -/
def VehicleChange.tripAfter (ch : VehicleChange) (trip : Bool) : Bool :=
  if ch.tripBegan then true else if ch.tripEnded then false else trip

/-- R178: the reminder engine, the move matcher and the mode controller take the changes. -/
def State.takeVehicleChange (s : State) (ch : VehicleChange) : State :=
  let t := (s.mapSeats fun p seat => seat.vehicleEvents s.ladderEnv ch (s.sfe.positions.get p).belt).setDepartures
    (if ch.tripEnded then [] else s.departures)
  if ch.becameOn then t.ignitionBecameOn
  else if ch.leftOn then t.ignitionLeftOn
  else t

/-- R177, R178: the record takes new values, the effective values are derived again, and the changes are handed
on; the outputs follow (R102, R138). -/
def State.deriveVehicle (s : State) (after : Vehicle) : State :=
  let ch := vehicleChange s.config.running s.vehicle after
  ((s.setVehicle { after with trip := ch.tripAfter after.trip }).takeVehicleChange ch).refreshOutputs

/-! ### Power-on (R196) -/

/-- R201: the store is good. -/
def Store.good (t : Store) : Bool :=
  t.sum == t.contents.sum && t.contents.inRange && joinsGood t.contents.fittedMask t.contents.joinMap

/-- R201: the configuration a power-on takes from the store. -/
def bootConf (t : Store) : Conf := if t.good then t.contents else Conf.default

/-- R208: a commit cut off by a loss of supply leaves a store whose sum does not match (log entry 5). -/
def cutOffStore (free : Nat) : Store :=
  let contents := Config.freeStoreContents free
  let sum := Config.freeStoreSum free
  { contents, sum := if sum = contents.sum then sum + 1 else sum }

/-- R203: all counters 0. -/
def Counters.zero : Counters := State.reset.diag.counters

/-- R196: every block at its value after power-on; the report's bytes are the model's (log entry 8). -/
def powerOnState (pending : List Instr) (freeCount : Nat) (store : Store) (pins : BitVec 5) : State where
  pending := pending
  powered := true
  freeCount := freeCount
  straps := pins
  config := { running := bootConf store, working := bootConf store, store := store, defaulted := !store.good }
  sfe := freshSfe (bootConf store)
  sweep := { count := 0, testCounter := 0, pointer := 0, flight := none, period := .running activePeriodMs }
  classes := freshClasses (bootConf store)
  table :=
    { seats := freshSeats (bootConf store), departureSeq := 0, unlatched := false, releasePending := false }
  lamps := Four.const .off
  departures := []
  duty := freshDuty false
  link :=
    { rxq := [], selfSlot := none, txq := [], lineSeq := 0, mismatchRun := 0, fence := .stopped, stuck := .stopped
      lineHeld := false, eventLoss := .stopped, stationClash := false, highWater := 0, wakePending := false, drive := .released }
  emission := freshEmission (.running 0)
  vehicle := freshVehicle
  modeCtl := freshModeCtl
  diag :=
    { meas := .empty, link := .empty, counters := Counters.zero, commit := .stopped, haltWaiting := false
      service := .stopped }

/-- R208: a loss of supply during a commit cuts it off. -/
def State.cutCommit (s : State) : State :=
  if s.diag.commit.isRunning then
    (s.setConfig { s.config with store := cutOffStore s.freeCount }).setFreeCount (s.freeCount + 1)
  else s

end Sys2Proof.Machine
end

