-- ==== Sys2Proof/Machine/Sensing.lean ====
section
/-! DEFINITION. Step 1 of a sweep completion (R29): held readings, fault runs, open-wire test, belt runs, tag
read and latch (R1 to R24), with the reports they make in their order (R23). -/

namespace Sys2Proof.Machine

/-! ### Fault runs (R5) -/

/-- R5: how a judgement comes out. -/
inductive Judgement | observation | pass | skip
deriving DecidableEq, Repr

/-- R5: the table of flag and count. -/
def FaultRun.judge (f : FaultRun) (hardAfter clearsAfter : Nat) (j : Judgement) : FaultRun :=
  match j, f.hard with
  | .observation, false =>
    if hardAfter ≤ f.count + 1 then { hard := true, count := 0 } else { hard := false, count := f.count + 1 }
  | .observation, true => { hard := true, count := 0 }
  | .pass, false => { hard := false, count := 0 }
  | .pass, true =>
    if clearsAfter ≤ f.count + 1 then { hard := false, count := 0 } else { hard := true, count := f.count + 1 }
  | .skip, _ => f

/-- R5: what is reported: hard where the judgement makes the flag hard, soft where it takes a not-hard count
from 0 to 1; a hard-after value of 1 gives the hard report alone. -/
def FaultRun.reported (f : FaultRun) (hardAfter : Nat) (j : Judgement) : Option Severity :=
  match j, f.hard with
  | .observation, false =>
    if hardAfter ≤ f.count + 1 then some .hard else if f.count = 0 then some .soft else none
  | .observation, true | .pass, _ | .skip, _ => none

/-! ### Mat and presence (R2, R6, R7, R10, R12) -/

/-- The channels measured as one at a position: the lower, and the upper of a joined pair. -/
def channelsOf (c : Conf) (p : Pos) : List Pos := if isJoined c p then [p, upperOf p] else [p]

/-- R2: the position readings. -/
structure PositionReadings where
  main : Nat
  check : Nat
  presence : Nat
deriving DecidableEq, Repr

/-- R2: sums for the mat paths, the greater for presence. -/
def positionReadings (c : Conf) (p : Pos) (r : Four ChannelReading) : PositionReadings :=
  let a := r.get p
  let b := r.get (upperOf p)
  if isJoined c p then
    { main := a.main.toNat + b.main.toNat, check := a.check.toNat + b.check.toNat
      presence := max a.presence.toNat b.presence.toNat }
  else { main := a.main.toNat, check := a.check.toNat, presence := a.presence.toNat }

/-- A reading at either rail. -/
def atRail (x : Count12) : Bool := x == 0 || x == 4095

/-- R6: the first channel of the position with a rail on either mat path. -/
def railedMat (c : Conf) (p : Pos) (r : Four ChannelReading) : Option Pos :=
  (channelsOf c p).find? fun q => atRail (r.get q).main || atRail (r.get q).check

/-- R12: the first channel with a railed presence reading. -/
def railedPresence (c : Conf) (p : Pos) (r : Four ChannelReading) : Option Pos :=
  (channelsOf c p).find? fun q => atRail (r.get q).presence

/-- R6: the rail check never skips. -/
def railJudgement (railed : Option Pos) : Judgement := if railed.isSome then .observation else .pass

/-- R7: the tolerance of the cross-check. -/
def crossTolerance (main : Nat) : Nat := 48 + main / 16

/-- R7: the cross-check. -/
def crossJudgement (test railed : Bool) (main check : Nat) : Judgement :=
  if test || railed then .skip
  else if crossTolerance main < (main - check) + (check - main) then .observation
  else .pass

/-- R10: one channel of the open-wire test. -/
def openJudgement (reference : Option Count12) (main : Count12) : Judgement :=
  match reference with
  | none => .skip
  | some ref =>
    if 3895 < ref.toNat then .skip
    else if ref.toNat + 200 ≤ main.toNat then .pass
    else .observation

/-- R10: the position's judgement from its channels; no test outside a test sweep. -/
def openPosition (c : Conf) (p : Pos) (test : Bool) (channels : Four SfeChannel) (r : Four ChannelReading) :
    Judgement × Option Pos :=
  let judge := fun q => openJudgement (channels.get q).reference (r.get q).main
  if !test then (.skip, none)
  else
    match (channelsOf c p).find? fun q => judge q == .observation with
    | some q => (.observation, some q)
    | none => (if (channelsOf c p).any fun q => judge q == .pass then .pass else .skip, none)

/-! ### Belt (R13 to R15) -/

/-- R14: the belt run after a reading in this group. -/
def beltRunNext (run : Option BeltRun) (group : BandGroup) : BeltRun :=
  match run with
  | some r => if r.group = group then { group, count := min (r.count + 1) 3 } else { group, count := 1 }
  | none => { group, count := 1 }

/-- R14: the belt state a run gives. -/
def beltAfter (run : BeltRun) (belt : BeltState) : BeltState :=
  match run.group with
  | .buckled => if 2 ≤ run.count then .buckled else belt
  | .unbuckled => if 2 ≤ run.count then .unbuckled else belt
  | .fault => if 3 ≤ run.count then .fault else belt

/-- R15: what a belt reading reports, from the run after it and the belt state before it. -/
def beltReported (run : BeltRun) (belt : BeltState) : Option Severity :=
  if run.group = .fault ∧ belt ≠ .fault then
    if 3 ≤ run.count then some .hard else if run.count = 1 then some .soft else none
  else none

/-! ### Tag (R19, R20) -/

/-- R19: the kind of a judged read. -/
def TagResult.runKind : TagResult → TagRunKind
  | .noReply => .noReply
  | .collision => .collision
  | .valid r => .valid r.serial

/-- R19: the tag read run after a read. -/
def tagRunNext (run : Option TagRun) (kind : TagRunKind) : TagRun :=
  match run with
  | some r => if r.kind = kind then { kind, count := 2 } else { kind, count := 1 }
  | none => { kind, count := 1 }

/-- R19: the tag view after a read whose run has this count. -/
def tagViewAfter (view : TagView) (count : Nat) (result : TagResult) : TagView :=
  if count = 2 then
    match result with
    | .noReply => .none
    | .collision => .unclear
    | .valid r =>
      match view with
      | .present held => if held.serial = r.serial then .present held else .present r
      | .none | .unclear => .present r
  else view

/-! ### One position -/

/-- What step 1 gives for a position: its state after, its reports in order (R23), and whether the rail checks
made an observation (R38). -/
structure PositionOutcome where
  after : SfePosition
  reports : List MeasReport
  matObservation : Bool
  presenceObservation : Bool
deriving DecidableEq, Repr

/-- The fields common to the reports of a sweep. -/
def measReport (p : Pos) (number : Word16) (kind : MeasFault) (severity : Option Severity) (main check : Nat) :
    List MeasReport :=
  match severity with
  | some severity => [{ pos := p, kind, severity, main, check, stamp := number }]
  | none => []

/-- R14, R15: the belt of a position with a read buckle input. -/
def judgeBelt (p : Pos) (number : Word16) (ratio : Byte) (before : SfePosition) : SfePosition × List MeasReport :=
  let run := beltRunNext before.beltRun (bandOf ratio).group
  ({ before with belt := beltAfter run before.belt, beltRun := some run },
   measReport p number (bandOf ratio).faultKind (beltReported run before.belt) 0 ratio.toNat)

/-- R19, R20: the tag of the position read. The check field is the code of COLLISION (log entry 18). -/
def judgeTag (p : Pos) (number : Word16) (result : TagResult) (before : SfePosition) : SfePosition × List MeasReport :=
  let run := tagRunNext before.tagRun result.runKind
  let view := tagViewAfter before.tagView run.count result
  ({ before with tagView := view, tagRun := some run },
   measReport p number .tagUnclear (if view = .unclear ∧ before.tagView ≠ .unclear then some .soft else none) 0 1)

/-- R5 to R12: the four fault kinds of a position, with their reports in the order of R23. -/
def judgeFaults (c : Conf) (p : Pos) (number : Word16) (test : Bool) (channels : Four SfeChannel)
    (r : Four ChannelReading) (before : SfePosition) : SfePosition × List MeasReport :=
  let x := positionReadings c p r
  let railed := railedMat c p r
  let railedP := railedPresence c p r
  let jo := openPosition c p test channels r
  let jr := railJudgement railed
  let jd := crossJudgement test railed.isSome x.main x.check
  let jp := railJudgement railedP
  let qo := jo.2.getD p
  let qr := railed.getD p
  let qp := railedP.getD p
  ({ before with
      matOpen := before.matOpen.judge 1 1 jo.1
      matRange := before.matRange.judge 3 3 jr
      matDisagree := before.matDisagree.judge 3 10 jd
      presenceRange := before.presenceRange.judge 3 3 jp },
   measReport p number .matOpen (before.matOpen.reported 1 jo.1) (r.get qo).main.toNat
      (((channels.get qo).reference.getD 0).toNat)
    ++ measReport p number .matRange (before.matRange.reported 3 jr) (r.get qr).main.toNat (r.get qr).check.toNat
    ++ measReport p number .matDisagree (before.matDisagree.reported 3 jd) x.main x.check
    ++ measReport p number .presenceRange (before.presenceRange.reported 3 jp) (r.get qp).presence.toNat 0)

/-- Step 1 at one position. -/
def judgePosition (c : Conf) (p : Pos) (number : Word16) (test : Bool) (tagAt : Option Pos)
    (channels : Four SfeChannel) (r : SweepReadings) (before : SfePosition) : PositionOutcome :=
  if isPosition c p then
    let f := judgeFaults c p number test channels r.channels before
    let b := if buckleRead c p then judgeBelt p number (r.channels.get p).buckle f.1 else (f.1, [])
    let t := if tagAt = some p then judgeTag p number (tagResult r.tag) b.1 else (b.1, [])
    { after := t.1
      reports := f.2 ++ b.2 ++ t.2
      matObservation := (railedMat c p r.channels).isSome
      presenceObservation := (railedPresence c p r.channels).isSome }
  else { after := before, reports := [], matObservation := false, presenceObservation := false }

/-! ### Channels and latch -/

/-- R2: the held readings of a channel after a completion; R9: the reference after a sweep that is no test. -/
def channelAfter (c : Conf) (p : Pos) (test : Bool) (r : ChannelReading) (before : SfeChannel) : SfeChannel :=
  if isFitted c p then
    { held := some { main := r.main, check := r.check, presence := r.presence
                     buckle := if buckleRead c p then some r.buckle else none }
      reference := if test then before.reference else some r.main }
  else before

/-- What a completion did to the latch state: nothing, its first setting (R80), or a change (R21). -/
inductive LatchEvent
  | none
  | firstSet (level : Latch)
  | changed (level : Latch)
deriving DecidableEq, Repr

/-- R21: the latch state and run after a reading. -/
def latchStep (latch : Option Latch) (run : Nat) (reading : Latch) : Option Latch × Nat × LatchEvent :=
  match latch with
  | none => (some reading, 0, .firstSet reading)
  | some level =>
    if reading = level then (some level, 0, .none)
    else if 2 ≤ run + 1 then (some reading, 0, .changed reading)
    else (some level, run + 1, .none)

/-- The level a LATCH reading gives. -/
def latchLevel (opened : Bool) : Latch := if opened then .opened else .closed

/-! ### The step -/

/-- What step 1 hands to the later steps. -/
structure SensingOutcome where
  after : Sfe
  reports : List MeasReport
  matObservation : Four Bool
  presenceObservation : Four Bool
  beltChanged : Four Bool
  latchEvent : LatchEvent
deriving DecidableEq, Repr

/-- R29, step 1. -/
def sense (c : Conf) (number : Word16) (test : Bool) (tagAt : Option Pos) (r : SweepReadings) (before : Sfe) :
    SensingOutcome :=
  let outcome := fun p => judgePosition c p number test tagAt before.channels r (before.positions.get p)
  let latch := latchStep before.latch before.latchRun (latchLevel r.latchOpen)
  { after :=
      { before with
        channels := Four.ofFn fun p => channelAfter c p test (r.channels.get p) (before.channels.get p)
        positions := Four.ofFn fun p => (outcome p).after
        latch := latch.1
        latchRun := latch.2.1 }
    reports := (outcome 0).reports ++ (outcome 1).reports ++ (outcome 2).reports ++ (outcome 3).reports
    matObservation := Four.ofFn fun p => (outcome p).matObservation
    presenceObservation := Four.ofFn fun p => (outcome p).presenceObservation
    beltChanged := Four.ofFn fun p => decide ((outcome p).after.belt ≠ (before.positions.get p).belt)
    latchEvent := latch.2.2 }

/-- Step 1 at the station: the sensing state, and the reports given to diagnosis one after another. -/
def State.sensingStep (s : State) (o : SensingOutcome) : State :=
  (s.setSfe o.after).setDiag (o.reports.foldl Diag.reportMeas s.diag)

/-! ### Standby watch (R22) -/

/-- R22: a watched buckle input takes a sample: the input after, and whether it has differed on two consecutive
samples; the count then starts again. -/
def BuckleWatch.sample (w : BuckleWatch) (ratio : Byte) : BuckleWatch × Bool :=
  let differs := ((bandOf ratio) == .buckled) != w.reference
  ({ w with differed := differs && !w.differed }, differs && w.differed)

/-- R22: one sample of all watched inputs: the watch after, and whether it hands on a local wake cause. -/
def StandbyWatch.sample (w : StandbyWatch) (ratios : Four Byte) (level : Latch) : StandbyWatch × Bool :=
  let one := fun p => (w.buckles.get p).map fun b => b.sample (ratios.get p)
  let reference := w.latch.getD level
  let differs := level != reference
  ({ buckles := Four.ofFn fun p => (one p).map Prod.fst
     latch := some reference
     latchDiffered := differs && !w.latchDiffered
     ms := 0 },
   positionsInOrder.any (fun p => (one p).any Prod.snd) || (differs && w.latchDiffered))

end Sys2Proof.Machine
end

