-- ==== Sys2Proof/Machine/Classifier.lean ====
section
/-! DEFINITION. Step 2 of a sweep completion: the load arithmetic and the class decision of one position
(R38 to R61). All quotients are truncated toward zero (section 3.1 of the introduction). -/

namespace Sys2Proof.Machine

/-- R41: the net load in hg. -/
def netLoad (r : Nat) (b16 : Int) (g : Nat) : Nat :=
  (clampInt 0 2000 (((16 * (r : Int) - b16) * (g : Int)).tdiv 4096)).toNat

/-- R43: the filtered load after an update. -/
def filterStep (net lf : Nat) : Nat := ((lf : Int) + (4 * (net : Int) - (lf : Int)).tdiv 4).toNat

/-- R43: the reported load. -/
def ClsState.load (c : ClsState) : Nat := c.lf / 4

/-- R45: the mat baseline after learning. -/
def learnMat (b16 : Int) (r z : Nat) : Int :=
  clampInt (((z : Int) - 300) * 16) (((z : Int) + 300) * 16) (b16 + (16 * (r : Int) - b16).tdiv 64)

/-- R48: the presence baseline after learning. -/
def learnPresence (pb16 : Int) (p zp : Nat) : Int :=
  clampInt 0 65520
    (clampInt (((zp : Int) - 400) * 16) (((zp : Int) + 400) * 16) (pb16 + (16 * (p : Int) - pb16).tdiv 128))

/-- R46: the presence shift; the baseline is not negative, so the floor is the quotient. -/
def presenceShift (p : Nat) (pb16 : Int) : Int := (p : Int) - pb16.tdiv 16

/-- R46: the presence state by hysteresis. -/
def presenceNext (before : Bool) (shift : Int) (pOn pOff : Nat) : Bool :=
  if before then (pOff : Int) ≤ shift else (pOn : Int) ≤ shift

/-- R49: the occupant load. -/
def occupantLoad (load : Nat) (mass : Byte) : Nat := load - mass.toNat

/-- R50: the T_adult value that applies under a settled class. -/
def adultThreshold (c : Conf) (settled : Cls) : Nat := if settled = .adult then c.tAdultOff else c.tAdultOn

/-- R50: T_small. -/
def smallThreshold (c : Conf) (settled : Cls) : Nat :=
  if settled = .small ∨ settled = .adult then c.tSmallOff else c.tSmallOn

/-- R50: T_obj. -/
def objectThreshold (c : Conf) (settled : Cls) : Nat := if settled = .object then c.tObjOff else c.tObjOn

/-- R50: T_cs. -/
def childThreshold (c : Conf) (settled : Cls) : Nat := if settled = .csOccupied then c.tCsOff else c.tCsOn

/-- What the candidate class reads (R51). -/
structure CandidateInput where
  settled : Cls
  matFault : Bool
  presenceFault : Bool
  view : TagView
  presence : Bool
  load : Nat
deriving DecidableEq, Repr

/-- R51, rows 6 to 14: no tag in view. -/
def untaggedCandidate (c : Conf) (x : CandidateInput) : Cls :=
  if x.matFault then (if x.presence then .unsized else .empty)
  else if x.presenceFault then
    if smallThreshold c x.settled ≤ x.load then .unsized
    else if objectThreshold c x.settled ≤ x.load then .object
    else .empty
  else if x.presence then
    if adultThreshold c x.settled ≤ x.load then .adult
    else if smallThreshold c x.settled ≤ x.load then .small
    else .empty
  else if objectThreshold c x.settled ≤ x.load then .object
  else .empty

/-- R51: the candidate class, the rows from the top. -/
def candidateClass (c : Conf) (x : CandidateInput) : Cls :=
  if x.matFault && x.presenceFault then .unknown
  else
    match x.view with
    | .unclear => .unknown
    | .present record =>
      if x.matFault then .csOccupied
      else if childThreshold c x.settled ≤ occupantLoad x.load record.mass then .csOccupied
      else .csEmpty
    | .none => untaggedCandidate c x

/-- R54: the dwell limit. -/
def dwellLimit (c : Conf) (atSpeed : Bool) : Nat := if atSpeed then min (2 * c.dwell) 30 else c.dwell

/-- R53: the dwell counter after a candidate. -/
def dwellNext (candidate settled : Cls) (last : Option Cls) (counter : Nat) : Nat :=
  if candidate = settled then 0
  else if last = some candidate ∧ 0 < counter then counter + 1
  else 1

/-- What step 2 reads of a position (R38). -/
structure ClassifierInput where
  main : Nat
  presence : Nat
  matFault : Bool
  presenceFault : Bool
  matObservation : Bool
  presenceObservation : Bool
  view : TagView
  settled : Cls
  atSpeed : Bool
deriving DecidableEq, Repr

/-- R43, R44: part 2. -/
def filterPart (g : Nat) (x : ClassifierInput) (k : ClsState) : Nat :=
  if x.matFault || x.matObservation then k.lf else filterStep (netLoad x.main k.b16 g) k.lf

/-- R46, R47: part 3, the presence state. -/
def presencePart (c : Conf) (x : ClassifierInput) (k : ClsState) : Bool :=
  if x.presenceFault || x.presenceObservation then k.presence
  else presenceNext k.presence (presenceShift x.presence k.pb16) c.pOn c.pOff

/-- R45: the conditions of learning the mat baseline. -/
def learnsMat (x : ClassifierInput) (presence : Bool) : Bool :=
  x.settled == .empty && !presence && !x.matFault && !x.matObservation && !x.presenceFault

/-- R48: the conditions of learning the presence baseline. -/
def learnsPresence (x : ClassifierInput) (presence : Bool) : Bool :=
  !presence && (x.settled == .empty || x.settled == .object) && !x.presenceFault && !x.presenceObservation

/-- R39: the work for one position: its classifier state and its settled class after. -/
def classify (c : Conf) (p : Pos) (x : ClassifierInput) (k : ClsState) : ClsState × Cls :=
  let lf := filterPart (c.gain.get p) x k
  let presence := presencePart c x k
  let candidate := candidateClass c
    { settled := x.settled, matFault := x.matFault, presenceFault := x.presenceFault, view := x.view, presence
      load := lf / 4 }
  let counter := dwellNext candidate x.settled k.candidate k.dwell
  let settles : Bool := dwellLimit c x.atSpeed ≤ counter
  ({ b16 := if learnsMat x presence then learnMat k.b16 x.main (c.zero.get p) else k.b16
     pb16 := if learnsPresence x presence then learnPresence k.pb16 x.presence (c.pzero.get p) else k.pb16
     lf := lf
     shift := presenceShift x.presence k.pb16
     presence := presence
     candidate := some candidate
     dwell := if settles then 0 else counter },
   if settles then candidate else x.settled)

/-- R38: the inputs of a position, after step 1. -/
def State.classifierInput (s : State) (o : SensingOutcome) (r : SweepReadings) (p : Pos) : ClassifierInput :=
  let sfe := s.sfe.positions.get p
  let x := positionReadings s.config.running p r.channels
  { main := x.main, presence := x.presence
    matFault := sfe.matRange.hard || sfe.matDisagree.hard || sfe.matOpen.hard
    presenceFault := sfe.presenceRange.hard
    matObservation := o.matObservation.get p, presenceObservation := o.presenceObservation.get p
    view := sfe.tagView, settled := (s.table.seats.get p).cls, atSpeed := s.atSpeed }

/-- Step 2 at one number: its classifier state and settled class after; nothing at an ABSENT number (R38). -/
def State.classified (s : State) (o : SensingOutcome) (r : SweepReadings) (p : Pos) : ClsState × Cls :=
  if isPosition s.config.running p then
    classify s.config.running p (s.classifierInput o r p) (s.classes.get p)
  else (s.classes.get p, (s.table.seats.get p).cls)

/-- R29, step 2; at a test sweep nothing changes (R30, R40). -/
def State.classifierStep (s : State) (o : SensingOutcome) (r : SweepReadings) (test : Bool) : State :=
  if test then s
  else
    (s.setClasses (Four.ofFn fun p => (s.classified o r p).1)).mapSeats
      fun p seat => { seat with cls := (s.classified o r p).2 }

end Sys2Proof.Machine
end

