-- ==== Sys2Proof/Machine/Matcher.lean ====
section
/-! DEFINITION. The move matcher (chapter 6): matching an arrival (R114 to R116), yielding (R119, R120) and the
handled CLAIM and DEPART frames (R109, R117, R118). -/

namespace Sys2Proof.Machine

/-! ### Matching -/

/-- R115: the classes that match one another without a serial. -/
def Cls.matchesByClass : Cls → Bool
  | .small | .adult | .unsized | .unknown => true
  | .absent | .unscanned | .empty | .object | .csEmpty | .csOccupied => false

/-- R115: whether and how an entry matches an arriving class, with the serial of its tag part. -/
def matchEntry (cls : Cls) (serial : Option Word16) (e : DepEntry) : Option MatchKind :=
  match serial, e.child with
  | some n, some c => if c.serial = n then some .serial else none
  | some _, none => none
  | none, some _ => none
  | none, none => if cls.matchesByClass && e.cls.matchesByClass then some .cls else none

/-- What a search takes: an entry and its match kind. -/
structure Match where
  entry : DepEntry
  kind : MatchKind
deriving DecidableEq, Repr

/-- R115: of the matching entries the oldest is taken. -/
def findMatch (list : List DepEntry) (cls : Cls) (serial : Option Word16) : Option Match :=
  list.findSome? fun e => (matchEntry cls serial e).map fun kind => { entry := e, kind }

/-- R114: the conditions of a search. -/
def State.canSearch (s : State) : Bool :=
  s.modeCtl.mode == .active && s.validStraps && canTakeClaim s.link.txq

/-- R69, R114, R119: what a search for this record finds; none also where no search is made. -/
def State.searchFor (s : State) (r : Record) : Option Match :=
  if s.ignitionOn && s.canSearch then findMatch s.departures r.cls (r.tag.map TagPart.serial) else none

/-- R68, R117, R119: the origin of a record with no claim. -/
def State.originWithoutClaim (s : State) : Origin := if s.atSpeed then .untraced else .boarded

/-- R116: the entry leaves the list, a copy becomes the pending claim, and a CLAIM is placed. -/
def State.takeMatch (s : State) (p : Pos) (id : OccupantId) (m : Match) : State :=
  ((s.setDepartures (removeTag s.departures m.entry.tag)).updateRecord p
    fun r => { r with origin := .claiming m.entry }).offerTx
    (newEntry .claim (claimPayload m.entry.tag p m.kind) (some { tag := m.entry.tag, id, voided := false }))

/-- R68, R119: the record at p gets a pending claim where a search finds one, and its origin without a claim
otherwise. -/
def State.searchOrSettle (s : State) (p : Pos) : State :=
  match s.recordAt p with
  | none => s
  | some r =>
    match s.searchFor r with
    | some m => s.takeMatch p r.id m
    | none => s.updateRecord p fun r => { r with origin := s.originWithoutClaim }

/-! ### Yielding -/

/-- R119 from step 2 on: the yield is counted, and the match is run again once. -/
def State.yieldCutOff (s : State) (p : Pos) : State :=
  (s.count fun k => { k with claimsYielded := saturatingSucc k.claimsYielded }).searchOrSettle p

/-- R119: the record at p yields to a rival's CLAIM. -/
def State.yieldToRival (s : State) (p : Pos) : State :=
  match s.recordAt p with
  | some r => (s.endClaimOf r).yieldCutOff p
  | none => s

/-- The record's pending claim carries this tag. -/
def Record.claims (r : Record) (tag : DepTag) : Bool :=
  match r.origin with
  | .claiming e => e.tag == tag
  | .boarded | .restored | .untraced | .moved _ => false

/-- R117: the position of the record the own CLAIM was made for. -/
def State.claimantOf (s : State) (c : ClaimRef) : Option Pos :=
  positionsInOrder.find? fun p => (s.recordAt p).any fun r => r.id == c.id && r.claims c.tag

/-- R118: the position whose pending claim carries this tag. -/
def State.pendingAt (s : State) (tag : DepTag) : Option Pos :=
  positionsInOrder.find? fun p => (s.recordAt p).any fun r => r.claims tag

/-- R120: a CLAIM with no void mark cut off on the line makes its record yield from step 2. -/
def State.claimCutOff (s : State) (c : ClaimRef) : State :=
  if c.voided then s
  else
    match s.claimantOf c with
    | some p => s.yieldCutOff p
    | none => s

/-! ### The own CLAIM handled (R117) -/

/-- R99, R100, R117: a record settled in its favour. -/
def Record.settle (env : LadderEnv) (r : Record) : Record :=
  match r.origin with
  | .claiming e => { (r.inherit env.conf.chimeLimit e).afterSettlement env with origin := .moved e.tag }
  | .boarded | .restored | .untraced | .moved _ => r

/-- R117: settled. -/
def State.settleClaim (s : State) (p : Pos) (tag : DepTag) : State :=
  (((s.updateRecord p fun r => r.settle s.ladderEnv).setDepartures (removeTag s.departures tag)).count
    fun k => { k with claimsWon := saturatingSucc k.claimsWon }).refreshLamps

/-- R117: lapsed. -/
def State.lapseClaim (s : State) (p : Pos) : State :=
  s.updateRecord p fun r => { r with origin := s.originWithoutClaim }

/-- R117: what becomes of the own CLAIM once the self slot is empty. -/
def State.ownClaim (s : State) (c : ClaimRef) : State :=
  if c.voided then s
  else
    match s.claimantOf c with
    | none => s
    | some p => if s.ignitionOn then s.settleClaim p c.tag else s.lapseClaim p

/-- The own CLAIM the handler takes now. -/
def State.nextOwnClaim (s : State) : Option SelfClaim :=
  if s.handlerRuns then
    match s.link.nextHandled with
    | some (.own c) => some c
    | some (.frame _) => none
    | none => none
  else none

/-- OWN_CLAIM_HANDLED (R117). -/
def execOwnClaimHandled (s : State) : Out :=
  .next (match s.nextOwnClaim with
    | some c => (s.setLink { s.link with selfSlot := none }).ownClaim c.claim
    | none => s)

/-! ### CLAIM and DEPART frames handled -/

/-- The tag a CLAIM or DEPART payload names. -/
def payloadTag (payload : List Byte) : DepTag := tagOfBytes (byteAt payload 0) (byteAt payload 1)

/-- R118: a CLAIM that is neither pending nor settled here, from whether it was listed. -/
def State.claimElsewhere (s : State) (tag : DepTag) (listed : Bool) : State :=
  if listed || s.table.holdsTag tag then s
  else s.count fun k => { k with claimUnmatched := saturatingSucc k.claimUnmatched }

/-- R118: a handled CLAIM of another station. -/
def State.peerClaim (s : State) (tag : DepTag) : State :=
  let t := s.setDepartures (removeTag s.departures tag)
  match s.pendingAt tag with
  | some p => t.yieldToRival p
  | none => t.claimElsewhere tag (s.departures.any fun e => e.tag == tag)

/-- CLAIM_HANDLED (R118); in SERVICE the CLAIM is discarded. -/
def execClaimHandled (s : State) : Out :=
  s.handleFrame .claim fun f s => if s.modeCtl.mode = .service then s else s.peerClaim (payloadTag f.payload)

/-- R109: a handled DEPART of another station. -/
def State.peerDepart (s : State) (payload : List Byte) : State :=
  match entryOfDepart payload with
  | some e => s.joinEntry e
  | none => s

/-- DEPART_HANDLED (R109); in SERVICE the DEPART is discarded. -/
def execDepartHandled (s : State) : Out :=
  s.handleFrame .depart fun f s => if s.modeCtl.mode = .service then s else s.peerDepart f.payload

/-- The Departure List's ages run (R112). -/
def Mode.keepsRecords : Mode → Bool
  | .active | .watch => true
  | .standby | .service => false

/-- R112: the entry of this tag has reached T_move; one replaced first begins again at age 0 (R110). -/
def State.entryDue (s : State) (tag : DepTag) : Bool :=
  s.departures.any fun e => e.tag == tag && seconds s.config.running.tMove ≤ e.ageMs

/-- DEPARTURE_ENTRY_EXPIRY (R112). -/
def execDepartureEntryExpiry (tag : DepTag) (s : State) : Out :=
  onlyIf (s.powered && s.modeCtl.mode.keepsRecords && s.entryDue tag)
    (s.setDepartures (removeTag s.departures tag)) s

end Sys2Proof.Machine
end

