-- ==== Sys2Proof/Machine/Table.lean ====
section
/-! DEFINITION. Step 3 of a sweep completion, the position table (chapter 4): arrivals, departures, changes
between occupant classes, restraint exchanges, belt changes, latch events and the pending release. -/

namespace Sys2Proof.Machine

/-! ### Arrivals (R67 to R69) -/

/-- R67, R70: the tag part of a record of this class under this view. -/
def tagPartOf (cls : Cls) (view : TagView) : Option TagPart :=
  if cls = .csOccupied then
    match view with
    | .present record => some { serial := record.serial, type := record.type, anchor := record.anchor }
    | .none | .unclear => none
  else none

/-- R65, R67: the first values of a record. -/
def newRecord (id : OccupantId) (cls : Cls) (origin : Origin) (belt : BeltState) (tag : Option TagPart) : Record where
  id := id
  cls := cls
  origin := origin
  everBuckled := belt == .buckled
  chimeUsed := 0
  graceUsed := false
  buckledRun := if belt = .buckled then .running 0 else .stopped
  kind := reminderKind cls tag
  level := .quiet
  graceTimer := .stopped
  escalation := .stopped
  chimeTimer := .stopped
  slowTimer := .stopped
  seated := 0
  seatedMs := 0
  tag := tag
  alert := .none

/-- R65: the occupant id of a record created now. -/
def State.newId (s : State) (p : Pos) : OccupantId := { station := s.station, pos := p, seq := s.table.departureSeq }

/-- R67: the record of an arrival at p, before R68 has asked for a match. -/
def State.arrivalRecord (s : State) (p : Pos) (origin : Origin) : Record :=
  newRecord (s.newId p) (s.table.seats.get p).cls origin (s.sfe.positions.get p).belt
    (tagPartOf (s.table.seats.get p).cls (s.sfe.positions.get p).tagView)

/-- R67 to R69: an arrival at p; from UNSCANNED the origin is RESTORED and no match is asked for. -/
def State.arrive (s : State) (p : Pos) (fromUnscanned : Bool) : State :=
  if fromUnscanned then s.updateSeat p fun seat => { seat with record := some (s.arrivalRecord p .restored) }
  else
    (s.updateSeat p fun seat => { seat with record := some (s.arrivalRecord p .boarded) }).searchOrSettle p

/-! ### Departures (R72 to R75) -/

/-- R72: the departure entry of a record, under this departure sequence. -/
def State.departureEntry (s : State) (p : Pos) (r : Record) (seq : BitVec 10) : DepEntry where
  tag := { station := s.station, pos := p, seq }
  cls := r.cls
  wasBelted := r.everBuckled
  chime := r.chimeUsed
  child := r.tag.map fun t => { serial := t.serial, type := t.type }
  ageMs := 0

/-- R72: sequence, entry in the own list, DEPART frame. -/
def State.handOn (s : State) (p : Pos) (r : Record) : State :=
  let seq := s.table.departureSeq + 1
  let e := s.departureEntry p r seq
  ((s.setTable { s.table with departureSeq := seq }).joinEntry e).place .depart (departPayload e)

/-- R72, R73: history is handed on with the ignition ON at valid straps. -/
def State.leavesHistory (s : State) : Bool := s.ignitionOn && s.validStraps

/-- R75: the record at p ends, and its lamp with it until step 4. -/
def State.endRecord (s : State) (p : Pos) : State :=
  ((s.updateSeat p fun seat => { seat with record := none }).setLamps (s.lamps.set p .off)).testLeftBehind

/-- R72 to R75: a departure of the record at p. Its claim (R74) and its alert end with the record; that their waiting
frames leave the transmit queue before the DEPART is offered is the model's choice (log entry 32). -/
def State.depart (s : State) (p : Pos) : State :=
  match s.recordAt p with
  | none => s
  | some r =>
    let t := (s.endClaimOf r).withdrawAlertsOf p r
    (if s.leavesHistory then t.handOn p r else t).endRecord p

/-! ### Class changes in position order (R66, R70, R71) -/

/-- R70: a change between occupant classes. -/
def Record.changeClass (cls : Cls) (view : TagView) (r : Record) : Record :=
  { r with
    cls := cls
    tag := if cls = .csOccupied then (if r.cls = .csOccupied then r.tag else tagPartOf cls view) else none }

/-- R71: the restraint at an occupied child seat was exchanged. -/
def restraintExchanged (cls : Cls) (record : Option Record) (view : TagView) : Bool :=
  match cls, record, view with
  | .csOccupied, some r, .present seen => r.tag.any fun t => t.serial != seen.serial
  | _, _, _ => false

/-- What a completion does to the occupants of a position (R66, R71). -/
inductive SeatChange | none | arrival (fromUnscanned : Bool) | departure | classChange | exchange
deriving DecidableEq, Repr

/-- R66, R71: the change at a position, from the class before and after. No exchange at a test completion. -/
def seatChange (before after : Cls) (test exchanged : Bool) : SeatChange :=
  if before.isOccupant then
    if after.isOccupant then
      if before = after then (if exchanged && !test then .exchange else .none) else .classChange
    else .departure
  else if after.isOccupant then .arrival (before == .unscanned)
  else .none

/-- R66: the work of one position. -/
def State.takeSeatChange (s : State) (p : Pos) (change : SeatChange) : State :=
  match change with
  | .none => s
  | .arrival fromUnscanned => s.arrive p fromUnscanned
  | .departure => s.depart p
  | .classChange =>
    s.updateRecord p fun r => r.changeClass (s.table.seats.get p).cls (s.sfe.positions.get p).tagView
  | .exchange => (s.depart p).arrive p false

/-- R66: the class changes, one position after another. -/
def State.takeClasses (s : State) (before : Four Cls) (test : Bool) : State :=
  positionsInOrder.foldl (fun s p =>
    let seat := s.table.seats.get p
    s.takeSeatChange p
      (seatChange (before.get p) seat.cls test
        (restraintExchanged seat.cls seat.record (s.sfe.positions.get p).tagView))) s

/-! ### Belt changes (R76) -/

/-- R76: a belt change at a record. -/
def Record.beltChange (belt : BeltState) (r : Record) : Record :=
  if belt = .buckled then { r with everBuckled := true, buckledRun := .running 0 }
  else { r with buckledRun := .stopped }

/-- R76: the belt changes of step 1. -/
def State.takeBelts (s : State) (changed : Four Bool) : State :=
  s.mapSeats fun p seat =>
    if changed.get p then
      { seat with record := seat.record.map fun r => r.beltChange (s.sfe.positions.get p).belt }
    else seat

/-! ### Latch and row release (R78 to R80) -/

/-- R78: the van is under way with the ignition ON. -/
def State.underWay (s : State) : Bool := s.ignitionOn && s.atSpeed

/-- R78: an opening. -/
def State.latchOpened (s : State) : State :=
  if s.underWay then s.setTable { s.table with unlatched := true, releasePending := true }
  else s.place .rowRelease []

/-- R79: a closing. -/
def State.latchClosed (s : State) : State :=
  s.setTable { s.table with unlatched := false, releasePending := false }

/-- R78 to R80: the latch event of step 1; a first setting to OPEN acts as an opening. -/
def State.takeLatch (s : State) (event : LatchEvent) : State :=
  match event with
  | .none => s
  | .firstSet .closed => s
  | .firstSet .opened => s.latchOpened
  | .changed .opened => s.latchOpened
  | .changed .closed => s.latchClosed

/-- R79: a pending release is sent once the van stops or the ignition leaves ON. -/
def State.sendPendingRelease (s : State) : State :=
  if s.table.releasePending && s.sfe.latch == some .opened && !s.underWay then
    (s.setTable { s.table with releasePending := false }).place .rowRelease []
  else s

/-- R29, step 3: class changes, belt changes, latch event, pending release. -/
def State.tableStep (s : State) (before : Four Cls) (test : Bool) (o : SensingOutcome) : State :=
  (((s.takeClasses before test).takeBelts o.beltChanged).takeLatch o.latchEvent).sendPendingRelease

/-- R65: one full second of a record's life. -/
def Record.sitSecond (r : Record) : Record := { r with seated := saturatingSucc r.seated, seatedMs := 0 }

/-- SEATED_TIME_SECOND (R65): the second is full. -/
def execSeatedTimeSecond (p : Pos) (s : State) : Out :=
  onlyIf (s.powered && s.modeCtl.mode.keepsRecords && (s.recordAt p).any fun r => 1000 ≤ r.seatedMs) (s.updateRecord p Record.sitSecond) s

end Sys2Proof.Machine
end

