-- ==== Sys2Proof/Machine/Sweeps.lean ====
section
/-! DEFINITION. The sweep controller (chapter 2): sweep start (R26 to R28), the completion with its seven steps
(R29, R30), the one-shot sweep (R35) and the standby watch sample (R22). -/

namespace Sys2Proof.Machine

/-! ### Sweep start -/

/-- R27: the position read, the first tag-fitted one from the pointer upward, 0 following 3. -/
def tagPosition (c : Conf) (pointer : Pos) : Option Pos :=
  [pointer, pointer + 1, pointer + 2, pointer + 3].find? fun p => tagFitted c p

/-- R26 to R28: the controller after a sweep start. -/
def SweepCtl.start (c : Conf) (k : SweepCtl) : SweepCtl where
  count := k.count + 1
  testCounter := k.testCounter + 1
  pointer := match tagPosition c k.pointer with
    | some p => p + 1
    | none => k.pointer
  flight := some (.periodic k.count (k.testCounter == 0) (tagPosition c k.pointer) 0)
  period := .running 0

/-- R25: the period of a mode. -/
def periodMs (m : Mode) : Nat := if m = .watch then watchPeriodMs else activePeriodMs

/-- R25, R26: a sweep can start: the period timer has run out and no sweep is in flight. -/
def State.canStartSweep (s : State) : Bool :=
  s.powered && s.sweep.period.isAt (periodMs s.modeCtl.mode) && s.sweep.flight.isNone

/-- SWEEP_START (R26); the placed-this-period mark is cleared (R172). -/
def execSweepStart (s : State) : Out :=
  onlyIf s.canStartSweep
    ((s.setSweep (s.sweep.start s.config.running)).setEmission { s.emission with placedMark := false }) s

/-! ### Steps 4 to 7 of a completion -/

/-- R29, step 4: the ladders are evaluated again and the lamps set. -/
def State.ladderStep (s : State) : State :=
  (s.mapSeats fun p seat => seat.step4 s.ladderEnv (s.sfe.positions.get p)).refreshLamps

/-- R172: the report differs from the last placed content and the mark is clear. -/
def Emission.calls (e : Emission) : Bool := !e.placedMark && e.lastPlaced != some e.report

/-- R172: in ACTIVE, a STATE is placed where one is called for. -/
def State.placeIfCalled (s : State) : State :=
  if s.modeCtl.mode == .active && s.emission.calls then s.placeState else s

/-- R135: the slot a seat gives its own row. -/
def Seat.viewSlot (seat : Seat) : ViewSlot := { cls := seat.cls, level := seat.reminderSent.1 }

/-- R135: a station holding duty fills its own row. -/
def State.fillOwnRow (s : State) : State :=
  if s.holdsDuty then
    s.setDuty
      { s.duty with
        view := s.duty.view.set (s.station.toNat - 1)
          (.filled s.table.unlatched (s.table.seats.map Seat.viewSlot)) }
  else s

/-- R29, step 5. -/
def State.reportStep (s : State) : State := s.rebuildReport.placeIfCalled.fillOwnRow.refreshDuty

/-- R193: the class of an alerted record leaves SMALL and CS_OCCUPIED. -/
def Record.endsAlertByClass (r : Record) : Bool := r.cls != .small && r.cls != .csOccupied

/-- R193: at step 6 such an alert ends as NONE. -/
def State.endAlertsByClass (s : State) : State :=
  positionsInOrder.foldl (fun s p =>
    if (s.recordAt p).any Record.endsAlertByClass then s.endAlert p .none else s) s

/-- R182: an own class or belt change restarts the idle timer. -/
def State.idleStep (s : State) (changed : Bool) : State := if changed then s.restartIdle else s

/-- The latch state became OPEN at this completion (R184; log entry 25 for the first setting). -/
def LatchEvent.opens : LatchEvent → Bool
  | .firstSet .opened | .changed .opened => true
  | .none | .firstSet .closed | .changed .closed => false

/-- R190: the event is an opening or closing, not a first setting (R80). -/
def LatchEvent.isChange : LatchEvent → Bool
  | .changed _ => true
  | .none | .firstSet _ => false

/-- R189: the vacant run is updated, and at 30 the station enters STANDBY. -/
def State.vacantStep (s : State) : State :=
  if s.modeCtl.mode = .watch then
    if s.table.anyOccupant then s.setModeCtl { s.modeCtl with vacantRun := 0 }
    else if vacantLimit ≤ s.modeCtl.vacantRun + 1 then s.enterStandby
    else s.setModeCtl { s.modeCtl with vacantRun := s.modeCtl.vacantRun + 1 }
  else s

/-- R190: an own belt or latch change takes WATCH to ACTIVE, with a WAKE pulse. -/
def State.wakeOthers (s : State) (ownChange : Bool) : State :=
  if s.modeCtl.mode = .watch ∧ ownChange then s.requestWake.leaveWatch else s

/-- R189, R190: the two in an order the spec leaves open (log entry 6). -/
def State.watchStep (s : State) (ownChange : Bool) : State :=
  if Config.vacantRunFirst then s.vacantStep.wakeOthers ownChange
  else (s.wakeOthers ownChange).vacantStep

/-- What step 6 takes of a completion. -/
structure OwnChanges where
  cls : Bool
  belt : Bool
  latch : LatchEvent
deriving DecidableEq, Repr

/-- The own changes of a completion, from the classes before and after. A restraint exchange (R71) is a departure and
an arrival under one class, CS_OCCUPIED before and after; that it is no change of the settled class, so that it does not
restart the idle timer, is the model's choice (log entry 31). -/
def ownChanges (before after : Four Cls) (o : SensingOutcome) : OwnChanges where
  cls := before != after
  belt := o.beltChanged.any fun b => b
  latch := o.latchEvent

/-- R184: the refusal reasons are tested again when the latch becomes OPEN. -/
def State.latchReason (s : State) (event : LatchEvent) : State := if event.opens then s.testReasons else s

/-- R29, step 6. -/
def State.modeStep (s : State) (c : OwnChanges) : State :=
  (((s.endAlertsByClass.idleStep (c.cls || c.belt)).latchReason c.latch).testLeftBehind).watchStep
    (c.belt || c.latch.isChange)

/-- R29, step 7: the sweep is no longer in flight, and the handler may take frames again. -/
def State.endFlight (s : State) : State := s.setSweep { s.sweep with flight := none }

/-- R29, R30: the completion of a periodic sweep. -/
def State.completeSweep (s : State) (number : Word16) (test : Bool) (tagAt : Option Pos) (r : SweepReadings) : State :=
  let o := sense s.config.running number test tagAt r s.sfe
  let before := s.table.seats.map Seat.cls
  let classified := (s.sensingStep o).classifierStep o r test
  let changes := ownChanges before (classified.table.seats.map Seat.cls) o
  (((classified.tableStep before test o).ladderStep.reportStep).modeStep changes).endFlight

/-- SWEEP_COMPLETION (R29): the periodic sweep in flight completes. -/
def execSweepCompletion (r : SweepReadings) (s : State) : Out :=
  .next (match s.powered, s.sweep.flight with
    | true, some (.periodic number test tagAt _) => s.completeSweep number test tagAt r
    | _, _ => s)

/-! ### The one-shot sweep (R35) -/

/-- R35: the bytes of a tag read. -/
def tagReadBytes (result : TagResult) : List Byte :=
  match result with
  | .noReply => [0, 0, 0, 0]
  | .collision => [1, 0, 0, 0]
  | .valid r =>
    toByte (128 + 4 * anchorCode r.anchor + tagTypeCode r.type) :: (twoBytes r.serial.toNat ++ [r.mass])

/-- R35: the data of a MEASURE reply. -/
def measureData (c : Conf) (p : Pos) (part : MeasurePart) (r : SweepReadings) : List Byte :=
  let x := positionReadings c p r.channels
  match part with
  | .mat => twoBytes x.main ++ twoBytes x.check
  | .presence =>
    twoBytes x.presence
      ++ [if buckleRead c p then (r.channels.get p).buckle else 0, if r.latchOpen then 1 else 0]
  | .tag => tagReadBytes (if tagFitted c p then tagResult r.tag else .noReply)

/-- The item code of MEASURE (R204). -/
def measureItem : Nat := 5

/-- ONE_SHOT_COMPLETION (R35). -/
def execOneShotCompletion (r : SweepReadings) (s : State) : Out :=
  .next (match s.powered, s.sweep.flight with
    | true, some (.oneShot p part _) =>
      s.endFlight.place .diagReply (replyPayload measureItem .ok (measureData s.config.running p part r))
    | _, _ => s)

/-! ### Standby watch sample (R22, R194) -/

/-- R194: a local wake cause: pending with a WAKE pulse requested, or a wake at once at invalid straps. -/
def State.localWakeCause (s : State) (pins : BitVec 5) : State :=
  if s.validStraps then s.requestWake.setModeCtl { s.modeCtl with wakeCause := true } else s.wake pins

/-- R22: the watch after a sample, and the wake cause where it hands one on. -/
def State.takeSample (s : State) (sampled : StandbyWatch × Bool) (pins : BitVec 5) : State :=
  if sampled.2 then (s.setSfe { s.sfe with watch := some sampled.1 }).localWakeCause pins
  else s.setSfe { s.sfe with watch := some sampled.1 }

/-- STANDBY_WATCH_SAMPLE (R22). -/
def execStandbyWatchSample (ratios : Four Byte) (latchOpen : Bool) (pins : BitVec 5) (s : State) : Out :=
  .next (match s.powered && s.modeCtl.mode == .standby, s.sfe.watch with
    | true, some w => s.takeSample (w.sample ratios (latchLevel latchOpen)) pins
    | _, _ => s)

end Sys2Proof.Machine
end

