-- ==== Sys2Proof/Machine/Timers.lean ====
section
/-! DEFINITION. The timer expiries of the ladder, the lamps, the tell-tale, the holds and the STATE emission, and
the passing of one millisecond (log entry 7). -/

namespace Sys2Proof.Machine

/-! ### Ladder timers (R90 to R93, R97) -/

/-- A ladder timer of the record at p stands at its limit; that of a record created anew, as by an exchange (R71),
does not. -/
def State.timerDue (s : State) (p : Pos) (timer : Record → Timer) (limit : Nat) : Bool :=
  s.powered && (s.recordAt p).any fun r => (timer r).isAt limit

/-- A record's expiry is taken where its timer has run out; the lamp follows (R33). -/
def State.expire (s : State) (p : Pos) (timer : Record → Timer) (limit : Nat) (f : Record → Record) : Out :=
  onlyIf (s.timerDue p timer limit) (s.updateRecord p f).refreshLamps s

/-- GRACE_TIMER_EXPIRY (R90). -/
def execGraceTimerExpiry (p : Pos) (s : State) : Out :=
  s.expire p Record.graceTimer (seconds s.config.running.tGrace) fun r => r.leaveGrace s.ladderEnv

/-- ESCALATION_TIMER_EXPIRY (R91). -/
def execEscalationTimerExpiry (p : Pos) (s : State) : Out :=
  s.expire p Record.escalation (seconds s.config.running.tL1) fun r => r.toLevel2 s.ladderEnv

/-- CHIME_SECOND (R92). -/
def execChimeSecond (p : Pos) (s : State) : Out :=
  s.expire p Record.chimeTimer 1000 fun r => r.chimeTick s.ladderEnv

/-- SLOW_TIMER_EXPIRY (R93). -/
def execSlowTimerExpiry (p : Pos) (s : State) : Out :=
  s.expire p Record.slowTimer slowMs fun r => r.atLevel .level1

/-- R97: the buckled run. -/
def Record.endBuckledRun (r : Record) : Record := { r with chimeUsed := 0, buckledRun := .stopped }

/-- BUCKLED_RUN_EXPIRY (R97). -/
def execBuckledRunExpiry (p : Pos) (s : State) : Out :=
  s.expire p Record.buckledRun buckledRunMs Record.endBuckledRun

/-! ### Flashing outputs -/

/-- R102: a flashing lamp changes its phase. -/
def Lamp.toggle : Lamp → Lamp
  | .flashing on _ => .flashing (!on) 0
  | .off => .off
  | .steady => .steady

/-- R102: a flashing lamp's half period is over. -/
def Lamp.halfOver : Lamp → Bool
  | .flashing _ ms => lampHalfMs ≤ ms
  | .off => false
  | .steady => false

/-- LAMP_FLASH_TOGGLE (R102). -/
def execLampFlashToggle (p : Pos) (s : State) : Out :=
  onlyIf (s.powered && (s.lamps.get p).halfOver) (s.setLamps (s.lamps.set p (s.lamps.get p).toggle)) s

/-- R139: the patterns that flash. -/
def Pattern.flashes : Pattern → Bool
  | .flash | .degraded => true
  | .steady | .off => false

/-- R139: half a period of a flashing pattern. -/
def Pattern.halfMs : Pattern → Nat
  | .flash => 500
  | .degraded => 125
  | .steady | .off => 0

/-- TELL_TALE_FLASH_TOGGLE (R139); a pattern that changes first begins with its on phase. -/
def execTellTaleFlashToggle (s : State) : Out :=
  onlyIf (s.powered && s.duty.pattern.flashes && s.duty.pattern.halfMs ≤ s.duty.ttMs)
    (s.setDuty { s.duty with ttOn := !s.duty.ttOn, ttMs := 0 }) s

/-! ### Holds and emission -/

/-- RESTARTED_HOLD_EXPIRY (R171). -/
def execRestartedHoldExpiry (s : State) : Out :=
  onlyIf (s.powered && s.emission.restarted.isAt restartedMs) (s.setEmission { s.emission with restarted := .stopped }) s

/-- EVENT_LOSS_HOLD_EXPIRY (R161); an EVENT frame dropped first restarts the hold. -/
def execEventLossHoldExpiry (s : State) : Out :=
  onlyIf (s.powered && s.link.eventLoss.isAt eventLossMs) (s.setLink { s.link with eventLoss := .stopped }) s

/-- FENCE_END (R166). -/
def execFenceEnd (s : State) : Out :=
  onlyIf (s.powered && s.link.fence.isAt fenceMs) (s.setLink { s.link with fence := .stopped, mismatchRun := 0 }) s

/-- STUCK_HOLD_END (R158): the line has been recessive for 50 ms; a falling edge first restarts them. -/
def execStuckHoldEnd (s : State) : Out :=
  onlyIf (s.powered && s.link.stuck.isAt stuckMs && !s.link.lineHeld) (s.setLink { s.link with stuck := .stopped }) s

/-- R174: in SERVICE the report is built afresh before it is placed. -/
def State.emit (s : State) : State :=
  if s.modeCtl.mode = .service then s.rebuildReport.placeState else s.placeState

/-- EMISSION_TIMER_EXPIRY (R174); a placing taken first restarts the timer before it can expire. -/
def execEmissionTimerExpiry (s : State) : Out :=
  onlyIf (s.powered && s.emission.timer.isAt emissionMs) s.emit s

/-- VEHICLE_DATA_LOST (R176); the age does not run in STANDBY, and a VEHICLE frame taken first restarts it. -/
def execVehicleDataLost (s : State) : Out :=
  onlyIf (s.powered && s.vehicle.fresh && s.modeCtl.mode != .standby && vehicleLostMs ≤ s.vehicle.ageMs)
    (s.deriveVehicle { s.vehicle with fresh := false, ageMs := vehicleLostMs }) s

/-! ### One millisecond -/

/-- A count of milliseconds one on, not beyond its limit. -/
def tickNat (limit n : Nat) : Nat := if n < limit then n + 1 else n

/-- The sweep in flight. -/
def Flight.tick (c : Conf) : Flight → Flight
  | .periodic number test tagAt ms => .periodic number test tagAt (tickNat (sweepMs tagAt.isSome) ms)
  | .oneShot p part ms => .oneShot p part (tickNat (sweepMs (tagFitted c p)) ms)

/-- The sweep controller. -/
def SweepCtl.tick (c : Conf) (m : Mode) (k : SweepCtl) : SweepCtl :=
  { k with flight := k.flight.map (Flight.tick c), period := k.period.tick (periodMs m) }

/-- R192: the alert period timer. -/
def Alert.tick : Alert → Alert
  | .active n timer => .active n (timer.tick alertPeriodMs)
  | .none => .none
  | .acknowledged => .acknowledged
  | .expired => .expired

/-- The timers of a record. -/
def Record.tick (c : Conf) (r : Record) : Record :=
  { r with
    graceTimer := r.graceTimer.tick (seconds c.tGrace)
    escalation := r.escalation.tick (seconds c.tL1)
    chimeTimer := r.chimeTimer.tick 1000
    slowTimer := r.slowTimer.tick slowMs
    buckledRun := r.buckledRun.tick buckledRunMs
    seatedMs := tickNat 1000 r.seatedMs
    alert := r.alert.tick }

/-- The timers of a seat, in ACTIVE and WATCH. -/
def Seat.tick (c : Conf) (seat : Seat) : Seat := { seat with record := seat.record.map (Record.tick c) }

/-- R102: the lamp's phase. -/
def Lamp.tick : Lamp → Lamp
  | .flashing on ms => .flashing on (tickNat lampHalfMs ms)
  | .off => .off
  | .steady => .steady

/-- R112: the age of an entry. -/
def DepEntry.tick (c : Conf) (e : DepEntry) : DepEntry := { e with ageMs := tickNat (seconds c.tMove) e.ageMs }

/-- R129: the time since last heard. -/
def RosterSlot.tick (slot : RosterSlot) : RosterSlot :=
  if slot.state = .absent then slot else { slot with ms := tickNat 65535 slot.ms }

/-- The duty unit; the roster's times stand in STANDBY. -/
def Duty.tick (m : Mode) (d : Duty) : Duty :=
  { d with
    roster := if m = .standby then d.roster else d.roster.map RosterSlot.tick
    ttMs := tickNat d.pattern.halfMs d.ttMs }

/-- R147: an echo cell ends within the millisecond. -/
def Drive.tick : Drive → Drive
  | .echo => .released
  | .released => .released
  | .frame bytes => .frame bytes
  | .wakePulse => .wakePulse

/-- The row link controller; the recessive time of the stuck hold stands while the line is held (R158). -/
def Link.tick (l : Link) : Link :=
  { l with
    fence := l.fence.tick fenceMs
    stuck := if l.lineHeld then l.stuck else l.stuck.tick stuckMs
    eventLoss := l.eventLoss.tick eventLossMs
    drive := l.drive.tick }

/-- The STATE emission. -/
def Emission.tick (e : Emission) : Emission :=
  { e with timer := e.timer.tick emissionMs, restarted := e.restarted.tick restartedMs }

/-- R176: the age. -/
def Vehicle.tick (m : Mode) (v : Vehicle) : Vehicle :=
  if m = .standby then v else { v with ageMs := tickNat vehicleLostMs v.ageMs }

/-- The mode controller; the left-behind timer where it runs (R191). -/
def ModeCtl.tick (c : Conf) (leftBehindRuns : Bool) (k : ModeCtl) : ModeCtl :=
  { k with
    idle := k.idle.tick (seconds c.tIdle)
    window := k.window.map fun w => { w with ms := tickNat windowMs w.ms }
    alone := k.alone.tick aloneMs
    watch := k.watch.tick watchLimitMs
    leftBehindMs := if leftBehindRuns then tickNat (seconds c.tLeft) k.leftBehindMs else k.leftBehindMs }

/-- The commit and the service timer. -/
def Diag.tick (d : Diag) : Diag := { d with commit := d.commit.tick commitMs, service := d.service.tick serviceMs }

/-- R22: the time since the last sample. -/
def Sfe.tick (sfe : Sfe) : Sfe :=
  { sfe with watch := sfe.watch.map fun w => { w with ms := tickNat standbySampleMs w.ms } }

/-- One millisecond for everything that runs. -/
def State.millisecond (s : State) : State :=
  { s with
    sfe := s.sfe.tick
    sweep := s.sweep.tick s.config.running s.modeCtl.mode
    table :=
      if s.modeCtl.mode.keepsRecords then { s.table with seats := s.table.seats.map (Seat.tick s.config.running) }
      else s.table
    lamps := s.lamps.map Lamp.tick
    departures :=
      if s.modeCtl.mode.keepsRecords then s.departures.map (DepEntry.tick s.config.running) else s.departures
    duty := s.duty.tick s.modeCtl.mode
    link := s.link.tick
    emission := s.emission.tick
    vehicle := s.vehicle.tick s.modeCtl.mode
    modeCtl := s.modeCtl.tick s.config.running s.leftBehindRuns
    diag := s.diag.tick }

/-- What a step does on an empty queue: a millisecond passes where the supply is there. -/
def State.tick (s : State) : State := if s.powered then s.millisecond else s

end Sys2Proof.Machine
end

