-- ==== Sys2Proof/Machine/DutyUnit.lean ====
section
/-! DEFINITION. The duty unit (chapter 7): roster (R129 to R132), Reminder View (R133 to R136) and duty clash
(R128). -/

namespace Sys2Proof.Machine

/-- R129: the roster keeps a slot for this station number: 1 to 13 but the own. -/
def State.keepsSlot (s : State) (n : StationNo) : Bool := n.hasSlot && n != s.station

/-- The roster slot of station n. -/
def Duty.slot (d : Duty) (n : StationNo) : RosterSlot := d.roster.getD (n.toNat - 1) { state := .absent, ms := 0 }

/-- The roster with the slot of station n replaced. -/
def Duty.setSlot (d : Duty) (n : StationNo) (slot : RosterSlot) : Duty :=
  { d with roster := d.roster.set (n.toNat - 1) slot }

/-- The row of station n. -/
def Duty.row (d : Duty) (n : StationNo) : ViewRow := d.view.getD (n.toNat - 1) .empty

/-- The view with the row of station n replaced; station 13 has none. -/
def Duty.setRow (d : Duty) (n : StationNo) (row : ViewRow) : Duty :=
  { d with view := d.view.set (n.toNat - 1) row }

/-- R130: an accepted frame makes its station's slot LIVE. -/
def State.hear (s : State) (n : StationNo) : State :=
  if s.keepsSlot n then s.setDuty (s.duty.setSlot n { state := .live, ms := 0 }) else s

/-- R131: the slot of n is in this state with its time at this limit; the time runs in ACTIVE, WATCH and SERVICE. A
frame taken first returns the time to 0, and the expiry does not occur. -/
def State.slotRanOut (s : State) (n : StationNo) (state : SlotState) (limit : Nat) : Bool :=
  s.powered && s.modeCtl.mode != .standby && s.keepsSlot n && (s.duty.slot n).state == state
  && limit ≤ (s.duty.slot n).ms

/-- ROSTER_SILENT (R131). -/
def execRosterSilent (n : StationNo) (s : State) : Out :=
  onlyIf (s.slotRanOut n .live silentMs)
    (s.setDuty (s.duty.setSlot n { state := .silent, ms := (s.duty.slot n).ms })).refreshDuty s

/-- ROSTER_LOST (R131); the row of the station is emptied (R136). -/
def execRosterLost (n : StationNo) (s : State) : Out :=
  onlyIf (s.slotRanOut n .silent lostMs)
    (s.setDuty
      ((s.duty.setSlot n { state := .lost, ms := (s.duty.slot n).ms }).setRow n .empty)).refreshDuty s

/-- R132: the slot becomes RELEASED, and at a station holding duty the row is emptied; a number with no slot
touches nothing (R129). -/
def State.release (s : State) (n : StationNo) : State :=
  if s.keepsSlot n then
    let d := s.duty.setSlot n { state := .released, ms := (s.duty.slot n).ms }
    (s.setDuty (if s.holdsDuty then d.setRow n .empty else d)).refreshDuty
  else s

/-- ROW_RELEASE_HANDLED (R132). -/
def execRowReleaseHandled (s : State) : Out := s.handleFrame .rowRelease fun f s => s.release f.station

/-! ### STATE frames (R128, R134) -/

/-- The flags byte of a STATE payload. -/
def stateFlags (payload : List Byte) : Byte := byteAt payload 5

/-- Its DUTY flag. -/
def dutyFlag (payload : List Byte) : Bool := (stateFlags payload).getLsbD 3

/-- Its UNLATCHED flag. -/
def unlatchedFlag (payload : List Byte) : Bool := (stateFlags payload).getLsbD 4

/-- R134: a slot before a STATE fills it; one that had no value takes UNSCANNED and QUIET. -/
def ViewRow.slotBefore (row : ViewRow) (p : Pos) : ViewSlot :=
  match row with
  | .empty => { cls := .unscanned, level := .quiet }
  | .filled _ slots => slots.get p

/-- R134: the row a STATE payload fills. -/
def ViewRow.fill (row : ViewRow) (payload : List Byte) : ViewRow :=
  .filled (unlatchedFlag payload)
    (Four.ofFn fun p => (slotOfByte (byteAt payload p.val)).getD (row.slotBefore p))

/-- R128: this station yields duty. -/
def State.yieldDuty (s : State) : State :=
  (s.setDuty { s.duty with yielded := true, view := List.replicate 12 .empty }).refreshDuty

/-- R134: the STATE of n is taken into the view. -/
def State.takesRow (s : State) (n : StationNo) : Bool :=
  s.holdsDuty && s.modeCtl.mode.keepsRecords && (s.duty.slot n).state != .released

/-- R128, R134: a STATE of another station n, 1 to 12. -/
def State.peerState (s : State) (n : StationNo) (payload : List Byte) : State :=
  if s.holdsDuty && dutyFlag payload && n.toNat < s.station.toNat then s.yieldDuty
  else if s.takesRow n then (s.setDuty (s.duty.setRow n ((s.duty.row n).fill payload))).refreshDuty
  else s

/-- STATE_HANDLED (R134): a STATE of station 13, of the own number or of a number with no row is not looked at. -/
def execStateHandled (s : State) : Out :=
  s.handleFrame .state fun f s =>
    if f.station.isRow && f.station != s.station then s.peerState f.station f.payload else s

end Sys2Proof.Machine
end

