-- ==== Sys2Proof/Machine/RowLink.lean ====
section
/-! DEFINITION. The row link controller (chapter 8): stuck line and pulses (R156 to R159), sending (R148 to R151)
and receiving (R152 to R154). Log entry 22 says how the line stands in the model. -/

namespace Sys2Proof.Machine

/-! ### Pulses -/

/-- R159: the station does not read the line while it drives its own WAKE pulse. -/
def State.readsLine (s : State) : Bool := s.powered && s.link.drive != .wakePulse

/-- R158: a line stuck dominant: reported, and the stuck hold starts; its recessive time waits for the dominant's
end. -/
def State.stuckLine (s : State) : State :=
  (s.reportLink .lineStuck 0 []).setLink { s.link with stuck := .running 0, lineHeld := true }

/-- LINE_STUCK (R158). -/
def execLineStuck (s : State) : Out := onlyIf s.readsLine s.stuckLine s

/-- R158: a dominant has come and gone: the recessive time of the stuck hold runs from 0. -/
def State.edge (s : State) : State := s.setLink { s.link with stuck := s.link.stuck.restart, lineHeld := false }

/-- R156, R157: a classed pulse; LINE_STUCK was classed when the dominant passed 10 ms, and only ends here. -/
def State.hearPulse (s : State) (c : PulseClass) (pins : BitVec 5) : State :=
  match c with
  | .form => s.reportLink .form 0 []
  | .wake => s.heardWake pins
  | .halt => s.heardHalt
  | .lineStuck => s
  | .none => s

/-- PULSE_END (R156). -/
def execPulseEnd (length : Nat) (pins : BitVec 5) (s : State) : Out :=
  onlyIf (s.readsLine && (Instr.pulseEnd length pins).wf) (s.edge.hearPulse (pulseClass length) pins) s

/-! ### Starting a frame (R148) -/

/-- Neither a frame nor a pulse is on the pin. -/
def Drive.isFree : Drive → Bool
  | .released | .echo => true
  | .frame _ | .wakePulse => false

/-- R148: what every frame needs. -/
def State.maySend (s : State) : Bool :=
  s.powered && s.validStraps && !s.link.fence.isRunning && !s.link.stuck.isRunning && !s.link.wakePending
  && (s.modeCtl.mode == .active || s.modeCtl.mode == .service) && s.link.drive.isFree

/-- R148: the frame is not a CLAIM while the self slot is occupied. -/
def Link.eligible (l : Link) (e : TxEntry) : Bool := e.kind != .claim || l.selfSlot.isNone

/-- R148: of two entries in placing order, the one sent first: the lower kind, else the one before. -/
def lowerKind (best e : TxEntry) : TxEntry := if e.kind.code < best.kind.code then e else best

/-- R148: the eligible frame of lowest kind, of several the one placed first. -/
def Link.chosen (l : Link) : Option TxEntry :=
  match l.txq.filter l.eligible with
  | [] => none
  | e :: rest => some (rest.foldl lowerKind e)

/-- The queue with the first entry like this one being sent. -/
def startSending : List TxEntry → TxEntry → List TxEntry
  | [], _ => []
  | x :: rest, e => if x = e then { x with sending := true } :: rest else x :: startSending rest e

/-- R144, R146: the bytes a station sends for an entry. -/
def State.bytesOf (s : State) (e : TxEntry) : List Byte := frameBytes (headerByte e.kind s.station) e.payload

/-- R148: the frame starts. -/
def State.startFrame (s : State) : State :=
  match s.link.chosen with
  | some e => s.setLink { s.link with txq := startSending s.link.txq e, drive := .frame (s.bytesOf e) }
  | none => s

/-- FRAME_TX_START (R148): the line is idle. -/
def execFrameTxStart (s : State) : Out := onlyIf (s.maySend && s.link.sendingEntry.isNone) s.startFrame s

/-! ### How a transmission ends (R149 to R151) -/

/-- The entry on the line, none where the station is not sending; in STANDBY nothing is sent (log entry 12). -/
def State.onLine (s : State) : Option TxEntry :=
  if s.powered && s.modeCtl.mode != .standby then s.link.sendingEntry else none

/-- R164: an entry waits again, with the newer content it was given. -/
def TxEntry.waitAgain (e : TxEntry) : TxEntry :=
  { e with sending := false, newer := none, payload := e.newer.getD e.payload }

/-- R121: the entry is a CLAIM with its void mark set. -/
def TxEntry.isVoid (e : TxEntry) : Bool := e.claim.any fun c => c.voided

/-- R149: after a lost arbitration the entry waits again; a voided CLAIM is removed at once (R121). -/
def afterLoss (q : List TxEntry) : List TxEntry :=
  (q.filter fun e => !(e.sending && e.isVoid)).map fun e => if e.sending then e.waitAgain else e

/-- R150, R151, R164: at its end the entry leaves the queue, unless newer content was given. -/
def afterEnd (q : List TxEntry) : List TxEntry :=
  (q.filter fun e => !(e.sending && e.newer.isNone)).map fun e => if e.sending then e.waitAgain else e

/-- ARBITRATION_LOST (R149). -/
def execArbitrationLost (s : State) : Out :=
  onlyIf s.onLine.isSome
    ((s.setLink { s.link with txq := afterLoss s.link.txq, drive := .released }).count
      fun k => { k with arbLoss := saturatingSucc k.arbLoss }) s

/-- R150, R166: the mismatch run advances, and at 8 the fence starts. -/
def Link.mismatch (l : Link) : Link :=
  { l with
    txq := afterEnd l.txq
    drive := .released
    mismatchRun := min (l.mismatchRun + 1) fenceRun
    fence := if fenceRun ≤ l.mismatchRun + 1 then .running 0 else l.fence }

/-- R166: the fence is reported. -/
def State.reportFence (s : State) (entered : Bool) (header : Byte) (payload : List Byte) : State :=
  if entered then s.reportLink .fenceEntry header payload else s

/-- R120, R183: what a discarded frame does to its owner. -/
def State.frameCutOff (s : State) (e : TxEntry) : State :=
  match e.kind, e.claim with
  | .claim, some c => s.claimCutOff c
  | .sleepPropose, _ => s.restartIdle
  | _, _ => s

/-- R150: a bit after the header differs from the line. -/
def State.cutOff (s : State) (e : TxEntry) : State :=
  (((s.setLink s.link.mismatch).reportLink .bitMismatch (headerByte e.kind s.station) e.payload).reportFence
    (fenceRun ≤ s.link.mismatchRun + 1) (headerByte e.kind s.station) e.payload).frameCutOff e

/-- BIT_MISMATCH (R150). -/
def execBitMismatch (s : State) : Out :=
  .next (match s.onLine with
    | some e => s.cutOff e
    | none => s)

/-- R151, R162: the link once a frame has been sent; a CLAIM goes to the self slot. -/
def Link.sent (l : Link) (e : TxEntry) : Link :=
  Link.raiseMark
    { l with
      txq := afterEnd l.txq
      drive := .released
      lineSeq := l.lineSeq + 1
      mismatchRun := 0
      selfSlot := match e.claim with
        | some c => some { claim := c, seq := l.lineSeq + 1 }
        | none => l.selfSlot }

/-- R151: the counters. -/
def Counters.sent (k : Counters) (echoed : Bool) : Counters :=
  { k with
    framesSent := saturatingSucc k.framesSent
    echoMissing := if echoed then k.echoMissing else saturatingSucc k.echoMissing }

/-- R151: a recessive echo sample is reported. -/
def State.reportEcho (s : State) (e : TxEntry) (echoed : Bool) : State :=
  if echoed then s else s.reportLink .echoMissing (headerByte e.kind s.station) e.payload

/-- R193: the alert whose ALERT with count 60 has been sent. -/
def Alert.isLast : Alert → Bool
  | .active n _ => n == alertLimit
  | .none | .acknowledged | .expired => false

/-- R193: the report of a sent ALERT. -/
def State.alertSent (s : State) (payload : List Byte) : State :=
  if alertCountOf payload == alertLimit && (s.recordAt (alertPos payload)).any (fun r => r.alert.isLast) then
    s.endAlert (alertPos payload) .expired
  else s

/-- R151: a sent SLEEP_PROPOSE or ALERT is reported to the mode controller. -/
def State.sentReport (s : State) (e : TxEntry) : State :=
  match e.kind with
  | .sleepPropose => s.openWindow
  | .alert => s.alertSent e.payload
  | _ => s

/-- R151: a frame has been sent. -/
def State.frameSent (s : State) (e : TxEntry) (echoed : Bool) : State :=
  (((s.setLink (s.link.sent e)).count fun k => k.sent echoed).reportEcho e echoed).sentReport e

/-- FRAME_SENT (R151). -/
def execFrameSent (echoed : Bool) (s : State) : Out :=
  .next (match s.onLine with
    | some e => s.frameSent e echoed
    | none => s)

/-! ### The own WAKE pulse (R159) -/

/-- R159: the pending pulse can start. -/
def State.maySendPulse (s : State) : Bool :=
  s.powered && s.validStraps && s.link.wakePending && !s.link.fence.isRunning && !s.link.stuck.isRunning
  && s.link.drive.isFree

/-- WAKE_PULSE_SEND_START (R159): the line is idle. -/
def execWakePulseSendStart (s : State) : Out :=
  onlyIf s.maySendPulse (s.setLink { s.link with drive := .wakePulse }) s

/-- R194: a station in STANDBY with a pending local wake cause wakes. -/
def State.wakeOnCause (s : State) (pins : BitVec 5) : State :=
  if s.modeCtl.mode = .standby ∧ s.modeCtl.wakeCause then s.wake pins else s

/-- R159, R194: the pulse heard at the release: a HALT keeps a station in STANDBY, any other heard pulse lets
its own cause wake it. -/
def State.hearAtRelease (s : State) (length : Nat) (pins : BitVec 5) : State :=
  match pulseClass length with
  | .lineStuck => s.stuckLine.edge.wakeOnCause pins
  | .halt => s.edge.heardHalt
  | .form => (s.edge.hearPulse .form pins).wakeOnCause pins
  | .wake => s.edge.heardWake pins
  | .none => s

/-- WAKE_PULSE_RELEASE (R159): the pending pulse ends. -/
def execWakePulseRelease (heard : Option Nat) (pins : BitVec 5) (s : State) : Out :=
  let t := s.setLink { s.link with drive := .released, wakePending := false }
  onlyIf (s.powered && s.link.drive == .wakePulse && (Instr.wakePulseRelease heard pins).wf)
    (match heard with
      | none => t.wakeOnCause pins
      | some length => t.hearAtRelease length pins) s

/-! ### Receiving (R152 to R154) -/

/-- R147: the echo is driven, but not under the stuck hold. -/
def Link.echo (l : Link) : Link := { l with drive := if l.stuck.isRunning then .released else .echo }

/-- R151, R152, R154: a frame on the line takes the next line sequence number. -/
def State.numberAndEcho (s : State) : State := s.setLink { s.link.echo with lineSeq := s.link.lineSeq + 1 }

/-- R187: an accepted frame returns the alone timer to 0. -/
def State.restartAlone (s : State) : State := s.setModeCtl { s.modeCtl with alone := s.modeCtl.alone.restart }

/-- R183, R184: a SLEEP_PROPOSE of another station withdraws the own one and opens the window. -/
def State.hearProposal (s : State) (kind : FrameKind) : State :=
  if kind = .sleepPropose then s.withdrawProposals.openWindow else s

/-- R152: an accepted frame. -/
def State.accept (s : State) (kind : FrameKind) (n : StationNo) (payload : List Byte) : State :=
  ((((s.numberAndEcho.hear n).refreshDuty).restartAlone).hearProposal kind).offerRx
    { kind, station := n, payload, seq := s.link.lineSeq + 1 }

/-- R154: the station-clash flag is set. -/
def State.markClash (s : State) : State := s.setLink { s.link with stationClash := true }

/-- R152, R154: a good frame with the own number that this station did not send is accepted too: it is numbered and
echoed, and the mode controller is told of it (R183, R184, R187); it touches no roster slot and no receive queue. -/
def State.stationClash (s : State) (kind : FrameKind) (header : Byte) (payload : List Byte) : State :=
  (((s.numberAndEcho.restartAlone).hearProposal kind).reportLink .stationClash header payload).markClash

/-- R153: a bad check: CHECK_FAIL, or INCONSISTENT where another station echoed the frame. -/
def State.badCheck (s : State) (header : Byte) (payload : List Byte) (echoed : Bool) : State :=
  (s.count fun k => { k with checkFail := saturatingSucc k.checkFail }).reportLink
    (if echoed then .inconsistent else .checkFail) header payload

/-- R152 to R154: a frame read to the end of its check byte. -/
def State.wholeFrame (s : State) (kind : FrameKind) (header : Byte) (payload : List Byte) (check : Byte)
    (echoed : Bool) : State :=
  if crc (header :: payload) = check then
    if s.validStraps && headerStation header == s.station then s.stationClash kind header payload
    else s.accept kind (headerStation header) payload
  else s.badCheck header payload echoed

/-- R152 to R156: what a reading comes to; a frame cut off by a long dominant is discarded with no report. -/
def State.takeReading (s : State) (r : Reading) (echoed : Bool) : State :=
  match r with
  | .frame kind header payload check => s.wholeFrame kind header payload check echoed
  | .form bytes => s.reportLink .form (byteAt bytes 0) bytes.tail
  | .cutByPulse => s

/-- R159: a station follows the cells on the line while it drives neither a frame nor a pulse. -/
def State.followsCells (s : State) : Bool := s.powered && s.link.drive.isFree

/-- R152, R158: the cells of a frame on the line: their falling edges restart a stuck hold's time in every mode, and
outside STANDBY the frame is read. -/
def State.hearCells (s : State) (r : Reading) (echoed : Bool) : State :=
  if s.modeCtl.mode = .standby then s.edge else s.edge.takeReading r echoed

/-- FRAME_RECEPTION_END (R152). -/
def execFrameReceptionEnd (cells : List LineCell) (echoed : Bool) (s : State) : Out :=
  onlyIf (s.followsCells && (Instr.frameReceptionEnd cells echoed).wf) (s.hearCells (readFrame cells) echoed) s

end Sys2Proof.Machine
end

