-- ==== Sys2Proof/Machine/VehicleData.lean ====
section
/-! DEFINITION. The vehicle data record takes a VEHICLE frame (R175, R178). -/

namespace Sys2Proof.Machine

/-- R175: the record after a frame of station 13: fields with valid values taken, FRESH, age 0. -/
def Vehicle.take (v : Vehicle) (f : VehicleFrame) : Vehicle :=
  { v with
    ignition := f.ignition.getD v.ignition
    speed := f.speed.getD v.speed
    fresh := true
    ageMs := 0 }

/-- R113, R178, R182: a door report clears the Departure List and restarts the idle timer. -/
def State.doorReport (s : State) (isOpen : Bool) : State :=
  if isOpen then (s.setDepartures []).restartIdle else s

/-- R178, R193: an acknowledgement. -/
def State.acknowledge (s : State) (set : Bool) : State := if set then s.acknowledgeAlerts else s

/-- R175, R178: a VEHICLE frame of station 13. -/
def State.takeVehicle (s : State) (f : VehicleFrame) : State :=
  ((s.deriveVehicle (s.vehicle.take f)).doorReport f.doorOpen).acknowledge f.acknowledge

/-- R175: a VEHICLE frame of another station only counts. -/
def State.vehicleFrom (s : State) (n : StationNo) (payload : List Byte) : State :=
  if n = 13 then s.takeVehicle (vehicleOfPayload payload)
  else s.count fun k => { k with foreignVehicle := saturatingSucc k.foreignVehicle }

/-- VEHICLE_HANDLED (R175). -/
def execVehicleHandled (s : State) : Out := s.handleFrame .vehicle fun f s => s.vehicleFrom f.station f.payload

end Sys2Proof.Machine
end

