-- ==== Sys2Proof/Machine/ModeControl.lean ====
section
/-! DEFINITION. The mode controller's commands (chapter 10): the sleep agreement (R182 to R187), WATCH (R189) and
the left-behind alert (R192). -/

namespace Sys2Proof.Machine

/-! ### Handled frames -/

/-- SLEEP_REFUSE_HANDLED (R185): an open window closes and the idle timer restarts. -/
def execSleepRefuseHandled (s : State) : Out := s.handleFrame .sleepRefuse fun _ s => s.closeWindow.restartIdle

/-- ALERT_HANDLED (R182): the idle timer restarts. -/
def execAlertHandled (s : State) : Out := s.handleFrame .alert fun _ s => s.restartIdle

/-- SLEEP_PROPOSE_HANDLED (R183): it changes nothing here; its place in the queue is freed. -/
def execSleepProposeHandled (s : State) : Out := s.handleFrame .sleepPropose fun _ s => s

/-! ### Idle timer (R183) -/

/-- R183: the reason ALERT_ACTIVE or LATCH_OPEN holds. -/
def State.standingReason (s : State) : Bool := s.table.anyAlert || s.sfe.latch == some .opened

/-- R183: an own proposal waits in the transmit queue. -/
def Link.holdsProposal (l : Link) : Bool := l.txq.any fun e => e.kind == .sleepPropose

/-- The SLEEP_PROPOSE of this station. -/
def proposal : TxEntry := newEntry .sleepPropose [] none

/-- R183: a proposal is placed; one refused is lost, and the idle timer restarts. -/
def State.propose (s : State) : State :=
  if (s.offerOf proposal).taken then s.offerTx proposal else (s.offerTx proposal).restartIdle

/-- R183: the first case that holds; the timer stands at T_idle. -/
def State.idleReached (s : State) : State :=
  if s.modeCtl.window.isSome then s
  else if s.standingReason then s.restartIdle
  else if s.link.holdsProposal then s
  else s.propose

/-- IDLE_TIMER_EXPIRY (R183); a restart taken first means that T_idle is not reached (R182). -/
def execIdleTimerExpiry (s : State) : Out :=
  onlyIf (s.powered && s.modeCtl.mode == .active && s.modeCtl.idle.isAt (seconds s.config.running.tIdle)) s.idleReached s

/-! ### Window and alone timer (R186, R187) -/

/-- R186: the end of a window in ACTIVE. -/
def State.activeWindowEnd (s : State) (w : Window) : State :=
  if w.refusedHere || s.refusalReason.isSome then s.closeWindow.restartIdle else s.closeWindow.ownDecision

/-- R186: the end of a window. -/
def State.endWindow (s : State) (w : Window) : State :=
  if s.modeCtl.mode = .active then s.activeWindowEnd w else s.closeWindow

/-- WINDOW_END (R186); a proposal that ends first restarts the window (R184). -/
def execWindowEnd (s : State) : Out :=
  .next (match s.powered, s.modeCtl.window with
    | true, some w => if windowMs ≤ w.ms then s.endWindow w else s
    | _, _ => s)

/-- R187: the alone timer at 10 s. -/
def State.aloneReached (s : State) : State :=
  if s.modeCtl.window.isSome || s.refusalReason.isSome then
    s.setModeCtl { s.modeCtl with alone := .running 0 }
  else s.ownDecision

/-- ALONE_TIMER_EXPIRY (R187); a frame taken first returns the timer to 0, and the expiry does not occur. -/
def execAloneTimerExpiry (s : State) : Out :=
  onlyIf (s.powered && s.modeCtl.mode == .active && s.modeCtl.alone.isAt aloneMs) s.aloneReached s

/-! ### WATCH (R189) and the left-behind alert (R192) -/

/-- WATCH_TIMER_EXPIRY (R189). -/
def execWatchTimerExpiry (s : State) : Out :=
  onlyIf (s.powered && s.modeCtl.mode == .watch && s.modeCtl.watch.isAt watchLimitMs) s.enterStandby s

/-- R192: an ALERT of the record at p with this count; the period timer starts. -/
def State.sendAlert (s : State) (p : Pos) (cls : Cls) (count : Nat) : State :=
  (s.updateRecord p fun r => { r with alert := .active count (.running 0) }).place .alert (alertPayload p cls count)

/-- R192: the alert of a qualifying record is raised, with its first ALERT. -/
def State.raiseAlert (s : State) (p : Pos) : State :=
  match s.recordAt p with
  | some r => if r.qualifies then s.sendAlert p r.cls 1 else s
  | none => s

/-- R192: the left-behind timer at T_left; WATCH gives way to ACTIVE, where no window is open yet. -/
def State.leftBehind (s : State) : State :=
  let t := s.requestWake.leaveWatch
  positionsInOrder.foldl State.raiseAlert (t.setModeCtl { t.modeCtl with leftBehindMs := 0 })

/-- LEFT_BEHIND_EXPIRY (R192); a completion taken first that ends the last qualifying record sets the timer to 0 (R191),
and the expiry does not occur. -/
def execLeftBehindExpiry (s : State) : Out :=
  onlyIf (s.powered && s.leftBehindRuns && seconds s.config.running.tLeft ≤ s.modeCtl.leftBehindMs) s.leftBehind s

/-- R192, R193: the alert period timer at 2 s: the next ALERT, or EXPIRED with the count at 60. -/
def State.alertPeriod (s : State) (p : Pos) : State :=
  match s.recordAt p with
  | none => s
  | some r =>
    match r.alert with
    | .active n timer =>
      if timer.isAt alertPeriodMs then
        (if n < alertLimit then s.sendAlert p r.cls (n + 1) else s.endAlert p .expired)
      else s
    | .none => s
    | .acknowledged => s
    | .expired => s

/-- ALERT_PERIOD_EXPIRY (R192). -/
def execAlertPeriodExpiry (p : Pos) (s : State) : Out :=
  onlyIf (s.powered && s.modeCtl.mode == .active) (s.alertPeriod p) s

end Sys2Proof.Machine
end

