-- ==== Sys2Proof/Machine/Diagnosis.lean ====
section
/-! DEFINITION. Diagnosis and store (chapter 11): the DIAG queries (R204, R205), CONFIG (R207), the store commit
(R208) and service entry and exit (R206, R209). -/

namespace Sys2Proof.Machine

/-! ### Queries and replies (R204) -/

/-- The item byte of a DIAG_QUERY or CONFIG payload. -/
def itemOf (payload : List Byte) : Nat := (byteAt payload 1).toNat

/-- The argument byte of a DIAG_QUERY. -/
def argumentOf (payload : List Byte) : Nat := (byteAt payload 2).toNat

/-- The value of a CONFIG. -/
def valueOf (payload : List Byte) : Nat := ofTwoBytes (byteAt payload 2) (byteAt payload 3)

/-- R204: the service timer restarts where it runs. -/
def State.restartService (s : State) : State := s.setDiag { s.diag with service := s.diag.service.restart }

/-- R204: one DIAG_REPLY. -/
def State.reply (s : State) (item : Nat) (result : Result) (data : List Byte) : State :=
  s.place .diagReply (replyPayload item result data)

/-- R204: any result but OK and CLAMPED carries four bytes of 0. -/
def State.refuse (s : State) (item : Nat) (result : Result) : State := s.reply item result []

/-- The DIAG_QUERY of this item that the handler takes now. -/
def State.nextQuery (s : State) (item : Nat) : Option RxFrame :=
  (s.nextFrame .diagQuery).filter fun f => itemOf f.payload == item

/-- R204: the query leaves the queue and restarts the service timer, and is answered. -/
def State.handleQuery (s : State) (item : Nat) (answer : Nat → State → State) : Out :=
  .next (match s.nextQuery item with
    | some f => answer (argumentOf f.payload) (s.takeFrame f).restartService
    | none => s)

/-- A read query: its data, none where the argument is outside what the item allows. -/
def State.answerRead (s : State) (item : Nat) (data : Option (List Byte)) : State :=
  match data with
  | some bytes => s.reply item .ok bytes
  | none => s.refuse item .badItem

/-! ### Captures and counters (R202, R203, R205) -/

/-- R205: the state byte of a capture, LOST in bit 7. -/
def Capture.stateCode {ρ : Type} : Capture ρ → Nat
  | .empty => 0
  | .softHeld _ => 1
  | .locked _ lost => if lost then 130 else 2

/-- The report a capture holds. -/
def Capture.report {ρ : Type} : Capture ρ → Option ρ
  | .empty => none
  | .softHeld r => some r
  | .locked r _ => some r

/-- R205: a part of the measurement capture; an EMPTY one reads its fields as 0. -/
def measPart (c : Capture MeasReport) (part : Nat) : Option (List Byte) :=
  match part with
  | 0 => some (toByte c.stateCode ::
      match c.report with
      | some r => [toByte r.pos.val, toByte r.kind.code, toByte r.severity.code]
      | none => [0, 0, 0])
  | 1 => some (match c.report with
      | some r => twoBytes r.main ++ twoBytes r.check
      | none => [])
  | 2 => some (match c.report with
      | some r => twoBytes r.stamp.toNat
      | none => [])
  | _ => none

/-- R205: a part of the link capture. -/
def linkPart (c : Capture LinkReport) (part : Nat) : Option (List Byte) :=
  match part with
  | 0 => some (toByte c.stateCode ::
      match c.report with
      | some r => [toByte r.kind.code, toByte r.severity.code, r.header]
      | none => [0, 0, 0])
  | 1 => some (match c.report with
      | some r => [r.first, r.second] ++ twoBytes r.stamp.toNat
      | none => [])
  | _ => none

/-- Bit 4 of an argument names the link capture. -/
def namesLink (arg : Nat) : Bool := arg.testBit 4

/-- R205: the data of READ_CAPTURE. -/
def Diag.capturePart (d : Diag) (arg : Nat) : Option (List Byte) :=
  if namesLink arg then linkPart d.link (arg % 4) else measPart d.meas (arg % 4)

/-- READ_CAPTURE (R205), item 1. -/
def execReadCapture (s : State) : Out :=
  s.handleQuery 1 fun arg s => s.answerRead 1 (s.diag.capturePart arg)

/-- R202: the named capture becomes EMPTY. -/
def Diag.clearCapture (d : Diag) (arg : Nat) : Diag :=
  if namesLink arg then { d with link := .empty } else { d with meas := .empty }

/-- CLEAR_CAPTURE (R202), item 2. -/
def execClearCapture (s : State) : Out :=
  s.handleQuery 2 fun arg s => (s.setDiag (s.diag.clearCapture arg)).reply 2 .ok []

/-- R203: the two counters of a group. -/
def Counters.group (k : Counters) : Nat → Option (Nat × Nat)
  | 0 => some (k.framesSent, k.arbLoss)
  | 1 => some (k.rxEvent, k.rxStatus)
  | 2 => some (k.rxService, k.rxDropEvent)
  | 3 => some (k.rxDropStatus, k.rxDropService)
  | 4 => some (k.echoMissing, k.checkFail)
  | 5 => some (k.txOverflow, k.listEvict)
  | 6 => some (k.claimsWon, k.claimsYielded)
  | 7 => some (k.claimUnmatched, k.refusalsSent)
  | 8 => some (k.softFaults, k.foreignVehicle)
  | _ => none

/-- R203: the counters with a group cleared. -/
def Counters.clearGroup (k : Counters) : Nat → Counters
  | 0 => { k with framesSent := 0, arbLoss := 0 }
  | 1 => { k with rxEvent := 0, rxStatus := 0 }
  | 2 => { k with rxService := 0, rxDropEvent := 0 }
  | 3 => { k with rxDropStatus := 0, rxDropService := 0 }
  | 4 => { k with echoMissing := 0, checkFail := 0 }
  | 5 => { k with txOverflow := 0, listEvict := 0 }
  | 6 => { k with claimsWon := 0, claimsYielded := 0 }
  | 7 => { k with claimUnmatched := 0, refusalsSent := 0 }
  | 8 => { k with softFaults := 0, foreignVehicle := 0 }
  | _ => k

/-- R203: the data of a group; group 9 is the high-water mark and the frames now held. -/
def State.groupData (s : State) (group : Nat) : Option (List Byte) :=
  if group = 9 then some (twoBytes s.link.highWater ++ twoBytes s.link.held)
  else (s.diag.counters.group group).map fun v => twoBytes v.1 ++ twoBytes v.2

/-- R203: what reading a group changes: the high-water mark, or with clear its two counters. -/
def State.afterReading (s : State) (group : Nat) (clear : Bool) : State :=
  if group = 9 then s.setLink { s.link with highWater := s.link.held }
  else if clear then s.count fun k => k.clearGroup group
  else s

/-- READ_COUNTERS (R203), item 3: the group is cleared once its values are in the reply (log entry 19). -/
def execReadCounters (s : State) : Out :=
  s.handleQuery 3 fun arg s => (s.afterReading (arg % 16) (arg.testBit 7)).answerRead 3 (s.groupData (arg % 16))

/-! ### Position, roster, configuration (R204, R205) -/

/-- The position an argument names, bits 1–0. -/
def posOfArg (arg : Nat) : Pos := ⟨arg % 4, Nat.mod_lt _ (by decide)⟩

/-- R205: the departure tag of a CLAIMING or MOVED record. -/
def originTag (r : Record) : List Byte :=
  match r.origin with
  | .claiming e => tagBytes e.tag
  | .moved tag => tagBytes tag
  | .boarded | .restored | .untraced => []

/-- R205: the serial of a PRESENT tag view, 0 otherwise. -/
def TagView.serial : TagView → Nat
  | .present record => record.serial.toNat
  | .none | .unclear => 0

/-- R205: two's complement in two bytes. -/
def signedBytes (x : Int) : List Byte := twoBytes (x % 65536).toNat

/-- R205: the data of READ_POSITION. -/
def State.positionPart (s : State) (p : Pos) (part : Nat) : List Byte :=
  let sfe := s.sfe.positions.get p
  match part with
  | 0 => twoBytes (s.classes.get p).load ++ signedBytes (s.classes.get p).shift
  | 1 => twoBytes sfe.tagView.serial ++ [toByte sfe.tagView.code]
  | 2 =>
    match s.recordAt p with
    | some r => toByte r.origin.code :: (twoBytes r.seated ++ [toByte r.alert.code])
    | none => []
  | _ =>
    match s.recordAt p with
    | some r => originTag r
    | none => []

/-- R205: an ABSENT position is BAD_ITEM. -/
def State.positionData (s : State) (arg : Nat) : Option (List Byte) :=
  if (s.table.seats.get (posOfArg arg)).cls = .absent then none
  else some (s.positionPart (posOfArg arg) (arg / 4 % 4))

/-- READ_POSITION (R205), item 4. -/
def execReadPosition (s : State) : Out := s.handleQuery 4 fun arg s => s.answerRead 4 (s.positionData arg)

/-- R204, R205: the roster slot of a station; the own number's is ABSENT at 0 ms (R141). That the station is the whole
argument byte, so that 16 to 255 are BAD_ITEM, is the model's choice (log entry 34). -/
def State.rosterData (s : State) (arg : Nat) : Option (List Byte) :=
  if 1 ≤ arg ∧ arg ≤ 13 then
    let n : StationNo := BitVec.ofNat 4 arg
    let slot := if n = s.station then { state := .absent, ms := 0 } else s.duty.slot n
    some (toByte slot.state.code :: twoBytes slot.ms)
  else none

/-- READ_ROSTER (R204), item 6. -/
def execReadRoster (s : State) : Out := s.handleQuery 6 fun arg s => s.answerRead 6 (s.rosterData arg)

/-- R204: an item of the working copy; item 0 is CONFIG_DEFAULTED and the stored sum. -/
def Configuration.itemData (c : Configuration) (arg : Nat) : Option (List Byte) :=
  if arg = 0 then some (toByte (if c.defaulted then 1 else 0) :: twoBytes c.store.sum.toNat)
  else (Item.ofCode arg).map fun i => twoBytes (c.working.value i)

/-- READ_CONFIG (R204), item 7. -/
def execReadConfig (s : State) : Out := s.handleQuery 7 fun arg s => s.answerRead 7 (s.config.itemData arg)

/-- DIAG_QUERY_ITEM_NOT_DEFINED (R204): the item codes are 1 to 10. -/
def execDiagQueryItemNotDefined (s : State) : Out :=
  .next (match (s.nextFrame .diagQuery).filter fun f => itemOf f.payload < 1 || 10 < itemOf f.payload with
    | some f => (s.takeFrame f).restartService.refuse (itemOf f.payload) .badItem
    | none => s)

/-! ### MEASURE (R34) -/

/-- R34: the part an argument names, bits 3–2. -/
def partOfArg (arg : Nat) : Option MeasurePart :=
  match arg / 4 % 4 with
  | 0 => some .mat
  | 1 => some .presence
  | 2 => some .tag
  | _ => none

/-- R34: the one-shot sweep starts. -/
def State.startOneShot (s : State) (p : Pos) (part : MeasurePart) : State :=
  s.setSweep { s.sweep with flight := some (.oneShot p part 0) }

/-- R34: the answer to a MEASURE query; an accepted one is answered at the one-shot completion. -/
def State.measure (s : State) (arg : Nat) : State :=
  match partOfArg arg with
  | none => s.refuse measureItem .badItem
  | some part =>
    if (s.table.seats.get (posOfArg arg)).cls = .absent then s.refuse measureItem .badItem
    else if s.modeCtl.mode ≠ .service then s.refuse measureItem .notService
    else if s.diag.commit.isRunning then s.refuse measureItem .busy
    else s.startOneShot (posOfArg arg) part

/-- MEASURE (R34), item 5. -/
def execMeasure (s : State) : Out := s.handleQuery measureItem fun arg s => s.measure arg

/-! ### SERVICE (R206, R208, R209) -/

/-- R204, R206: the van moves. -/
def State.moving (s : State) : Bool := s.ignitionOn || 0 < s.effSpeed

/-- R206: the answer to ENTER_SERVICE. -/
def State.serviceEntry (s : State) (arg : Nat) : State :=
  if arg ≠ 0 then s.refuse 8 .badItem
  else if s.moving then s.refuse 8 .moving
  else if s.modeCtl.mode = .service then s.reply 8 .ok []
  else s.enterServiceMode.reply 8 .ok []

/-- ENTER_SERVICE (R206), item 8. -/
def execEnterService (s : State) : Out := s.handleQuery 8 fun arg s => s.serviceEntry arg

/-- R204, R209: the answer to LEAVE_SERVICE; the reply is placed after the exit. -/
def State.serviceLeave (s : State) (arg : Nat) : State :=
  if arg ≠ 0 then s.refuse 9 .badItem
  else if s.modeCtl.mode ≠ .service then s.refuse 9 .notService
  else if s.diag.commit.isRunning then s.refuse 9 .busy
  else s.serviceExit.reply 9 .ok []

/-- LEAVE_SERVICE (R209), item 9. -/
def execLeaveService (s : State) : Out := s.handleQuery 9 fun arg s => s.serviceLeave arg

/-- R204, R208: the answer to STORE; the commit starts, answered at its completion. -/
def State.storeQuery (s : State) (arg : Nat) : State :=
  if arg ≠ 0 then s.refuse 10 .badItem
  else if s.modeCtl.mode ≠ .service then s.refuse 10 .notService
  else if s.diag.commit.isRunning then s.refuse 10 .busy
  else s.setDiag { s.diag with commit := .running 0 }

/-- STORE (R208), item 10. -/
def execStoreConfig (s : State) : Out := s.handleQuery 10 fun arg s => s.storeQuery arg

/-- R208: the working copy and its sum are in the store. -/
def State.commitDone (s : State) : State :=
  ((s.setConfig
    { s.config with store := { contents := s.config.working, sum := s.config.working.sum }, defaulted := false }).setDiag
    { s.diag with commit := .stopped }).reply 10 .ok (twoBytes s.config.working.sum.toNat)

/-- COMMIT_COMPLETION (R208): then a HALT that waited takes effect. -/
def execCommitCompletion (s : State) : Out :=
  onlyIf (s.powered && s.diag.commit.isRunning)
    (if s.diag.haltWaiting then s.commitDone.haltFromService else s.commitDone) s

/-- SERVICE_TIMER_EXPIRY (R209); a DIAG_QUERY or CONFIG handled first restarts the timer. -/
def execServiceTimerExpiry (s : State) : Out :=
  onlyIf (s.powered && s.modeCtl.mode == .service && s.diag.service.isAt serviceMs && !s.diag.commit.isRunning)
    s.serviceExit s

/-! ### CONFIG (R207) -/

/-- R57: the _on item of a pair whose _off item this is. -/
def Item.onOf : Item → Option Item
  | .tObjOff => some .tObjOn | .tSmallOff => some .tSmallOn | .tAdultOff => some .tAdultOn
  | .tCsOff => some .tCsOn | .pOff => some .pOn
  | _ => none

/-- R57: the _off item of a pair whose _on item this is. -/
def Item.offOf : Item → Option Item
  | .tObjOn => some .tObjOff | .tSmallOn => some .tSmallOff | .tAdultOn => some .tAdultOff
  | .tCsOn => some .tCsOff | .pOn => some .pOff
  | _ => none

/-- What a CONFIG write comes to. -/
structure Write where
  working : Conf
  result : Result
deriving DecidableEq, Repr

/-- OK, or CLAMPED where the value was adjusted. -/
def clampedIf (adjusted : Bool) : Result := if adjusted then .clamped else .ok

/-- R57: a value in its range, with its pair kept in order. -/
def writePair (c : Conf) (i : Item) (v : Nat) (clamped : Bool) : Write :=
  match i.onOf, i.offOf with
  | some on, _ =>
    if c.value on < v then { working := c.put (c.value on) i, result := .clamped }
    else { working := c.put v i, result := clampedIf clamped }
  | none, some off =>
    if v < c.value off then { working := (c.put v i).put v off, result := .clamped }
    else { working := c.put v i, result := clampedIf clamped }
  | none, none => { working := c.put v i, result := clampedIf clamped }

/-- R207: a write of a mask, the high bits dropped. -/
def writeMask (c : Conf) (i : Item) (v : Nat) : Write :=
  { working := c.put (v % 16) i, result := clampedIf (16 ≤ v) }

/-- R207, rows 4 to 8: a write into the working copy. -/
def writeItem (c : Conf) (i : Item) (v : Nat) : Write :=
  match i with
  | .joins =>
    if v < 8 && joinsGood c.fittedMask v then { working := c.put v .joins, result := .ok }
    else { working := c, result := .badJoin }
  | .fitted => if joinsGood v c.joinMap then writeMask c .fitted v else { working := c, result := .badJoin }
  | .buckles => writeMask c .buckles v
  | .tags => writeMask c .tags v
  | i => writePair c i (clampNat i.range.1 i.range.2 v) (v < i.range.1 || i.range.2 < v)

/-- R207: the item byte of a CONFIG reply is the item with bit 7 set. -/
def configReplyItem (item : Nat) : Nat := item ||| 128

/-- R207: the answer to a write that was made or refused. -/
def State.answerWrite (s : State) (item : Nat) (i : Item) (w : Write) : State :=
  (s.setConfig { s.config with working := w.working }).reply (configReplyItem item) w.result
    (match w.result with
     | .ok | .clamped => twoBytes (w.working.value i)
     | .badItem | .notService | .moving | .busy | .badJoin => [])

/-- R207: a CONFIG frame, the first result that applies. -/
def State.configFrame (s : State) (item value : Nat) : State :=
  if s.modeCtl.mode ≠ .service then s.refuse (configReplyItem item) .notService
  else if s.diag.commit.isRunning then s.refuse (configReplyItem item) .busy
  else
    match Item.ofCode item with
    | none => s.refuse (configReplyItem item) .badItem
    | some i => s.answerWrite item i (writeItem s.config.working i value)

/-- CONFIG (R207). -/
def execConfigWrite (s : State) : Out :=
  s.handleFrame .config fun f s => s.restartService.configFrame (itemOf f.payload) (valueOf f.payload)

end Sys2Proof.Machine
end

