-- ==== Sys2Proof/Machine/Power.lean ====
section
/-! DEFINITION. The supply comes and goes (R196, R208). -/

namespace Sys2Proof.Machine

/-- POWER_ON (R196). A commit that runs was cut off by the loss of supply before (R208). -/
def execPowerOn (pins : BitVec 5) (s : State) : Out :=
  .next (powerOnState s.pending s.cutCommit.freeCount s.cutCommit.config.store pins)

/-- R208, log entry 26: without supply nothing is driven and nothing runs; the next power-on sets every block. -/
def State.unpowered (s : State) : State :=
  { s with
    powered := false
    lamps := Four.const .off
    duty := { s.duty with pattern := .off, ttOn := false, ttMs := 0, chime := false }
    link := { s.link with drive := .released }
    diag := { s.diag with commit := .stopped, haltWaiting := false } }

/-- LOSS_OF_SUPPLY (R208). -/
def execLossOfSupply (s : State) : Out := onlyIf s.powered s.cutCommit.unpowered s

end Sys2Proof.Machine
end

