-- ==== Sys2Proof/Machine/Dispatch.lean ====
section
/-! DEFINITION. One arm for each command, one direct call of its meaning. -/

namespace Sys2Proof.Machine

/-- The effect of a command on everything but the queue. -/
def exec (i : Instr) (s : State) : Host.Outcome State Fault Refusal :=
  match i with
  | .powerOn pins => Sys2Proof.Machine.execPowerOn pins s
  | .sweepStart => Sys2Proof.Machine.execSweepStart s
  | .sweepCompletion r => Sys2Proof.Machine.execSweepCompletion r s
  | .oneShotCompletion r => Sys2Proof.Machine.execOneShotCompletion r s
  | .graceTimerExpiry p => Sys2Proof.Machine.execGraceTimerExpiry p s
  | .escalationTimerExpiry p => Sys2Proof.Machine.execEscalationTimerExpiry p s
  | .chimeSecond p => Sys2Proof.Machine.execChimeSecond p s
  | .slowTimerExpiry p => Sys2Proof.Machine.execSlowTimerExpiry p s
  | .buckledRunExpiry p => Sys2Proof.Machine.execBuckledRunExpiry p s
  | .seatedTimeSecond p => Sys2Proof.Machine.execSeatedTimeSecond p s
  | .lampFlashToggle p => Sys2Proof.Machine.execLampFlashToggle p s
  | .tellTaleFlashToggle => Sys2Proof.Machine.execTellTaleFlashToggle s
  | .departureEntryExpiry tag => Sys2Proof.Machine.execDepartureEntryExpiry tag s
  | .rosterSilent n => Sys2Proof.Machine.execRosterSilent n s
  | .rosterLost n => Sys2Proof.Machine.execRosterLost n s
  | .vehicleDataLost => Sys2Proof.Machine.execVehicleDataLost s
  | .emissionTimerExpiry => Sys2Proof.Machine.execEmissionTimerExpiry s
  | .restartedHoldExpiry => Sys2Proof.Machine.execRestartedHoldExpiry s
  | .eventLossHoldExpiry => Sys2Proof.Machine.execEventLossHoldExpiry s
  | .fenceEnd => Sys2Proof.Machine.execFenceEnd s
  | .stuckHoldEnd => Sys2Proof.Machine.execStuckHoldEnd s
  | .lineStuck => Sys2Proof.Machine.execLineStuck s
  | .pulseEnd length pins => Sys2Proof.Machine.execPulseEnd length pins s
  | .frameTxStart => Sys2Proof.Machine.execFrameTxStart s
  | .arbitrationLost => Sys2Proof.Machine.execArbitrationLost s
  | .bitMismatch => Sys2Proof.Machine.execBitMismatch s
  | .frameSent echoed => Sys2Proof.Machine.execFrameSent echoed s
  | .wakePulseSendStart => Sys2Proof.Machine.execWakePulseSendStart s
  | .wakePulseRelease heard pins => Sys2Proof.Machine.execWakePulseRelease heard pins s
  | .frameReceptionEnd cells echoed => Sys2Proof.Machine.execFrameReceptionEnd cells echoed s
  | .sleepRefuseHandled => Sys2Proof.Machine.execSleepRefuseHandled s
  | .ownClaimHandled => Sys2Proof.Machine.execOwnClaimHandled s
  | .claimHandled => Sys2Proof.Machine.execClaimHandled s
  | .departHandled => Sys2Proof.Machine.execDepartHandled s
  | .rowReleaseHandled => Sys2Proof.Machine.execRowReleaseHandled s
  | .alertHandled => Sys2Proof.Machine.execAlertHandled s
  | .vehicleHandled => Sys2Proof.Machine.execVehicleHandled s
  | .stateHandled => Sys2Proof.Machine.execStateHandled s
  | .sleepProposeHandled => Sys2Proof.Machine.execSleepProposeHandled s
  | .readCapture => Sys2Proof.Machine.execReadCapture s
  | .clearCapture => Sys2Proof.Machine.execClearCapture s
  | .readCounters => Sys2Proof.Machine.execReadCounters s
  | .readPosition => Sys2Proof.Machine.execReadPosition s
  | .measure => Sys2Proof.Machine.execMeasure s
  | .readRoster => Sys2Proof.Machine.execReadRoster s
  | .readConfig => Sys2Proof.Machine.execReadConfig s
  | .enterService => Sys2Proof.Machine.execEnterService s
  | .leaveService => Sys2Proof.Machine.execLeaveService s
  | .storeConfig => Sys2Proof.Machine.execStoreConfig s
  | .configWrite => Sys2Proof.Machine.execConfigWrite s
  | .commitCompletion => Sys2Proof.Machine.execCommitCompletion s
  | .serviceTimerExpiry => Sys2Proof.Machine.execServiceTimerExpiry s
  | .idleTimerExpiry => Sys2Proof.Machine.execIdleTimerExpiry s
  | .windowEnd => Sys2Proof.Machine.execWindowEnd s
  | .aloneTimerExpiry => Sys2Proof.Machine.execAloneTimerExpiry s
  | .watchTimerExpiry => Sys2Proof.Machine.execWatchTimerExpiry s
  | .leftBehindExpiry => Sys2Proof.Machine.execLeftBehindExpiry s
  | .alertPeriodExpiry p => Sys2Proof.Machine.execAlertPeriodExpiry p s
  | .standbyWatchSample ratios latchOpen pins => Sys2Proof.Machine.execStandbyWatchSample ratios latchOpen pins s
  | .lossOfSupply => Sys2Proof.Machine.execLossOfSupply s
  | .diagQueryItemNotDefined => Sys2Proof.Machine.execDiagQueryItemNotDefined s

end Sys2Proof.Machine
end

