-- ==== Sys2Proof/Safety.lean ====
section
/-! DEFINITION. What holds in every state of a run: the capacities, the ladder, the outputs and the quiet of
STANDBY, each as a property of one state, in the terms of the spec's rules. And the words in which statements say
that the handler takes a frame. -/

namespace Sys2Proof.Machine

/-! ### Classifier -/

/-- R43, R45, R48, R56: at every number the filtered load lies in 0 to 8000, the mat baseline within the zero ± 300
counts, and the presence baseline within the presence zero ± 400 counts and within 0 to 4095 counts, all in their units;
and the presence zeros that run, or would at a service exit, lie within 0 to 4095. -/
def State.ClassifierIn (s : State) : Prop :=
  ∀ p : Pos,
    s.config.running.pzero.get p ≤ 4095 ∧ s.config.working.pzero.get p ≤ 4095
      ∧ (s.classes.get p).lf ≤ 8000
      ∧ ((s.config.running.zero.get p : Int) - 300) * 16 ≤ (s.classes.get p).b16
      ∧ (s.classes.get p).b16 ≤ ((s.config.running.zero.get p : Int) + 300) * 16
      ∧ ((s.config.running.pzero.get p : Int) - 400) * 16 ≤ (s.classes.get p).pb16
      ∧ (s.classes.get p).pb16 ≤ ((s.config.running.pzero.get p : Int) + 400) * 16
      ∧ 0 ≤ (s.classes.get p).pb16 ∧ (s.classes.get p).pb16 ≤ 65520

/-! ### Queues, list, counters -/

/-- R164: at most 6 frames, of which at most one is a STATE. -/
def Link.TxBounded (l : Link) : Prop :=
  l.txq.length ≤ 6 ∧ (l.txq.filter fun e => e.kind == .state).length ≤ 1

/-- R161: at most 4 shared places in use, at most 6 frames of a class, each frame of a class, at most 11 frames
with the self slot. -/
def Link.RxBounded (l : Link) : Prop :=
  l.sharedInUse ≤ 4 ∧ (∀ c, l.classCount c ≤ 6) ∧ (∀ f ∈ l.rxq, f.kind.frameClass.isSome) ∧ l.held ≤ 11

/-- R107, R111: at most 8 entries, no two with the same tag. -/
def ListBounded (list : List DepEntry) : Prop := list.length ≤ 8 ∧ (list.map DepEntry.tag).Nodup

/-- The departure tag that is a record's origin, pending or settled (R109). -/
def Record.heldTag (r : Record) : Option DepTag :=
  match r.origin with
  | .claiming e => some e.tag
  | .moved tag => some tag
  | .boarded | .restored | .untraced => none

/-- The held tags of a station's records, in position order. -/
def State.heldTags (s : State) : List DepTag :=
  positionsInOrder.filterMap fun p => (s.recordAt p).bind Record.heldTag

/-- R109: every tag is listed once, or held by one record, and never both. -/
def State.TagsOnce (s : State) : Prop := (s.departures.map DepEntry.tag ++ s.heldTags).Nodup

/-- R203: every counter lies within 0 to 65535. -/
def Counters.Bounded (k : Counters) : Prop :=
  k.framesSent ≤ 65535 ∧ k.arbLoss ≤ 65535 ∧ k.rxEvent ≤ 65535 ∧ k.rxStatus ≤ 65535 ∧ k.rxService ≤ 65535
    ∧ k.rxDropEvent ≤ 65535 ∧ k.rxDropStatus ≤ 65535 ∧ k.rxDropService ≤ 65535 ∧ k.echoMissing ≤ 65535
    ∧ k.checkFail ≤ 65535 ∧ k.txOverflow ≤ 65535 ∧ k.listEvict ≤ 65535 ∧ k.claimsWon ≤ 65535
    ∧ k.claimsYielded ≤ 65535 ∧ k.claimUnmatched ≤ 65535 ∧ k.refusalsSent ≤ 65535 ∧ k.softFaults ≤ 65535
    ∧ k.foreignVehicle ≤ 65535

/-- R28: the test-sweep counter equals the sweep count modulo 64. -/
def SweepCtl.InStep (k : SweepCtl) : Prop := k.testCounter.toNat = k.count.toNat % 64

/-! ### Records and ladders -/

/-- R64: a position holds a record exactly when its class is an occupant class, and the record has that class. -/
def State.RecordsFit (s : State) : Prop :=
  ∀ p, (s.recordAt p).isSome = (s.table.seats.get p).cls.isOccupant
    ∧ ∀ r, s.recordAt p = some r → r.cls = (s.table.seats.get p).cls

/-- R94: chime time used never exceeds the chime limit. -/
def State.ChimeWithin (s : State) : Prop :=
  ∀ p r, s.recordAt p = some r → r.chimeUsed ≤ s.config.running.chimeLimit

/-- Section 5.3: each ladder timer runs at its own level only. -/
def Record.TimersFit (r : Record) : Prop :=
  (r.graceTimer ≠ .stopped → r.level = .grace) ∧ (r.escalation ≠ .stopped → r.level = .level1)
    ∧ (r.chimeTimer ≠ .stopped → r.level = .level2) ∧ (r.slowTimer ≠ .stopped → r.level = .level2)

/-- R87: a level other than QUIET stands only while the reminder is due, and each timer runs at its level. -/
def State.LaddersDue (s : State) : Prop :=
  ∀ p,
    (∀ r, s.recordAt p = some r →
      r.TimersFit
        ∧ (r.level ≠ .quiet →
            r.kind ≠ .none ∧ ((s.sfe.positions.get p).belt = .unbuckled ∨ (s.sfe.positions.get p).belt = .fault)
              ∧ s.vehicle.ignition = .on))
    ∧ ∀ l, (s.table.seats.get p).securing = some l → l ≠ .quiet →
        ((s.sfe.positions.get p).belt = .unbuckled ∨ (s.sfe.positions.get p).belt = .fault)
          ∧ s.vehicle.ignition = .on

/-! ### Outputs -/

/-- R102: the lamp of a level. -/
def Lamp.Shows (lamp : Lamp) (level : Level) : Prop :=
  match level, lamp with
  | .quiet, .off => True
  | .grace, .steady => True
  | .level1, .steady => True
  | .spent, .steady => True
  | .level2, .flashing _ _ => True
  | _, _ => False

/-- R102: in ACTIVE each lamp shows its level; in the other modes every lamp is off. -/
def State.LampsShow (s : State) : Prop :=
  s.powered = true → ∀ p,
    if s.modeCtl.mode = .active then (s.lamps.get p).Shows (s.table.seats.get p).level else s.lamps.get p = .off

/-- R140: the chime output is active only under these conditions. -/
def State.ChimeJustified (s : State) : Prop :=
  s.duty.chime = true →
    s.holdsDuty = true ∧ s.modeCtl.mode = .active ∧ s.vehicle.ignition = .on ∧ s.duty.anyLevel2 = true

/-- R127: a station that does not hold duty keeps no Reminder View. -/
def State.ViewKept (s : State) : Prop := s.holdsDuty = false → ∀ row ∈ s.duty.view, row = .empty

/-! ### Modes -/

/-- R182, R187: the idle and alone timers run exactly in ACTIVE with the ignition not ON. -/
def State.IdleRuns (s : State) : Prop :=
  (s.modeCtl.idle.isRunning = true ↔ s.modeCtl.mode = .active ∧ s.vehicle.ignition ≠ .on)
    ∧ (s.modeCtl.alone.isRunning = true ↔ s.modeCtl.mode = .active ∧ s.vehicle.ignition ≠ .on)

/-- R194: in STANDBY no sweep is in flight or due, the fence is off, and the timers of the mode controller and of
the STATE emission stand. -/
def State.StandbyQuiet (s : State) : Prop :=
  s.modeCtl.mode = .standby →
    s.sweep.flight = none ∧ s.sweep.period = .stopped ∧ s.link.fence = .stopped ∧ s.link.eventLoss = .stopped
      ∧ s.modeCtl.window = none ∧ s.modeCtl.idle = .stopped ∧ s.modeCtl.alone = .stopped
      ∧ s.modeCtl.watch = .stopped ∧ s.emission.timer = .stopped ∧ s.emission.restarted = .stopped

/-! ### What statements say of time -/

/-- Log entry 7: a time one millisecond later, not beyond its limit. -/
def LaterMs (limit before after : Nat) : Prop :=
  (before < limit → after = before + 1) ∧ (limit ≤ before → after = before)

/-- Log entry 7: a timer one millisecond later: a stopped one stays stopped. -/
def Timer.Later (limit : Nat) (before after : Timer) : Prop :=
  (before = .stopped → after = .stopped) ∧ ∀ ms, before = .running ms → ∃ ms', after = .running ms' ∧ LaterMs limit ms ms'

/-- Log entry 7: a record one millisecond later: its timers have moved, and nothing else. -/
def Record.Later (c : Conf) (r r' : Record) : Prop :=
  r' = { r with
      graceTimer := r'.graceTimer, escalation := r'.escalation, chimeTimer := r'.chimeTimer, slowTimer := r'.slowTimer
      buckledRun := r'.buckledRun, seatedMs := r'.seatedMs, alert := r'.alert }
    ∧ r.graceTimer.Later (1000 * c.tGrace) r'.graceTimer ∧ r.escalation.Later (1000 * c.tL1) r'.escalation
    ∧ r.chimeTimer.Later 1000 r'.chimeTimer ∧ r.slowTimer.Later 5000 r'.slowTimer
    ∧ r.buckledRun.Later 10000 r'.buckledRun ∧ LaterMs 1000 r.seatedMs r'.seatedMs
    ∧ (∀ n timer, r.alert = .active n timer → ∃ timer', r'.alert = .active n timer' ∧ timer.Later 2000 timer')
    ∧ ((∀ n timer, r.alert ≠ .active n timer) → r'.alert = r.alert)

/-- Log entry 2: a timer runs and stands at its limit; where an event that restarts it is taken first, it does not. -/
def Timer.Reached (limit : Nat) (timer : Timer) : Prop := ∃ ms, timer = .running ms ∧ limit ≤ ms

/-! ### What statements say of a command -/

/-- R31, R163: the handler takes this frame next. -/
def State.Handles (s : State) (f : RxFrame) : Prop :=
  s.powered = true ∧ s.sweep.flight = none ∧ s.modeCtl.mode ≠ .standby ∧ s.link.nextHandled = some (.frame f)

/-- R204: the handler takes this DIAG_QUERY next, with this item and argument. -/
def State.Asked (s : State) (f : RxFrame) (item arg : Nat) : Prop :=
  s.Handles f ∧ f.kind = .diagQuery ∧ itemOf f.payload = item ∧ argumentOf f.payload = arg

/-- The state once the handler has taken a service frame: its place is free, and the service timer restarts where
it runs (R161, R204). -/
def State.took (s : State) (f : RxFrame) : State := (s.takeFrame f).restartService

/-- The state with this record at a position, all else as it stands. -/
def State.putRecord (s : State) (p : Pos) (r : Record) : State :=
  { s with table := { s.table with seats := s.table.seats.set p { s.table.seats.get p with record := some r } } }

/-- R121: this CLAIM is the one this record is waiting for. -/
def Record.owns (r : Record) (c : ClaimRef) : Bool :=
  match r.origin with
  | .claiming e => c.id == r.id && c.tag == e.tag
  | .boarded | .restored | .untraced | .moved _ => false

/-- R193: this is an ALERT of this position. -/
def TxEntry.alertsFor (x : TxEntry) (p : Pos) : Bool := x.kind == .alert && alertPos x.payload == p

/-- R121: the link once every CLAIM that c names is withdrawn where it waits, and voided elsewhere. -/
def Link.claimsEnded (l : Link) (c : ClaimRef → Bool) : Link :=
  { l with
    txq := (l.txq.filter fun x => x.sending || !x.claim.any c).map fun x =>
      { x with claim := x.claim.map fun k => if c k then { k with voided := true } else k }
    selfSlot := l.selfSlot.map fun x => if c x.claim then { x with claim := { x.claim with voided := true } } else x }

/-- R164: the link once every waiting entry that c names has left the transmit queue. -/
def Link.without (l : Link) (c : TxEntry → Bool) : Link :=
  { l with txq := l.txq.filter fun x => x.sending || !c x }

/-- R74, R193: the link once the claim and an ACTIVE alert of the record at p have ended with it. -/
def Link.recordEnded (l : Link) (p : Pos) (r : Record) : Link :=
  (l.claimsEnded r.owns).without fun x => r.alert.isActive && x.alertsFor p

/-- R115: the classes that match one another without a serial. -/
def Cls.FreelyMatches (cls : Cls) : Prop := cls = .small ∨ cls = .adult ∨ cls = .unsized ∨ cls = .unknown

/-- R115: the entry matches an arriving class, with the serial of its tag part, in this kind. -/
def DepEntry.Matches (e : DepEntry) (cls : Cls) (serial : Option Word16) (kind : MatchKind) : Prop :=
  (∃ n type, serial = some n ∧ e.child = some { serial := n, type } ∧ kind = .serial)
    ∨ (serial = none ∧ e.child = none ∧ cls.FreelyMatches ∧ e.cls.FreelyMatches ∧ kind = .cls)

/-- R69, R114: the conditions of a search. -/
def State.MaySearch (s : State) : Prop :=
  s.vehicle.ignition = .on ∧ s.modeCtl.mode = .active ∧ s.validStraps = true
    ∧ (s.link.txq.length < 6
      ∨ ∃ x ∈ s.link.txq, x.sending = false ∧ (x.kind = .state ∨ x.kind = .diagReply))

/-- R116: the CLAIM of a match, as its entry in the transmit queue. -/
def claimEntry (e : DepEntry) (p : Pos) (id : OccupantId) (kind : MatchKind) : TxEntry where
  kind := .claim
  payload := tagBytes e.tag ++ [toByte (p.val * 64 + (if kind = .cls then 32 else 0))]
  sending := false
  newer := none
  claim := some { tag := e.tag, id, voided := false }

/-- R68, R114 to R116, R119: what comes of a search from s for this record at p. The oldest entry that matches leaves
the list, a copy of it is the record's pending claim, and its CLAIM is offered to the transmit queue; with none, or with
no search, the origin goes by the speed and nothing else moves. -/
def State.Searched (s t : State) (p : Pos) (r : Record) : Prop :=
  (∀ before e after kind, s.MaySearch → s.departures = before ++ e :: after →
      (∀ d ∈ before, ∀ k, ¬ d.Matches r.cls (r.tag.map TagPart.serial) k) →
      e.Matches r.cls (r.tag.map TagPart.serial) kind →
      t = ({ s with departures := s.departures.filter fun d => decide (d.tag ≠ e.tag) }.putRecord p
        { r with origin := .claiming e }).offerTx (claimEntry e p r.id kind))
    ∧ ((¬ s.MaySearch ∨ ∀ d ∈ s.departures, ∀ k, ¬ d.Matches r.cls (r.tag.map TagPart.serial) k) →
      t = s.putRecord p { r with origin := if s.atSpeed then .untraced else .boarded })

/-- R65, R67: the first values of a record that an arrival creates at p. -/
def State.FirstRecord (s : State) (p : Pos) (r : Record) : Prop :=
  r.id = { station := s.station, pos := p, seq := s.table.departureSeq } ∧ r.cls = (s.table.seats.get p).cls
    ∧ (r.everBuckled = true ↔ (s.sfe.positions.get p).belt = .buckled) ∧ r.chimeUsed = 0 ∧ r.graceUsed = false
    ∧ r.buckledRun = (if (s.sfe.positions.get p).belt = .buckled then .running 0 else .stopped) ∧ r.level = .quiet
    ∧ r.graceTimer = .stopped ∧ r.escalation = .stopped ∧ r.chimeTimer = .stopped ∧ r.slowTimer = .stopped
    ∧ r.seated = 0 ∧ r.seatedMs = 0 ∧ r.alert = .none
    ∧ (∀ g, (s.table.seats.get p).cls = .csOccupied → (s.sfe.positions.get p).tagView = .present g →
        r.tag = some { serial := g.serial, type := g.type, anchor := g.anchor })
    ∧ ((s.table.seats.get p).cls ≠ .csOccupied → r.tag = none)

/-- R184: what a proposal that ends on the line leaves, at a station whose transmit queue and mode controller would else
stand as q and m. In ACTIVE and SERVICE the window opens or restarts; where a reason holds, its SLEEP_REFUSE is offered,
the mark is set and the idle timer restarts, also where the queue or invalid straps refuse it (log entry 16). -/
def State.ProposalHeard (s t : State) (q : List TxEntry) (m : ModeCtl) : Prop :=
  (s.modeCtl.mode = .watch ∨ s.modeCtl.mode = .standby → t.link.txq = q ∧ t.modeCtl = m)
    ∧ (s.modeCtl.mode = .active ∨ s.modeCtl.mode = .service →
      (s.refusalReason = none → t.link.txq = q ∧ t.modeCtl = { m with window := some { ms := 0, refusedHere := false } })
      ∧ ∀ reason, s.refusalReason = some reason →
        t.modeCtl = { m with window := some { ms := 0, refusedHere := true }, idle := m.idle.restart }
        ∧ (s.validStraps = false → t.link.txq = q)
        ∧ (s.validStraps = true → t.link.txq = (offerEntry q (newEntry .sleepRefuse [toByte reason.code] none)).txq)
        ∧ (s.validStraps = true → q.length < 6 →
          t.link.txq = q ++ [newEntry .sleepRefuse [toByte reason.code] none]
            ∧ t.diag.counters.refusalsSent
              = if s.diag.counters.refusalsSent < 65535 then s.diag.counters.refusalsSent + 1 else 65535))

/-- R133: some contributing slot of the Reminder View is at this level. -/
def Duty.Holds (d : Duty) (level : Level) : Prop :=
  ∃ row ∈ d.view, ∃ unlatched slots p, row = .filled unlatched slots
    ∧ (slots.get p).cls ≠ .absent ∧ (slots.get p).cls ≠ .unscanned ∧ (slots.get p).level = level

/-- R148: what every frame needs before it may start, spelled out. -/
def State.MaySend (s : State) : Prop :=
  s.powered = true ∧ s.validStraps = true ∧ s.link.fence = .stopped ∧ s.link.stuck = .stopped
    ∧ s.link.wakePending = false ∧ (s.modeCtl.mode = .active ∨ s.modeCtl.mode = .service)
    ∧ (s.link.drive = .released ∨ s.link.drive = .echo) ∧ ∀ e ∈ s.link.txq, e.sending = false

/-- R148: a CLAIM is not eligible while the self slot is occupied. -/
def Link.Eligible (l : Link) (e : TxEntry) : Prop := e.kind ≠ .claim ∨ l.selfSlot = none

/-- R164: this entry is being sent, and it alone; before and after stand around it in the transmit queue. -/
def State.Sends (s : State) (before : List TxEntry) (e : TxEntry) (after : List TxEntry) : Prop :=
  s.powered = true ∧ s.modeCtl.mode ≠ .standby ∧ s.link.txq = before ++ e :: after ∧ e.sending = true
    ∧ ∀ x ∈ before ++ after, x.sending = false

/-- R188: what an entry into WATCH leaves. -/
def State.EntersWatch (s t : State) : Prop :=
  t.modeCtl = { s.modeCtl with
      mode := .watch, idle := .stopped, window := none, alone := .stopped, watch := .running 0, vacantRun := 0 }
    ∧ t = { s with
        modeCtl := t.modeCtl, sweep := { s.sweep with period := .running 0 }, emission := t.emission
        link := t.link, lamps := t.lamps, duty := t.duty }
    ∧ t.emission.timer = .stopped ∧ t.lamps = Four.const .off ∧ t.duty.chime = false ∧ t.duty.pattern = .off
    ∧ t.link = { s.link with txq := s.link.txq.filter fun e => e.sending || e.kind != .sleepPropose }

/-- R22: the references of the standby watch, spelled out: every read buckle input against its belt state, and the
latch state. -/
def Sfe.standbyReferences (sfe : Sfe) (c : Conf) : StandbyWatch where
  buckles := Four.ofFn fun p =>
    if buckleRead c p then some { reference := decide ((sfe.positions.get p).belt = .buckled), differed := false }
    else none
  latch := sfe.latch
  latchDiffered := false
  ms := 0

/-- R194, R22, R32, R105, R166: what every entry into STANDBY leaves. -/
def State.EntersStandby (s t : State) : Prop :=
  t.modeCtl = { s.modeCtl with
      mode := .standby, idle := .stopped, window := none, alone := .stopped, watch := .stopped, vacantRun := 0
      wakeCause := false }
    ∧ t.sweep = { s.sweep with flight := none, period := .stopped }
    ∧ t.sfe = { s.sfe with watch := some (s.sfe.standbyReferences s.config.running) }
    ∧ t.link.fence = .stopped ∧ t.link.mismatchRun = 0 ∧ t.link.wakePending = false ∧ t.link.eventLoss = .stopped
    ∧ t.link.stuck = s.link.stuck ∧ t.lamps = Four.const .off ∧ t.duty.chime = false ∧ t.duty.pattern = .off
    ∧ t.table = { s.table with
        seats := s.table.seats.map fun seat => { seat with record := seat.record.map Record.stopTimers } }
    ∧ t = { s with
        modeCtl := t.modeCtl, sweep := t.sweep, sfe := t.sfe, table := t.table, emission := t.emission
        link := t.link, lamps := t.lamps, duty := t.duty }

/-- R194: what the loss of a pending wake cause to a HALT leaves of the standby watch: its references stand, and no input
counts as having differed, so that a new cause takes two further samples. -/
def MarksCleared (before after : Option StandbyWatch) : Prop :=
  (before = none → after = none)
    ∧ ∀ b, before = some b → ∃ a, after = some a ∧ a.latch = b.latch ∧ a.latchDiffered = false ∧ a.ms = b.ms
      ∧ ∀ p, (b.buckles.get p = none → a.buckles.get p = none)
        ∧ ∀ w, b.buckles.get p = some w → a.buckles.get p = some { reference := w.reference, differed := false }

/-- R209: t is the state after a service exit from s. The working copy of s becomes the running configuration, and by it,
not by the configuration that ran before, go the position numbers (R62, R82), the baselines (R61) and the sensing state
(R24). The queues are emptied (R168), the duty unit keeps its yield alone (R126), the vehicle data record is initialised
(R180), the station is ACTIVE (R199) with its first sweep at once (R37); straps, store, captures and counters stay. -/
def State.LeftService (t s : State) : Prop :=
  ∃ new : Conf, new = s.config.working
    ∧ t = { s with
        config := { s.config with running := new }
        modeCtl := t.modeCtl, sweep := t.sweep, sfe := t.sfe, classes := t.classes, table := t.table, lamps := t.lamps
        departures := [], duty := t.duty, link := t.link, emission := t.emission, vehicle := t.vehicle, diag := t.diag }
    ∧ (∀ p, isPosition new p = true → t.table.seats.get p = ⟨.unscanned, none, none⟩)
    ∧ (∀ p, isPosition new p = false → t.table.seats.get p = ⟨.absent, none, none⟩)
    ∧ t.table = { s.table with seats := t.table.seats, unlatched := false, releasePending := false }
    ∧ (∀ p, (t.classes.get p).b16 = (new.zero.get p : Int) * 16 ∧ (t.classes.get p).pb16 = (new.pzero.get p : Int) * 16
        ∧ (t.classes.get p).lf = 0)
    ∧ (∀ p, (t.sfe.positions.get p).belt = if buckleRead new p then .unbuckled else .notFitted)
    ∧ t.sfe.latch = none ∧ t.sfe.watch = none
    ∧ t.modeCtl.mode = .active ∧ t.modeCtl.idle = .running 0 ∧ t.modeCtl.alone = .running 0
    ∧ t.modeCtl.window = none ∧ t.modeCtl.leftBehindMs = 0
    ∧ t.sweep = { s.sweep with pointer := 0, flight := none, period := t.sweep.period } ∧ t.canStartSweep = s.powered
    ∧ t.lamps = Four.const .off
    ∧ t.duty.yielded = s.duty.yielded ∧ t.duty.chime = false ∧ t.duty.pattern = .off
    ∧ t.link.rxq = [] ∧ t.link.txq = [] ∧ t.link.selfSlot = none ∧ t.link.lineSeq = 0
    ∧ t.link.stationClash = s.link.stationClash ∧ t.link.highWater = s.link.highWater
    ∧ t.vehicle = { ignition := .off, speed := 0, fresh := false, ageMs := 2000, trip := false }
    ∧ t.diag.meas = s.diag.meas ∧ t.diag.link = s.diag.link ∧ t.diag.counters = s.diag.counters
    ∧ t.diag.service = .stopped

end Sys2Proof.Machine
end

