-- ==== Sys2Proof/Certificates/Slice0/Obligations.lean ====
section
/-! DEFINITION. The statements for the provers, in the order of the chapters: steps and power-on, sensing and
sweeps, classification, positions, ladders, matching, duty, row link, messages, modes, diagnosis, and last the
invariants that every step keeps. -/

section

open Sys2Proof Sys2Proof.Machine

/-! ### Steps, power-on, supply -/

/-- A step takes the command at the front of the queue and runs it on the state with the queue's rest. -/
def Obligations.StepRunsFrontCommand : Prop :=
  ∀ (c : Instr) (rest : List Instr) (s : State), s.pending = c :: rest → step s = exec c { s with pending := rest }

/-- The model's choice (log entry 7): on an empty queue a millisecond passes, where the supply is there: every timer that
runs, every departure age, roster time and phase, and the vehicle data's age, reads 1 ms more, up to its limit, and an
echo cell is over. No command's work is done, and everything else stands. -/
def Obligations.IdleStepOnlyLetsTimePass : Prop :=
  ∀ s : State, s.pending = [] →
    (s.powered = false → step s = .next s)
    ∧ (s.powered = true →
      ∃ t, step s = .next t
        ∧ t = { s with
            sfe := t.sfe, sweep := t.sweep, table := t.table, lamps := t.lamps, departures := t.departures
            duty := t.duty, link := t.link, emission := t.emission, vehicle := t.vehicle, modeCtl := t.modeCtl
            diag := t.diag }
        ∧ (s.sfe.watch = none → t.sfe = s.sfe)
        ∧ (∀ w, s.sfe.watch = some w →
            ∃ ms, t.sfe = { s.sfe with watch := some { w with ms } } ∧ LaterMs 250 w.ms ms)
        ∧ t.sweep = { s.sweep with flight := t.sweep.flight, period := t.sweep.period }
        ∧ s.sweep.period.Later (if s.modeCtl.mode = .watch then 1000 else 50) t.sweep.period
        ∧ (s.sweep.flight = none → t.sweep.flight = none)
        ∧ (∀ number test tagAt ms, s.sweep.flight = some (.periodic number test tagAt ms) →
            ∃ ms', t.sweep.flight = some (.periodic number test tagAt ms')
              ∧ LaterMs (if tagAt = none then 10 else 14) ms ms')
        ∧ (∀ p part ms, s.sweep.flight = some (.oneShot p part ms) →
            ∃ ms', t.sweep.flight = some (.oneShot p part ms')
              ∧ LaterMs (if tagFitted s.config.running p = true then 14 else 10) ms ms')
        ∧ t.table = { s.table with seats := t.table.seats }
        ∧ (s.modeCtl.mode = .standby ∨ s.modeCtl.mode = .service →
            t.table = s.table ∧ t.departures = s.departures)
        ∧ (s.modeCtl.mode = .active ∨ s.modeCtl.mode = .watch →
            (∀ p, ∃ record, t.table.seats.get p = { s.table.seats.get p with record := record }
              ∧ (s.recordAt p = none → record = none)
              ∧ ∀ r, s.recordAt p = some r → ∃ r', record = some r' ∧ r.Later s.config.running r')
            ∧ t.departures.length = s.departures.length
            ∧ ∀ (k : Nat) (d : DepEntry), s.departures[k]? = some d →
                ∃ age, t.departures[k]? = some { d with ageMs := age } ∧ LaterMs (1000 * s.config.running.tMove) d.ageMs age)
        ∧ (∀ p,
            (∀ on ms, s.lamps.get p = .flashing on ms →
              ∃ ms', t.lamps.get p = .flashing on ms' ∧ LaterMs 250 ms ms')
            ∧ ((∀ on ms, s.lamps.get p ≠ .flashing on ms) → t.lamps.get p = s.lamps.get p))
        ∧ t.duty = { s.duty with roster := t.duty.roster, ttMs := t.duty.ttMs }
        ∧ LaterMs (match s.duty.pattern with
            | .flash => 500
            | .degraded => 125
            | .steady => 0
            | .off => 0) s.duty.ttMs t.duty.ttMs
        ∧ t.duty.roster.length = s.duty.roster.length
        ∧ (s.modeCtl.mode = .standby → t.duty.roster = s.duty.roster)
        ∧ (s.modeCtl.mode ≠ .standby → ∀ (k : Nat) (slot : RosterSlot), s.duty.roster[k]? = some slot →
            (slot.state = .absent → t.duty.roster[k]? = some slot)
            ∧ (slot.state ≠ .absent →
              ∃ ms, t.duty.roster[k]? = some { slot with ms } ∧ LaterMs 65535 slot.ms ms))
        ∧ t.link = { s.link with
            fence := t.link.fence, stuck := t.link.stuck, eventLoss := t.link.eventLoss, drive := t.link.drive }
        ∧ s.link.fence.Later 1000 t.link.fence ∧ s.link.eventLoss.Later 10000 t.link.eventLoss
        ∧ (s.link.lineHeld = false → s.link.stuck.Later 50 t.link.stuck)
        ∧ (s.link.lineHeld = true → t.link.stuck = s.link.stuck)
        ∧ t.link.drive = (if s.link.drive = .echo then .released else s.link.drive)
        ∧ t.emission = { s.emission with timer := t.emission.timer, restarted := t.emission.restarted }
        ∧ s.emission.timer.Later 200 t.emission.timer ∧ s.emission.restarted.Later 2000 t.emission.restarted
        ∧ t.vehicle = { s.vehicle with ageMs := t.vehicle.ageMs }
        ∧ (s.modeCtl.mode = .standby → t.vehicle.ageMs = s.vehicle.ageMs)
        ∧ (s.modeCtl.mode ≠ .standby → LaterMs 2000 s.vehicle.ageMs t.vehicle.ageMs)
        ∧ t.modeCtl = { s.modeCtl with
            idle := t.modeCtl.idle, window := t.modeCtl.window, alone := t.modeCtl.alone, watch := t.modeCtl.watch
            leftBehindMs := t.modeCtl.leftBehindMs }
        ∧ s.modeCtl.idle.Later (1000 * s.config.running.tIdle) t.modeCtl.idle
        ∧ s.modeCtl.alone.Later 10000 t.modeCtl.alone ∧ s.modeCtl.watch.Later 3600000 t.modeCtl.watch
        ∧ (s.modeCtl.window = none → t.modeCtl.window = none)
        ∧ (∀ w, s.modeCtl.window = some w → ∃ ms, t.modeCtl.window = some { w with ms } ∧ LaterMs 200 w.ms ms)
        ∧ ((s.modeCtl.mode = .watch ∧ ∃ p r, s.recordAt p = some r ∧ r.qualifies = true) →
            LaterMs (1000 * s.config.running.tLeft) s.modeCtl.leftBehindMs t.modeCtl.leftBehindMs)
        ∧ (¬ (s.modeCtl.mode = .watch ∧ ∃ p r, s.recordAt p = some r ∧ r.qualifies = true) →
            t.modeCtl.leftBehindMs = s.modeCtl.leftBehindMs)
        ∧ t.diag = { s.diag with commit := t.diag.commit, service := t.diag.service }
        ∧ s.diag.commit.Later 20 t.diag.commit ∧ s.diag.service.Later 300000 t.diag.service)

/-- R196: POWER_ON starts every block from its initial value, whatever went before: sensing, sweeps, classifier, table,
lamps, list, duty, link, STATE emission (its report apart, log entry 8), vehicle data, modes, diagnosis. R201: a good
store becomes the running configuration and the working copy; any other store gives the defaults and sets
CONFIG_DEFAULTED. Good is spelled out: sum, ranges, joins. -/
def Obligations.PowerOnStartsEveryBlock : Prop :=
  (∀ (pins : BitVec 5) (s : State),
    ∃ t, exec (.powerOn pins) s = .next t ∧ t.pending = s.pending ∧ t.powered = true ∧ t.straps = pins
      ∧ t.config.running = (if t.config.store.good then t.config.store.contents else Conf.default)
      ∧ t.diag.meas = .empty ∧ t.diag.link = .empty ∧ t.diag.counters = State.reset.diag.counters
      ∧ t.diag.service = .stopped ∧ t.diag.commit = .stopped ∧ t.diag.haltWaiting = false
      ∧ (∀ p, t.classes.get p = { b16 := (t.config.running.zero.get p : Int) * 16
                                  pb16 := (t.config.running.pzero.get p : Int) * 16, lf := 0, shift := 0
                                  presence := false, candidate := none, dwell := 0 })
      ∧ (∀ p, t.sfe.channels.get p = { held := none, reference := none })
      ∧ (∀ p, t.sfe.positions.get p
          = { matRange := ⟨false, 0⟩, matDisagree := ⟨false, 0⟩, matOpen := ⟨false, 0⟩, presenceRange := ⟨false, 0⟩
              belt := if buckleRead t.config.running p then .unbuckled else .notFitted
              beltRun := none, tagView := .none, tagRun := none })
      ∧ t.sfe.latch = none ∧ t.sfe.latchRun = 0 ∧ t.sfe.watch = none
      ∧ t.sweep.count = 0 ∧ t.sweep.testCounter = 0 ∧ t.sweep.pointer = 0 ∧ t.sweep.flight = none
      ∧ t.canStartSweep = true
      ∧ (∀ p, isPosition t.config.running p = true → t.table.seats.get p = ⟨.unscanned, none, none⟩)
      ∧ (∀ p, isPosition t.config.running p = false → t.table.seats.get p = ⟨.absent, none, none⟩)
      ∧ t.table.departureSeq = 0 ∧ t.table.unlatched = false ∧ t.table.releasePending = false
      ∧ t.lamps = Four.const .off
      ∧ t.duty = { yielded := false, roster := List.replicate 13 { state := .absent, ms := 0 }
                   view := List.replicate 12 .empty, pattern := .off, ttOn := false, ttMs := 0, chime := false }
      ∧ t.emission = { t.emission with
          lastPlaced := none, timer := .stopped, placedMark := false, restarted := .running 0 }
      ∧ t.modeCtl.mode = .active ∧ t.modeCtl.idle = .running 0 ∧ t.modeCtl.alone = .running 0
      ∧ t.modeCtl.window = none ∧ t.modeCtl.leftBehindMs = 0 ∧ t.modeCtl.watch = .stopped
      ∧ t.modeCtl.vacantRun = 0 ∧ t.modeCtl.wakeCause = false
      ∧ t.link = { rxq := [], selfSlot := none, txq := [], lineSeq := 0, mismatchRun := 0, fence := .stopped
                   stuck := .stopped, lineHeld := false, eventLoss := .stopped, stationClash := false, highWater := 0
                   wakePending := false, drive := .released }
      ∧ t.departures = []
      ∧ t.vehicle = { ignition := .off, speed := 0, fresh := false, ageMs := 2000, trip := false })
  ∧ (∀ (pins : BitVec 5) (s : State), s.diag.commit = .stopped →
    ∃ t, exec (.powerOn pins) s = .next t ∧ t.config.store = s.config.store
      ∧ ((s.config.store.sum = s.config.store.contents.sum
            ∧ (∀ i ∈ Item.all, i.range.1 ≤ s.config.store.contents.value i ∧ s.config.store.contents.value i ≤ i.range.2)
            ∧ joinsGood s.config.store.contents.fittedMask s.config.store.contents.joinMap = true) →
          t.config.running = s.config.store.contents ∧ t.config.working = s.config.store.contents
            ∧ t.config.defaulted = false)
      ∧ (¬ (s.config.store.sum = s.config.store.contents.sum
            ∧ (∀ i ∈ Item.all, i.range.1 ≤ s.config.store.contents.value i ∧ s.config.store.contents.value i ≤ i.range.2)
            ∧ joinsGood s.config.store.contents.fittedMask s.config.store.contents.joinMap = true) →
          t.config.running = Conf.default ∧ t.config.working = Conf.default ∧ t.config.defaulted = true))

/-- R208: a loss of supply during a commit leaves a store whose sum does not match; otherwise the store stands. The
outputs go off (the model's reading, log entry 26). -/
def Obligations.LossOfSupplyCutsCommit : Prop :=
  ∀ s : State, s.powered = true →
    ∃ t, exec .lossOfSupply s = .next t ∧ t.powered = false
      ∧ (s.diag.commit ≠ .stopped → t.config.store.sum ≠ t.config.store.contents.sum)
      ∧ (s.diag.commit = .stopped → t.config = s.config)
      ∧ t.lamps = Four.const .off ∧ t.duty.ttOn = false ∧ t.duty.chime = false ∧ t.link.drive = .released

/-! ### Sensing and sweeps -/

/-- R5: the table of a fault kind's flag and count, and what each judgement reports. R202: the table of a capture for
soft and hard reports; every soft report, of either capture, counts in SOFT_FAULTS. -/
def Obligations.FaultTables : Prop :=
  (∀ (count hardAfter clearsAfter : Nat),
    (count + 1 < hardAfter →
      FaultRun.judge ⟨false, count⟩ hardAfter clearsAfter .observation = ⟨false, count + 1⟩)
    ∧ (hardAfter ≤ count + 1 → FaultRun.judge ⟨false, count⟩ hardAfter clearsAfter .observation = ⟨true, 0⟩)
    ∧ FaultRun.judge ⟨true, count⟩ hardAfter clearsAfter .observation = ⟨true, 0⟩
    ∧ FaultRun.judge ⟨false, count⟩ hardAfter clearsAfter .pass = ⟨false, 0⟩
    ∧ (count + 1 < clearsAfter → FaultRun.judge ⟨true, count⟩ hardAfter clearsAfter .pass = ⟨true, count + 1⟩)
    ∧ (clearsAfter ≤ count + 1 → FaultRun.judge ⟨true, count⟩ hardAfter clearsAfter .pass = ⟨false, 0⟩)
    ∧ (∀ hard, FaultRun.judge ⟨hard, count⟩ hardAfter clearsAfter .skip = ⟨hard, count⟩)
    ∧ (FaultRun.reported ⟨false, 0⟩ hardAfter .observation = if hardAfter ≤ 1 then some .hard else some .soft)
    ∧ (0 < count → FaultRun.reported ⟨false, count⟩ hardAfter .observation
        = if hardAfter ≤ count + 1 then some .hard else none)
    ∧ FaultRun.reported ⟨true, count⟩ hardAfter .observation = none
    ∧ (∀ hard, FaultRun.reported ⟨hard, count⟩ hardAfter .pass = none)
    ∧ ∀ hard, FaultRun.reported ⟨hard, count⟩ hardAfter .skip = none)
  ∧ ((∀ (ρ : Type) (x held : ρ) (lost : Bool) (severity : Severity),
    Capture.apply .empty .soft x = .softHeld x ∧ Capture.apply .empty .hard x = .locked x false
      ∧ Capture.apply (.softHeld held) .soft x = .softHeld held
      ∧ Capture.apply (.softHeld held) .hard x = .locked x false
      ∧ Capture.apply (.locked held lost) severity x = .locked held true)
  ∧ (∀ (d : Diag) (r : MeasReport),
    d.reportMeas r = { d with
      meas := d.meas.apply r.severity r
      counters := { d.counters with
        softFaults := if r.severity = .hard then d.counters.softFaults
          else if d.counters.softFaults < 65535 then d.counters.softFaults + 1 else 65535 } })
  ∧ ∀ (d : Diag) (r : LinkReport),
    d.reportLink r = { d with
      link := d.link.apply r.severity r
      counters := { d.counters with
        softFaults := if r.severity = .hard then d.counters.softFaults
          else if d.counters.softFaults < 65535 then d.counters.softFaults + 1 else 65535 } })

/-- R25, R26, R28: a sweep start, at the period timer's expiry, takes the count as its number, advances the count and the
test-sweep counter, and puts the sweep in flight, a test sweep exactly when the counter read 0. R27: the position read is
the first tag-fitted one from the pointer upward, 0 following 3, and the pointer is set one above it; with no tag-fitted
position there is no read and the pointer stays. Nothing else moves but the placed-this-period mark (R172). Below the
period, as after a change of mode taken first, no sweep starts. -/
def Obligations.SweepStartTakesNumber : Prop :=
  ∀ (s : State) (ms period : Nat), s.powered = true → s.sweep.period = .running ms → s.sweep.flight = none →
    period = (if s.modeCtl.mode = .watch then 1000 else 50) →
    (ms < period → exec .sweepStart s = .next s)
    ∧ (period ≤ ms → ∃ (t : State) (tagAt : Option Pos), exec .sweepStart s = .next t
      ∧ t = { s with sweep := t.sweep, emission := { s.emission with placedMark := false } }
      ∧ t.sweep.count = s.sweep.count + 1 ∧ t.sweep.testCounter = s.sweep.testCounter + 1
      ∧ t.sweep.flight = some (.periodic s.sweep.count (decide (s.sweep.testCounter = 0)) tagAt 0)
      ∧ t.sweep.period = .running 0
      ∧ (∀ k : Pos, tagFitted s.config.running (s.sweep.pointer + k) = true →
          (∀ j : Pos, j < k → tagFitted s.config.running (s.sweep.pointer + j) = false) →
          tagAt = some (s.sweep.pointer + k) ∧ t.sweep.pointer = s.sweep.pointer + k + 1)
      ∧ ((∀ p, tagFitted s.config.running p = false) → tagAt = none ∧ t.sweep.pointer = s.sweep.pointer))

/-- R2, R29: a completion runs its steps in order, judging, classifying, the position table, the ladders, the report,
the mode controller, and ends the flight. It replaces the held readings and keeps the controller's numbers, the straps,
the configuration and the vehicle data record. R9: a channel's open-wire reference is its main reading at a sweep that is
no test. R30, R40: at a test sweep the classifier's state, every settled class, the departure sequence and the Departure
List stand. -/
def Obligations.CompletionHoldsReadings : Prop :=
  (∀ (s : State) (r : SweepReadings) (number : Word16) (test : Bool) (tagAt : Option Pos) (ms : Nat)
      (o : SensingOutcome) (u : State),
    s.powered = true → s.sweep.flight = some (.periodic number test tagAt ms) →
    o = sense s.config.running number test tagAt r s.sfe → u = (s.sensingStep o).classifierStep o r test →
    exec (.sweepCompletion r) s = .next
      ((((u.tableStep (s.table.seats.map Seat.cls) test o).ladderStep.reportStep).modeStep
        (ownChanges (s.table.seats.map Seat.cls) (u.table.seats.map Seat.cls) o)).endFlight))
  ∧ (∀ (s : State) (r : SweepReadings) (number : Word16) (test : Bool) (tagAt : Option Pos) (ms : Nat),
    s.powered = true → s.sweep.flight = some (.periodic number test tagAt ms) →
    ∃ t, exec (.sweepCompletion r) s = .next t ∧ t.sweep.flight = none
      ∧ t.sweep.count = s.sweep.count ∧ t.sweep.testCounter = s.sweep.testCounter ∧ t.sweep.pointer = s.sweep.pointer
      ∧ (∀ p, isFitted s.config.running p = true →
          (t.sfe.channels.get p).held
            = some { main := (r.channels.get p).main, check := (r.channels.get p).check
                     presence := (r.channels.get p).presence
                     buckle := if buckleRead s.config.running p then some (r.channels.get p).buckle else none })
      ∧ (∀ p, isFitted s.config.running p = true →
          (test = false → (t.sfe.channels.get p).reference = some (r.channels.get p).main)
          ∧ (test = true → (t.sfe.channels.get p).reference = (s.sfe.channels.get p).reference))
      ∧ (∀ p, isFitted s.config.running p = false → t.sfe.channels.get p = s.sfe.channels.get p)
      ∧ t.pending = s.pending ∧ t.powered = true ∧ t.straps = s.straps ∧ t.config = s.config
      ∧ t.vehicle = s.vehicle)
  ∧ ∀ (s : State) (r : SweepReadings) (number : Word16) (tagAt : Option Pos) (ms : Nat),
    s.powered = true → s.sweep.flight = some (.periodic number true tagAt ms) →
    ∃ t, exec (.sweepCompletion r) s = .next t ∧ t.classes = s.classes
      ∧ (∀ p, (t.table.seats.get p).cls = (s.table.seats.get p).cls)
      ∧ t.table.departureSeq = s.table.departureSeq ∧ t.departures = s.departures

/-- R13, R15: the bands of a buckle ratio, with the group and the fault kind of each. R14: what a belt reading makes of the belt state at a completion, from the belt run before it. R17 to R19: the read
of a tag, its run at the position read, and the view at two reads of one kind; no other position's run or view moves. R21:
the latch state is set by its first reading, and after that changes at the second of two consecutive opposite readings. -/
def Obligations.BeltTagAndLatchDebounce : Prop :=
  (∀ ratio : Byte,
    (ratio.toNat ≤ 19 → (bandOf ratio).group = .fault ∧ (bandOf ratio).faultKind = .buckleShort)
    ∧ (20 ≤ ratio.toNat → ratio.toNat ≤ 99 → (bandOf ratio).group = .buckled)
    ∧ (100 ≤ ratio.toNat → ratio.toNat ≤ 179 → (bandOf ratio).group = .unbuckled)
    ∧ (180 ≤ ratio.toNat → ratio.toNat ≤ 219 →
      (bandOf ratio).group = .fault ∧ (bandOf ratio).faultKind = .buckleBetween)
    ∧ (220 ≤ ratio.toNat → (bandOf ratio).group = .fault ∧ (bandOf ratio).faultKind = .buckleOpen))
  ∧ (∀ (s : State) (r : SweepReadings) (number : Word16) (test : Bool) (tagAt : Option Pos) (ms : Nat) (p : Pos),
    s.powered = true → s.sweep.flight = some (.periodic number test tagAt ms) →
    buckleRead s.config.running p = true →
    ∃ t, exec (.sweepCompletion r) s = .next t
      ∧ (∀ n, (s.sfe.positions.get p).beltRun = some ⟨(bandOf (r.channels.get p).buckle).group, n⟩ →
          (t.sfe.positions.get p).beltRun = some ⟨(bandOf (r.channels.get p).buckle).group, min (n + 1) 3⟩
            ∧ (t.sfe.positions.get p).belt
                = match (bandOf (r.channels.get p).buckle).group with
                  | .buckled => if 1 ≤ n then .buckled else (s.sfe.positions.get p).belt
                  | .unbuckled => if 1 ≤ n then .unbuckled else (s.sfe.positions.get p).belt
                  | .fault => if 2 ≤ n then .fault else (s.sfe.positions.get p).belt)
      ∧ ((∀ n, (s.sfe.positions.get p).beltRun ≠ some ⟨(bandOf (r.channels.get p).buckle).group, n⟩) →
          (t.sfe.positions.get p).beltRun = some ⟨(bandOf (r.channels.get p).buckle).group, 1⟩
            ∧ (t.sfe.positions.get p).belt = (s.sfe.positions.get p).belt))
  ∧ ((tagResult .silence = .noReply ∧ tagResult .overlap = .collision)
    ∧ (∀ (serial : Word16) (type : TagType) (anchor : Anchor) (mass : Byte), serial ≠ 0 →
      tagResult (.reply true serial (some type) (some anchor) mass) = .valid { serial, type, anchor, mass })
    ∧ ∀ (checkPassed : Bool) (serial : Word16) (type : Option TagType) (anchor : Option Anchor) (mass : Byte),
      checkPassed = false ∨ serial = 0 ∨ type = none ∨ anchor = none →
      tagResult (.reply checkPassed serial type anchor mass) = .collision)
  ∧ (∀ (s : State) (r : SweepReadings) (number : Word16) (test : Bool) (tagAt : Option Pos) (ms : Nat) (p : Pos),
    s.powered = true → s.sweep.flight = some (.periodic number test tagAt ms) → isPosition s.config.running p = true →
    ∃ t, exec (.sweepCompletion r) s = .next t
      ∧ (tagAt ≠ some p →
          (t.sfe.positions.get p).tagRun = (s.sfe.positions.get p).tagRun
            ∧ (t.sfe.positions.get p).tagView = (s.sfe.positions.get p).tagView)
      ∧ ∀ kind, tagAt = some p →
        (kind = match tagResult r.tag with
          | .noReply => TagRunKind.noReply
          | .collision => .collision
          | .valid g => .valid g.serial) →
        ((∀ n, (s.sfe.positions.get p).tagRun ≠ some ⟨kind, n⟩) →
          (t.sfe.positions.get p).tagRun = some ⟨kind, 1⟩
            ∧ (t.sfe.positions.get p).tagView = (s.sfe.positions.get p).tagView)
        ∧ ∀ n, (s.sfe.positions.get p).tagRun = some ⟨kind, n⟩ →
          (t.sfe.positions.get p).tagRun = some ⟨kind, 2⟩
            ∧ (tagResult r.tag = .noReply → (t.sfe.positions.get p).tagView = .none)
            ∧ (tagResult r.tag = .collision → (t.sfe.positions.get p).tagView = .unclear)
            ∧ ∀ g, tagResult r.tag = .valid g →
              (∀ held, (s.sfe.positions.get p).tagView = .present held → held.serial = g.serial →
                (t.sfe.positions.get p).tagView = .present held)
              ∧ ((∀ held, (s.sfe.positions.get p).tagView = .present held → held.serial ≠ g.serial) →
                (t.sfe.positions.get p).tagView = .present g))
  ∧ (∀ (s : State) (r : SweepReadings) (number : Word16) (test : Bool) (tagAt : Option Pos) (ms : Nat),
    s.powered = true → s.sweep.flight = some (.periodic number test tagAt ms) →
    ∃ t, exec (.sweepCompletion r) s = .next t
      ∧ (s.sfe.latch = none → t.sfe.latch = some (latchLevel r.latchOpen))
      ∧ (s.sfe.latch = some (latchLevel r.latchOpen) → t.sfe.latch = s.sfe.latch ∧ t.sfe.latchRun = 0)
      ∧ (∀ level, s.sfe.latch = some level → level ≠ latchLevel r.latchOpen →
          (s.sfe.latchRun = 0 → t.sfe.latch = some level ∧ t.sfe.latchRun = 1)
            ∧ (1 ≤ s.sfe.latchRun → t.sfe.latch = some (latchLevel r.latchOpen) ∧ t.sfe.latchRun = 0)))

/-- R2, R6, R7, R10, R12: what each judgement of a completion comes out as at a position, with the channels that are
measured as one there; what a judgement does to flag and count is the table of R5. R15, R20, R23: the reports of a
completion, in position order and in the order of R23 within a position, with their fields and the sweep's number, taken
by the measurement capture one after another. That the check field of TAG_UNCLEAR is 1 is the model's (log entry 18). -/
def Obligations.FaultsJudgedAndReported : Prop :=
  (∀ (s : State) (r : SweepReadings) (number : Word16) (test : Bool) (tagAt : Option Pos) (ms : Nat) (p : Pos)
      (one : Pos → Prop) (main check : Nat),
    s.powered = true → s.sweep.flight = some (.periodic number test tagAt ms) → isPosition s.config.running p = true →
    (∀ q, one q ↔ q = p ∨ (isJoined s.config.running p = true ∧ q = upperOf p)) →
    main = (positionReadings s.config.running p r.channels).main →
    check = (positionReadings s.config.running p r.channels).check →
    ∃ t, exec (.sweepCompletion r) s = .next t
      ∧ ((∃ q, one q ∧ (atRail (r.channels.get q).main = true ∨ atRail (r.channels.get q).check = true)) →
          (t.sfe.positions.get p).matRange = (s.sfe.positions.get p).matRange.judge 3 3 .observation
            ∧ (t.sfe.positions.get p).matDisagree = (s.sfe.positions.get p).matDisagree.judge 3 10 .skip)
      ∧ ((∀ q, one q → atRail (r.channels.get q).main = false ∧ atRail (r.channels.get q).check = false) →
          (t.sfe.positions.get p).matRange = (s.sfe.positions.get p).matRange.judge 3 3 .pass
            ∧ (test = true →
              (t.sfe.positions.get p).matDisagree = (s.sfe.positions.get p).matDisagree.judge 3 10 .skip)
            ∧ (test = false → main ≤ check + (48 + main / 16) → check ≤ main + (48 + main / 16) →
              (t.sfe.positions.get p).matDisagree = (s.sfe.positions.get p).matDisagree.judge 3 10 .pass)
            ∧ (test = false → check + (48 + main / 16) < main ∨ main + (48 + main / 16) < check →
              (t.sfe.positions.get p).matDisagree = (s.sfe.positions.get p).matDisagree.judge 3 10 .observation))
      ∧ (test = false → (t.sfe.positions.get p).matOpen = (s.sfe.positions.get p).matOpen.judge 1 1 .skip)
      ∧ (test = true →
          ((∃ q ref, one q ∧ (s.sfe.channels.get q).reference = some ref ∧ ref.toNat ≤ 3895
              ∧ (r.channels.get q).main.toNat < ref.toNat + 200) →
            (t.sfe.positions.get p).matOpen = (s.sfe.positions.get p).matOpen.judge 1 1 .observation)
          ∧ ((∀ q ref, one q → (s.sfe.channels.get q).reference = some ref → ref.toNat ≤ 3895 →
                ref.toNat + 200 ≤ (r.channels.get q).main.toNat) →
            ((∃ q ref, one q ∧ (s.sfe.channels.get q).reference = some ref ∧ ref.toNat ≤ 3895) →
              (t.sfe.positions.get p).matOpen = (s.sfe.positions.get p).matOpen.judge 1 1 .pass)
            ∧ ((∀ q ref, one q → (s.sfe.channels.get q).reference = some ref → 3895 < ref.toNat) →
              (t.sfe.positions.get p).matOpen = (s.sfe.positions.get p).matOpen.judge 1 1 .skip)))
      ∧ ((∃ q, one q ∧ atRail (r.channels.get q).presence = true) →
          (t.sfe.positions.get p).presenceRange = (s.sfe.positions.get p).presenceRange.judge 3 3 .observation)
      ∧ ((∀ q, one q → atRail (r.channels.get q).presence = false) →
          (t.sfe.positions.get p).presenceRange = (s.sfe.positions.get p).presenceRange.judge 3 3 .pass))
  ∧ (∀ x : Count12, atRail x = true ↔ x = 0 ∨ x = 4095)
  ∧ (∀ (c : Conf) (p : Pos) (r : Four ChannelReading),
    (isJoined c p = false → positionReadings c p r
      = ⟨(r.get p).main.toNat, (r.get p).check.toNat, (r.get p).presence.toNat⟩)
    ∧ (isJoined c p = true → positionReadings c p r
      = ⟨(r.get p).main.toNat + (r.get (upperOf p)).main.toNat, (r.get p).check.toNat + (r.get (upperOf p)).check.toNat,
          max (r.get p).presence.toNat (r.get (upperOf p)).presence.toNat⟩))
  ∧ (∀ (s : State) (r : SweepReadings) (number : Word16) (test : Bool) (tagAt : Option Pos) (ms : Nat),
    s.powered = true → s.sweep.flight = some (.periodic number test tagAt ms) →
    ∃ (t : State) (reports : Pos → List MeasReport), exec (.sweepCompletion r) s = .next t
      ∧ t.diag.meas
          = (reports 0 ++ reports 1 ++ reports 2 ++ reports 3).foldl (fun c x => c.apply x.severity x) s.diag.meas
      ∧ t.diag.counters.softFaults
          = (reports 0 ++ reports 1 ++ reports 2 ++ reports 3).foldl
            (fun n x => if x.severity = .soft then (if n < 65535 then n + 1 else 65535) else n)
            s.diag.counters.softFaults
      ∧ ∀ p, reports p = (judgePosition s.config.running p number test tagAt s.sfe.channels r
          (s.sfe.positions.get p)).reports)
  ∧ (∀ (c : Conf) (p : Pos) (number : Word16) (test : Bool) (tagAt : Option Pos) (channels : Four SfeChannel)
      (r : SweepReadings) (before : SfePosition) (one failed railed noPresence : Pos → Prop) (x : PositionReadings),
    x = positionReadings c p r.channels → (∀ q, one q ↔ q = p ∨ (isJoined c p = true ∧ q = upperOf p)) →
    (∀ q, failed q ↔ test = true ∧ one q ∧ ∃ ref, (channels.get q).reference = some ref ∧ ref.toNat ≤ 3895
        ∧ (r.channels.get q).main.toNat < ref.toNat + 200) →
    (∀ q, railed q ↔ one q ∧ (atRail (r.channels.get q).main = true ∨ atRail (r.channels.get q).check = true)) →
    (∀ q, noPresence q ↔ one q ∧ atRail (r.channels.get q).presence = true) →
    (isPosition c p = false → (judgePosition c p number test tagAt channels r before).reports = [])
    ∧ (isPosition c p = true →
      ∃ (o m d y b g : Option MeasReport),
        (judgePosition c p number test tagAt channels r before).reports
          = o.toList ++ m.toList ++ d.toList ++ y.toList ++ b.toList ++ g.toList
        ∧ ((∀ q, ¬ failed q) → o = none)
        ∧ (∀ q ref, failed q → (q ≠ p → ¬ failed p) → (channels.get q).reference = some ref →
            o = if before.matOpen.hard = true then none
              else some ⟨p, .matOpen, .hard, (r.channels.get q).main.toNat, ref.toNat, number⟩)
        ∧ ((∀ q, ¬ railed q) → m = none)
        ∧ (∀ q, railed q → (q ≠ p → ¬ railed p) →
            m = (before.matRange.reported 3 .observation).map fun severity =>
              ⟨p, .matRange, severity, (r.channels.get q).main.toNat, (r.channels.get q).check.toNat, number⟩)
        ∧ (test = true ∨ (∃ q, railed q) ∨ (x.main ≤ x.check + (48 + x.main / 16)
              ∧ x.check ≤ x.main + (48 + x.main / 16)) → d = none)
        ∧ (test = false → (∀ q, ¬ railed q) →
            x.check + (48 + x.main / 16) < x.main ∨ x.main + (48 + x.main / 16) < x.check →
            d = (before.matDisagree.reported 3 .observation).map fun severity =>
              ⟨p, .matDisagree, severity, x.main, x.check, number⟩)
        ∧ ((∀ q, ¬ noPresence q) → y = none)
        ∧ (∀ q, noPresence q → (q ≠ p → ¬ noPresence p) →
            y = (before.presenceRange.reported 3 .observation).map fun severity =>
              ⟨p, .presenceRange, severity, (r.channels.get q).presence.toNat, 0, number⟩)
        ∧ b = (if buckleRead c p = true ∧ (bandOf (r.channels.get p).buckle).group = .fault ∧ before.belt ≠ .fault then
            (match before.beltRun with
              | some ⟨.fault, 0⟩ => some Severity.soft
              | some ⟨.fault, 1⟩ => none
              | some ⟨.fault, _ + 2⟩ => some .hard
              | some ⟨.buckled, _⟩ => some .soft
              | some ⟨.unbuckled, _⟩ => some .soft
              | none => some .soft).map fun severity =>
                ⟨p, (bandOf (r.channels.get p).buckle).faultKind, severity, 0, (r.channels.get p).buckle.toNat, number⟩
            else none)
        ∧ ((tagAt = some p ∧ tagResult r.tag = .collision ∧ (∃ n, before.tagRun = some ⟨.collision, n⟩)
            ∧ before.tagView ≠ .unclear) → g = some ⟨p, .tagUnclear, .soft, 0, 1, number⟩)
        ∧ (¬ (tagAt = some p ∧ tagResult r.tag = .collision ∧ (∃ n, before.tagRun = some ⟨.collision, n⟩)
            ∧ before.tagView ≠ .unclear) → g = none)))

/-- R35: the one-shot completion leaves everything the seat decides with as it was, clears the flight and offers one
DIAG_REPLY with the named part. -/
def Obligations.OneShotAnswersMeasure : Prop :=
  ∀ (s : State) (r : SweepReadings) (p : Pos) (part : MeasurePart) (ms : Nat),
    s.powered = true → s.sweep.flight = some (.oneShot p part ms) →
    ∃ (t : State) (data : List Byte), exec (.oneShotCompletion r) s = .next t
      ∧ t = ({ s with sweep := { s.sweep with flight := none } } : State).place .diagReply (replyPayload 5 .ok data)
      ∧ (part = .mat →
          data = twoBytes (positionReadings s.config.running p r.channels).main
            ++ twoBytes (positionReadings s.config.running p r.channels).check)
      ∧ (part = .presence →
          data = twoBytes (positionReadings s.config.running p r.channels).presence
            ++ [if buckleRead s.config.running p then (r.channels.get p).buckle else 0,
                if r.latchOpen then 1 else 0])
      ∧ (part = .tag → tagFitted s.config.running p = false → data = [0, 0, 0, 0])
      ∧ (part = .tag → tagFitted s.config.running p = true → tagResult r.tag = .noReply → data = [0, 0, 0, 0])
      ∧ (part = .tag → tagFitted s.config.running p = true → tagResult r.tag = .collision → data = [1, 0, 0, 0])
      ∧ (∀ g, part = .tag → tagFitted s.config.running p = true → tagResult r.tag = .valid g →
          data = [toByte (128 + 4 * anchorCode g.anchor + tagTypeCode g.type), toByte (g.serial.toNat / 256),
            toByte (g.serial.toNat % 256), g.mass])

/-- R22, R194: in STANDBY a sample at which some watched input, a buckle input or LATCH, differs from its reference
for the second time running raises a local wake cause: pending with a WAKE pulse at valid straps, a wake at once
otherwise. Any other sample keeps the references, gives an absent latch reference its level, and marks exactly the
inputs that differ now. -/
def Obligations.StandbySamplesRaiseWake : Prop :=
  ∀ (s : State) (w : StandbyWatch) (ratios : Four Byte) (latchOpen : Bool) (pins : BitVec 5) (raises : Prop),
    s.powered = true → s.modeCtl.mode = .standby → s.sfe.watch = some w →
    (raises ↔ (∃ p b, w.buckles.get p = some b ∧ b.differed = true
        ∧ b.reference ≠ decide (20 ≤ (ratios.get p).toNat ∧ (ratios.get p).toNat ≤ 99))
      ∨ (w.latchDiffered = true ∧ ∃ level, w.latch = some level ∧ level ≠ latchLevel latchOpen)) →
    (raises →
      ∃ t, exec (.standbyWatchSample ratios latchOpen pins) s = .next t
        ∧ (s.validStraps = true →
            t = { s with
              sfe := { s.sfe with watch := t.sfe.watch }
              modeCtl := { s.modeCtl with wakeCause := true }
              link := { s.link with wakePending := true } })
        ∧ (s.validStraps = false → t.modeCtl.mode = .active ∧ t.straps = pins))
    ∧ (¬ raises →
      ∃ (t : State) (w' : StandbyWatch), exec (.standbyWatchSample ratios latchOpen pins) s = .next t
        ∧ t = { s with sfe := { s.sfe with watch := some w' } }
        ∧ (w.latch = none → w'.latch = some (latchLevel latchOpen) ∧ w'.latchDiffered = false)
        ∧ (∀ level, w.latch = some level → w'.latch = some level
          ∧ (w'.latchDiffered = true ↔ level ≠ latchLevel latchOpen))
        ∧ ∀ p, w'.buckles.get p = (w.buckles.get p).map fun b =>
            ⟨b.reference, decide (b.reference ≠ decide (20 ≤ (ratios.get p).toNat ∧ (ratios.get p).toNat ≤ 99))⟩)

/-! ### Classification -/

/-- R51: the candidate class by the rows of the table from the top, on the load and the presence state that parts 2
and 3 left; each threshold takes its _off value in its band (R50). -/
def Obligations.CandidateTable : Prop :=
  (∀ (c : Conf) (p : Pos) (x : ClassifierInput) (k : ClsState),
    (classify c p x k).1.candidate = some (candidateClass c
      { settled := x.settled, matFault := x.matFault, presenceFault := x.presenceFault, view := x.view
        presence := (classify c p x k).1.presence, load := (classify c p x k).1.lf / 4 }))
  ∧ (∀ (c : Conf) (settled : Cls),
    adultThreshold c settled = (if settled = .adult then c.tAdultOff else c.tAdultOn)
      ∧ smallThreshold c settled = (if settled = .small ∨ settled = .adult then c.tSmallOff else c.tSmallOn)
      ∧ objectThreshold c settled = (if settled = .object then c.tObjOff else c.tObjOn)
      ∧ childThreshold c settled = (if settled = .csOccupied then c.tCsOff else c.tCsOn))
  ∧ ∀ (c : Conf) (x : CandidateInput),
    (x.matFault = true → x.presenceFault = true → candidateClass c x = .unknown)
    ∧ (¬ (x.matFault = true ∧ x.presenceFault = true) → x.view = .unclear → candidateClass c x = .unknown)
    ∧ (∀ r, x.view = .present r → x.matFault = true → x.presenceFault = false → candidateClass c x = .csOccupied)
    ∧ (∀ r, x.view = .present r → x.matFault = false → childThreshold c x.settled ≤ x.load - r.mass.toNat →
        candidateClass c x = .csOccupied)
    ∧ (∀ r, x.view = .present r → x.matFault = false → x.load - r.mass.toNat < childThreshold c x.settled →
        candidateClass c x = .csEmpty)
    ∧ (x.view = .none → x.matFault = true → x.presenceFault = false → x.presence = true →
        candidateClass c x = .unsized)
    ∧ (x.view = .none → x.matFault = true → x.presenceFault = false → x.presence = false →
        candidateClass c x = .empty)
    ∧ (x.view = .none → x.matFault = false → x.presenceFault = true → smallThreshold c x.settled ≤ x.load →
        candidateClass c x = .unsized)
    ∧ (x.view = .none → x.matFault = false → x.presenceFault = true → x.load < smallThreshold c x.settled →
        objectThreshold c x.settled ≤ x.load → candidateClass c x = .object)
    ∧ (x.view = .none → x.matFault = false → x.presenceFault = true → x.load < smallThreshold c x.settled →
        x.load < objectThreshold c x.settled → candidateClass c x = .empty)
    ∧ (x.view = .none → x.matFault = false → x.presenceFault = false → x.presence = true →
        adultThreshold c x.settled ≤ x.load → candidateClass c x = .adult)
    ∧ (x.view = .none → x.matFault = false → x.presenceFault = false → x.presence = true →
        x.load < adultThreshold c x.settled → smallThreshold c x.settled ≤ x.load → candidateClass c x = .small)
    ∧ (x.view = .none → x.matFault = false → x.presenceFault = false → x.presence = true →
        x.load < adultThreshold c x.settled → x.load < smallThreshold c x.settled → candidateClass c x = .empty)
    ∧ (x.view = .none → x.matFault = false → x.presenceFault = false → x.presence = false →
        objectThreshold c x.settled ≤ x.load → candidateClass c x = .object)
    ∧ (x.view = .none → x.matFault = false → x.presenceFault = false → x.presence = false →
        x.load < objectThreshold c x.settled → candidateClass c x = .empty)

/-- R53: the dwell counter by its three cases, and the candidate kept. R54: the dwell limit, doubled at speed and then at
most 30. R55: the class that settles once the counter reaches the limit. -/
def Obligations.DwellSettlesClass : Prop :=
  ∀ (c : Conf) (p : Pos) (x : ClassifierInput) (k : ClsState) (limit : Nat),
    (x.atSpeed = false → limit = c.dwell) → (x.atSpeed = true → limit = min (2 * c.dwell) 30) →
    ∃ (k' : ClsState) (settled candidate : Cls) (n : Nat), classify c p x k = (k', settled)
      ∧ k'.candidate = some candidate
      ∧ (candidate = x.settled → n = 0)
      ∧ (candidate ≠ x.settled → k.candidate = some candidate → 0 < k.dwell → n = k.dwell + 1)
      ∧ (candidate ≠ x.settled → (k.candidate ≠ some candidate ∨ k.dwell = 0) → n = 1)
      ∧ (n < limit → settled = x.settled ∧ k'.dwell = n)
      ∧ (limit ≤ n → settled = candidate ∧ k'.dwell = 0)

/-- R38, R41 to R48: at a completion that is no test the classifier state and the settled class of each position are what
classify gives, from the position readings, the fault flags and views after step 1, and the class and speed before; a
number that is no position keeps both. Then the arithmetic: net load, filter and its hold, presence shift and state with
their hold, and the two baselines, learned under their conditions and clamped. -/
def Obligations.ClassifierArithmetic : Prop :=
  (∀ (s : State) (r : SweepReadings) (number : Word16) (tagAt : Option Pos) (ms : Nat) (p : Pos),
    s.powered = true → s.sweep.flight = some (.periodic number false tagAt ms) →
    ∃ (t : State) (x : ClassifierInput), exec (.sweepCompletion r) s = .next t
      ∧ x.main = (positionReadings s.config.running p r.channels).main
      ∧ x.presence = (positionReadings s.config.running p r.channels).presence
      ∧ (x.matFault = true ↔ (t.sfe.positions.get p).matRange.hard = true
          ∨ (t.sfe.positions.get p).matDisagree.hard = true ∨ (t.sfe.positions.get p).matOpen.hard = true)
      ∧ (x.presenceFault = true ↔ (t.sfe.positions.get p).presenceRange.hard = true)
      ∧ (isPosition s.config.running p = true →
          (x.matObservation = true ↔ ∃ q, (q = p ∨ (isJoined s.config.running p = true ∧ q = upperOf p))
            ∧ (atRail (r.channels.get q).main = true ∨ atRail (r.channels.get q).check = true)))
      ∧ (isPosition s.config.running p = true →
          (x.presenceObservation = true ↔ ∃ q, (q = p ∨ (isJoined s.config.running p = true ∧ q = upperOf p))
            ∧ atRail (r.channels.get q).presence = true))
      ∧ x.view = (t.sfe.positions.get p).tagView ∧ x.settled = (s.table.seats.get p).cls ∧ x.atSpeed = s.atSpeed
      ∧ (isPosition s.config.running p = true →
          (t.classes.get p, (t.table.seats.get p).cls) = classify s.config.running p x (s.classes.get p))
      ∧ (isPosition s.config.running p = false →
          t.classes.get p = s.classes.get p ∧ (t.table.seats.get p).cls = (s.table.seats.get p).cls))
  ∧ ∀ (c : Conf) (p : Pos) (x : ClassifierInput) (k k' : ClsState) (settled : Cls) (net step : Int) (learns learnsToo : Prop),
    classify c p x k = (k', settled) →
    net = max 0 (min 2000 (((16 * (x.main : Int) - k.b16) * (c.gain.get p : Int)).tdiv 4096)) →
    step = (x.presence : Int) - k.pb16.tdiv 16 →
    (learns ↔ x.settled = .empty ∧ k'.presence = false ∧ x.matFault = false ∧ x.matObservation = false
        ∧ x.presenceFault = false) →
    (learnsToo ↔ k'.presence = false ∧ (x.settled = .empty ∨ x.settled = .object) ∧ x.presenceFault = false
        ∧ x.presenceObservation = false) →
    (x.matFault = true ∨ x.matObservation = true → k'.lf = k.lf)
    ∧ (x.matFault = false → x.matObservation = false → (k'.lf : Int) = (k.lf : Int) + (4 * net - (k.lf : Int)).tdiv 4)
    ∧ k'.shift = step
    ∧ (x.presenceFault = true ∨ x.presenceObservation = true → k'.presence = k.presence)
    ∧ (x.presenceFault = false → x.presenceObservation = false →
        (k.presence = false → (k'.presence = true ↔ (c.pOn : Int) ≤ step))
        ∧ (k.presence = true → (k'.presence = true ↔ (c.pOff : Int) ≤ step)))
    ∧ (learns → k'.b16 = max (((c.zero.get p : Int) - 300) * 16) (min (((c.zero.get p : Int) + 300) * 16)
        (k.b16 + (16 * (x.main : Int) - k.b16).tdiv 64)))
    ∧ (¬ learns → k'.b16 = k.b16)
    ∧ (learnsToo → k'.pb16 = max 0 (min 65520 (max (((c.pzero.get p : Int) - 400) * 16)
        (min (((c.pzero.get p : Int) + 400) * 16) (k.pb16 + (16 * (x.presence : Int) - k.pb16).tdiv 128)))))
    ∧ (¬ learnsToo → k'.pb16 = k.pb16)

/-! ### Positions, occupants, latch -/

/-- R67, R68: an arrival creates a record with the first values of the table; from UNSCANNED it is RESTORED and nothing
else changes. R68, R69, R114 to R116: any other is matched where a search is made: the oldest entry that matches, by serial
or by class, leaves the list, its copy is the pending claim, and a CLAIM for its tag is offered to the transmit queue;
with none the origin is UNTRACED at speed and BOARDED below it. -/
def Obligations.ArrivalCreatesRecord : Prop :=
  ∀ (s : State) (p : Pos),
    ∃ r : Record, s.FirstRecord p r ∧ s.arrive p true = s.putRecord p { r with origin := .restored }
      ∧ s.Searched (s.arrive p false) p r

/-- R72 to R75, R121, R122, R193: a departure ends the record; a CLAIM it waits for is withdrawn or voided, and waiting
ALERTs of an ACTIVE alert are withdrawn. With the ignition ON at valid straps the sequence advances, the entry, built from
the record's own fields, joins the own list, and a DEPART carrying it is offered to the transmit queue; otherwise there is
no entry, no sequence number and no DEPART. Stated where the new tag is neither listed nor held and the list has room. That
the claim's and the alert's frames leave the queue before the DEPART is offered is the model's choice (log entry 32). -/
def Obligations.DepartureHandsHistoryOn : Prop :=
  ∀ (s : State) (p : Pos) (r : Record) (e : DepEntry) (l : Link), s.recordAt p = some r →
    l = s.link.recordEnded p r →
    e = { tag := { station := s.station, pos := p, seq := s.table.departureSeq + 1 }, cls := r.cls
          wasBelted := r.everBuckled, chime := r.chimeUsed
          child := r.tag.map fun g => { serial := g.serial, type := g.type }, ageMs := 0 } →
    (s.depart p).recordAt p = none
    ∧ (s.depart p).lamps = s.lamps.set p .off
    ∧ (∀ q, q ≠ p → (s.depart p).table.seats.get q = s.table.seats.get q)
    ∧ ((s.depart p).table.seats.get p).cls = (s.table.seats.get p).cls
    ∧ s.depart p = { s with
        table := (s.depart p).table, departures := (s.depart p).departures, link := (s.depart p).link
        lamps := (s.depart p).lamps, modeCtl := (s.depart p).modeCtl, diag := (s.depart p).diag }
    ∧ (s.depart p).modeCtl = { s.modeCtl with
        leftBehindMs := if (s.depart p).table.anyQualifies then s.modeCtl.leftBehindMs else 0 }
    ∧ (s.vehicle.ignition = .on → s.validStraps = true → e.tag ∉ s.departures.map DepEntry.tag →
        e.tag ∉ s.heldTags → s.departures.length < 8 →
        (s.depart p).table.departureSeq = s.table.departureSeq + 1
          ∧ (s.depart p).departures = s.departures ++ [e]
          ∧ (s.depart p).link = (({ s with link := l } : State).place .depart (departPayload e)).link
          ∧ (s.depart p).diag = (({ s with link := l } : State).place .depart (departPayload e)).diag
          ∧ (l.txq.length < 6 →
              (s.depart p).link = { l with txq := l.txq ++ [newEntry .depart (departPayload e) none] }
                ∧ (s.depart p).diag = s.diag))
    ∧ (s.vehicle.ignition ≠ .on ∨ s.validStraps = false →
        (s.depart p).table.departureSeq = s.table.departureSeq ∧ (s.depart p).departures = s.departures
          ∧ (s.depart p).diag = s.diag ∧ (s.depart p).link = l)

/-- R66, R70, R71, R76: what a completion makes of a position's classes before and after: an arrival, a departure, a change
between occupant classes, an exchange of the restraint under CS_OCCUPIED (not at a test), or nothing; a change keeps the
record, with its new class and the tag part of the table; an exchange is a departure and then an arrival; one position
after another. Then the belt changes of step 1 reach the records. -/
def Obligations.OccupantChanges : Prop :=
  (∀ (s : State) (before : Four Cls) (test : Bool) (one : Pos → State → State),
    (∀ p u, one p u = u.takeSeatChange p (seatChange (before.get p) (u.table.seats.get p).cls test
      (restraintExchanged (u.table.seats.get p).cls (u.recordAt p) (u.sfe.positions.get p).tagView))) →
    s.takeClasses before test = one 3 (one 2 (one 1 (one 0 s))))
  ∧ (∀ (before after : Cls) (test exchanged : Bool),
    (before.isOccupant = false → after.isOccupant = true →
      seatChange before after test exchanged = .arrival (decide (before = .unscanned)))
    ∧ (before.isOccupant = true → after.isOccupant = false → seatChange before after test exchanged = .departure)
    ∧ (before.isOccupant = true → after.isOccupant = true → before ≠ after →
      seatChange before after test exchanged = .classChange)
    ∧ (before.isOccupant = true → after = before →
      seatChange before after test exchanged = if exchanged = true ∧ test = false then .exchange else .none)
    ∧ (before.isOccupant = false → after.isOccupant = false → seatChange before after test exchanged = .none))
  ∧ (∀ (cls : Cls) (record : Option Record) (view : TagView),
    restraintExchanged cls record view = true ↔
      cls = .csOccupied ∧ ∃ r g seen, record = some r ∧ r.tag = some g ∧ view = .present seen ∧ g.serial ≠ seen.serial)
  ∧ (∀ (s : State) (p : Pos),
    s.takeSeatChange p .none = s ∧ s.takeSeatChange p .departure = s.depart p
      ∧ (∀ fromUnscanned, s.takeSeatChange p (.arrival fromUnscanned) = s.arrive p fromUnscanned)
      ∧ s.takeSeatChange p .exchange = (s.depart p).arrive p false
      ∧ ∀ (r : Record) (cls : Cls), s.recordAt p = some r → cls = (s.table.seats.get p).cls →
        (cls ≠ .csOccupied → s.takeSeatChange p .classChange = s.putRecord p { r with cls := cls, tag := none })
        ∧ (cls = .csOccupied → r.cls = .csOccupied → s.takeSeatChange p .classChange = s.putRecord p { r with cls := cls })
        ∧ ∀ g, cls = .csOccupied → r.cls ≠ .csOccupied → (s.sfe.positions.get p).tagView = .present g →
          s.takeSeatChange p .classChange = s.putRecord p
            { r with cls := cls, tag := some { serial := g.serial, type := g.type, anchor := g.anchor } })
  ∧ ∀ (s : State) (changed : Four Bool),
    s.takeBelts changed = { s with table := { s.table with seats := (s.takeBelts changed).table.seats } }
      ∧ ∀ p,
        ((s.takeBelts changed).table.seats.get p).cls = (s.table.seats.get p).cls
        ∧ ((s.takeBelts changed).table.seats.get p).securing = (s.table.seats.get p).securing
        ∧ (changed.get p = false → (s.takeBelts changed).recordAt p = s.recordAt p)
        ∧ (s.recordAt p = none → (s.takeBelts changed).recordAt p = none)
        ∧ ∀ r, changed.get p = true → s.recordAt p = some r →
          ((s.sfe.positions.get p).belt = .buckled →
            (s.takeBelts changed).recordAt p = some { r with everBuckled := true, buckledRun := .running 0 })
          ∧ ((s.sfe.positions.get p).belt ≠ .buckled →
            (s.takeBelts changed).recordAt p = some { r with buckledRun := .stopped })

/-- R78 to R80: an opening under way sets UNLATCHED and release pending with no frame; otherwise a ROW_RELEASE is
placed and both stand. A closing clears both. A first setting to OPEN acts as an opening; to CLOSED nothing follows. A
pending release with the latch OPEN is sent, and cleared, once the van is not under way. -/
def Obligations.LatchEvents : Prop :=
  ∀ s : State,
    (∀ event, event = .changed .opened ∨ event = .firstSet .opened →
      (s.vehicle.ignition = .on → s.config.running.vTrip ≤ s.effSpeed →
        s.takeLatch event = { s with table := { s.table with unlatched := true, releasePending := true } })
      ∧ (¬ (s.vehicle.ignition = .on ∧ s.config.running.vTrip ≤ s.effSpeed) →
        s.takeLatch event = s.place .rowRelease []))
    ∧ s.takeLatch (.changed .closed) = { s with table := { s.table with unlatched := false, releasePending := false } }
    ∧ s.takeLatch (.firstSet .closed) = s ∧ s.takeLatch .none = s
    ∧ (s.table.releasePending = true → s.sfe.latch = some .opened →
        ¬ (s.vehicle.ignition = .on ∧ s.config.running.vTrip ≤ s.effSpeed) →
        s.sendPendingRelease
          = ({ s with table := { s.table with releasePending := false } } : State).place .rowRelease [])
    ∧ (s.table.releasePending = false ∨ s.sfe.latch ≠ some .opened
          ∨ (s.vehicle.ignition = .on ∧ s.config.running.vTrip ≤ s.effSpeed) → s.sendPendingRelease = s)

/-! ### Ladders -/

/-- R90, R93, R97, R65: a grace timer at T_grace, a slow timer at 5 s and a buckled run at 10 s run out, and a record sits
a full second. R91, R92, R94: the escalation timer at T_l1 runs out into LEVEL_2, and a chime second adds 1 s; with chime
time used at the chime limit both give SPENT, with every ladder timer stopped. The slow timer starts with LEVEL_2 below
V_trip (section 5.3). The record takes the new values, the lamps follow, and nothing else changes. GRACE stands below
V_trip alone, so the first clause asks for that. A timer that is not at its limit, as that of a record created by an
exchange taken first (R71), changes nothing (log entry 2). -/
def Obligations.LadderTimersRunOut : Prop :=
  ∀ (s : State) (p : Pos) (r : Record), s.powered = true → s.recordAt p = some r →
    (r.graceTimer.Reached (1000 * s.config.running.tGrace) → s.atSpeed = false →
      exec (.graceTimerExpiry p) s = .next (s.putRecord p
        { r with level := .level1, graceUsed := true, graceTimer := .stopped, escalation := .stopped
                 chimeTimer := .stopped, slowTimer := .stopped }).refreshLamps)
    ∧ (¬ r.graceTimer.Reached (1000 * s.config.running.tGrace) → exec (.graceTimerExpiry p) s = .next s)
    ∧ (r.slowTimer.Reached 5000 →
      exec (.slowTimerExpiry p) s = .next (s.putRecord p
        { r with level := .level1, graceTimer := .stopped, escalation := .stopped, chimeTimer := .stopped
                 slowTimer := .stopped }).refreshLamps)
    ∧ (¬ r.slowTimer.Reached 5000 → exec (.slowTimerExpiry p) s = .next s)
    ∧ (r.buckledRun.Reached 10000 →
      exec (.buckledRunExpiry p) s
        = .next (s.putRecord p { r with chimeUsed := 0, buckledRun := .stopped }).refreshLamps)
    ∧ (¬ r.buckledRun.Reached 10000 → exec (.buckledRunExpiry p) s = .next s)
    ∧ (s.modeCtl.mode = .active ∨ s.modeCtl.mode = .watch →
      (1000 ≤ r.seatedMs → exec (.seatedTimeSecond p) s
        = .next (s.putRecord p { r with seated := if r.seated < 65535 then r.seated + 1 else 65535, seatedMs := 0 }))
      ∧ (r.seatedMs < 1000 → exec (.seatedTimeSecond p) s = .next s))
    ∧ (r.escalation.Reached (1000 * s.config.running.tL1) → r.chimeUsed < s.config.running.chimeLimit →
      exec (.escalationTimerExpiry p) s = .next (s.putRecord p
        { r with level := .level2, graceTimer := .stopped, escalation := .stopped, chimeTimer := .running 0
                 slowTimer := if s.atSpeed then .stopped else .running 0 }).refreshLamps)
    ∧ (r.escalation.Reached (1000 * s.config.running.tL1) → s.config.running.chimeLimit ≤ r.chimeUsed →
      exec (.escalationTimerExpiry p) s = .next (s.putRecord p
        { r with level := .spent, graceTimer := .stopped, escalation := .stopped, chimeTimer := .stopped
                 slowTimer := .stopped }).refreshLamps)
    ∧ (¬ r.escalation.Reached (1000 * s.config.running.tL1) → exec (.escalationTimerExpiry p) s = .next s)
    ∧ (r.chimeTimer.Reached 1000 → r.chimeUsed + 1 < s.config.running.chimeLimit →
      exec (.chimeSecond p) s = .next (s.putRecord p
        { r with chimeUsed := r.chimeUsed + 1, chimeTimer := .running 0 }).refreshLamps)
    ∧ (r.chimeTimer.Reached 1000 → s.config.running.chimeLimit ≤ r.chimeUsed + 1 →
      exec (.chimeSecond p) s = .next (s.putRecord p
        { r with chimeUsed := s.config.running.chimeLimit, level := .spent, graceTimer := .stopped
                 escalation := .stopped, chimeTimer := .stopped, slowTimer := .stopped }).refreshLamps)
    ∧ (¬ r.chimeTimer.Reached 1000 → exec (.chimeSecond p) s = .next s)

/-- R87, R89, R90, R91, R94: a reminder at QUIET that becomes due takes its level by the table, with T_grace and T_l1
at 0 going on at once; one that is not due goes to QUIET with its ladder timers stopped and its history kept; one
that stays due stands. R85, R88:
step 4 of a completion does this to every record, once its kind is worked out again, and the lamps follow. -/
def Obligations.DueReminderLeavesQuiet : Prop :=
  (∀ (env : LadderEnv) (belt : BeltState) (r : Record),
    (r.level = .quiet → r.kind ≠ .none → belt = .unbuckled ∨ belt = .fault → env.ignitionOn = true →
      (env.atSpeed = true → r.everBuckled = true ∨ r.origin = .untraced ∨ (∃ tag, r.origin = .moved tag) →
        (r.chimeUsed < env.conf.chimeLimit →
          (r.evaluate env belt).level = .level2 ∧ (r.evaluate env belt).chimeTimer = .running 0)
        ∧ (env.conf.chimeLimit ≤ r.chimeUsed → (r.evaluate env belt).level = .spent))
      ∧ (env.atSpeed = true → r.everBuckled = false → r.origin ≠ .untraced → (∀ tag, r.origin ≠ .moved tag) →
        (0 < env.conf.tL1 →
          (r.evaluate env belt).level = .level1 ∧ (r.evaluate env belt).escalation = .running 0)
        ∧ (env.conf.tL1 = 0 → (r.evaluate env belt).level
            = if env.conf.chimeLimit ≤ r.chimeUsed then .spent else .level2))
      ∧ (env.atSpeed = false → r.graceUsed = false →
        (0 < env.conf.tGrace →
          (r.evaluate env belt).level = .grace ∧ (r.evaluate env belt).graceTimer = .running 0
            ∧ (r.evaluate env belt).graceUsed = false)
        ∧ (env.conf.tGrace = 0 →
          (r.evaluate env belt).level = .level1 ∧ (r.evaluate env belt).graceUsed = true))
      ∧ (env.atSpeed = false → r.graceUsed = true →
        (r.evaluate env belt).level = .level1 ∧ (r.evaluate env belt).escalation = .stopped))
    ∧ (r.kind = .none ∨ belt = .buckled ∨ belt = .notFitted ∨ env.ignitionOn = false →
      r.evaluate env belt
        = { r with level := .quiet, graceTimer := .stopped, escalation := .stopped, chimeTimer := .stopped
                   slowTimer := .stopped })
    ∧ (r.level ≠ .quiet → r.kind ≠ .none → belt = .unbuckled ∨ belt = .fault → env.ignitionOn = true →
      r.evaluate env belt = r))
  ∧ (∀ s : State,
      s.ladderStep = { s with table := { s.table with seats := s.ladderStep.table.seats }, lamps := s.ladderStep.lamps }
      ∧ ∀ p,
        (s.ladderStep.table.seats.get p).cls = (s.table.seats.get p).cls
        ∧ s.ladderStep.recordAt p = (s.recordAt p).map fun r =>
            Record.evaluate
              { conf := s.config.running, atSpeed := s.atSpeed, ignitionOn := decide (s.vehicle.ignition = .on) }
              (s.sfe.positions.get p).belt { r with kind := reminderKind r.cls r.tag })
  ∧ (∀ cls tag, cls ≠ .csOccupied → reminderKind cls tag = .occupant)
  ∧ reminderKind .csOccupied none = .occupant
  ∧ ∀ g : TagPart,
      (g.type = .booster → reminderKind .csOccupied (some g) = .occupant)
      ∧ (g.type ≠ .booster → reminderKind .csOccupied (some g) = if g.anchor = .belt then .secure else .none)

/-- R86, R96: what a periodic completion makes of a securing state, by the settled class and the tag view it leaves. Only
CS_EMPTY keeps one: a belt-anchored infant or child restraint in view creates or keeps it, any other in view ends it, and
with none in view it stays as it was. One that stands is at LEVEL_1 while its reminder is due and at QUIET otherwise. A
position never holds both it and a record; step 4, which creates and ends it, touches seats and lamps alone, so it makes
no entry and no frame. -/
def Obligations.SecuringStates : Prop :=
  (∀ (s : State) (r : SweepReadings) (number : Word16) (test : Bool) (tagAt : Option Pos) (ms : Nat) (p : Pos),
    s.powered = true → s.sweep.flight = some (.periodic number test tagAt ms) →
    ∃ (t : State) (level : Level), exec (.sweepCompletion r) s = .next t
      ∧ level = (if ((t.sfe.positions.get p).belt = .unbuckled ∨ (t.sfe.positions.get p).belt = .fault)
            ∧ s.vehicle.ignition = .on then .level1 else .quiet)
      ∧ ((t.table.seats.get p).cls ≠ .csEmpty → (t.table.seats.get p).securing = none)
      ∧ ((t.table.seats.get p).cls = .csEmpty →
        (∀ g, (t.sfe.positions.get p).tagView = .present g →
          ((g.type = .infantRear ∨ g.type = .childForward) ∧ g.anchor = .belt →
            (t.table.seats.get p).securing = some level)
          ∧ (¬ ((g.type = .infantRear ∨ g.type = .childForward) ∧ g.anchor = .belt) →
            (t.table.seats.get p).securing = none))
        ∧ ((∀ g, (t.sfe.positions.get p).tagView ≠ .present g) →
          ((s.table.seats.get p).securing = none → (t.table.seats.get p).securing = none)
          ∧ ((s.table.seats.get p).securing ≠ none → (t.table.seats.get p).securing = some level)))
      ∧ (s.RecordsFit → (t.table.seats.get p).securing ≠ none → t.recordAt p = none))
  ∧ ∀ s : State,
      s.ladderStep = { s with table := { s.table with seats := s.ladderStep.table.seats }, lamps := s.ladderStep.lamps }

/-- R88, R90, R91, R93, R96, R101: what a VEHICLE frame or the loss of vehicle data does to every ladder, by the
effective ignition and speed before and after; the alert may move too (R193). A rise to V_trip ends a grace in LEVEL_1,
starts the escalation timer, and stops the slow timer; a fall stops the one and starts the other; a speed that stays on
its side moves nothing. A reminder at QUIET goes by its table when the ignition becomes ON; at the ignition's loss every
level is QUIET. A trip end clears chime time and grace, and ever-buckled goes by the belt. A securing state follows the
ignition alone. That of the changes of one frame the ignition goes first, then the speed, then the trip end is the model's
choice (log entry 33). -/
def Obligations.VehicleEventsMoveLadders : Prop :=
  ∀ (s t : State) (i : Instr) (p : Pos) (belt : BeltState) (limit tripEnd : Prop) (due : Level),
    i = .vehicleHandled ∨ i = .vehicleDataLost → exec i s = .next t → belt = (s.sfe.positions.get p).belt →
    (tripEnd ↔ s.vehicle.trip = true ∧ s.vehicle.ignition ≠ .off ∧ t.vehicle.ignition = .off) →
    due = (if (belt = .unbuckled ∨ belt = .fault) ∧ t.vehicle.ignition = .on then .level1 else .quiet) →
    ((s.table.seats.get p).securing = none → (t.table.seats.get p).securing = none)
    ∧ (∀ l, (s.table.seats.get p).securing = some l →
      (tripEnd → (t.table.seats.get p).securing = some .quiet)
      ∧ (¬ tripEnd → (s.vehicle.ignition = .on ↔ t.vehicle.ignition = .on) → (t.table.seats.get p).securing = some l)
      ∧ (¬ tripEnd → ¬ (s.vehicle.ignition = .on ↔ t.vehicle.ignition = .on) →
        (t.table.seats.get p).securing = some due))
    ∧ (s.recordAt p = none → t.recordAt p = none)
    ∧ ∀ r, s.recordAt p = some r → (limit ↔ s.config.running.chimeLimit ≤ r.chimeUsed) →
      ∃ (r' : Record) (alert : Alert), t.recordAt p = some { r' with alert := alert }
        ∧ (tripEnd → r' = { r with
            level := .quiet, graceTimer := .stopped, escalation := .stopped, chimeTimer := .stopped
            slowTimer := .stopped, chimeUsed := 0, graceUsed := false, everBuckled := decide (belt = .buckled) })
        ∧ (s.vehicle.ignition = .on → t.vehicle.ignition ≠ .on → ¬ tripEnd → r' = { r with
            level := .quiet, graceTimer := .stopped, escalation := .stopped, chimeTimer := .stopped
            slowTimer := .stopped })
        ∧ (s.vehicle.ignition ≠ .on → t.vehicle.ignition = .on → r.level = .quiet →
            r' = r.evaluate { conf := s.config.running, atSpeed := t.atSpeed, ignitionOn := true } belt)
        ∧ (s.vehicle.ignition ≠ .on → t.vehicle.ignition ≠ .on → ¬ tripEnd → r.level = .quiet → r' = r)
        ∧ (s.vehicle.ignition = .on → t.vehicle.ignition = .on →
          (s.atSpeed = t.atSpeed → r' = r)
          ∧ (s.atSpeed = false → t.atSpeed = true →
            (r.level = .quiet ∨ r.level = .spent → r' = r)
            ∧ (r.level = .level2 → r' = { r with slowTimer := .stopped })
            ∧ (r.level = .grace ∨ r.level = .level1 →
              (0 < s.config.running.tL1 → r' = { r with
                level := .level1, graceUsed := r.graceUsed || decide (r.level = .grace), graceTimer := .stopped
                escalation := .running 0, chimeTimer := .stopped, slowTimer := .stopped })
              ∧ (s.config.running.tL1 = 0 → ¬ limit → r' = { r with
                level := .level2, graceUsed := r.graceUsed || decide (r.level = .grace), graceTimer := .stopped
                escalation := .stopped, chimeTimer := .running 0, slowTimer := .stopped })
              ∧ (s.config.running.tL1 = 0 → limit → r' = { r with
                level := .spent, graceUsed := r.graceUsed || decide (r.level = .grace), graceTimer := .stopped
                escalation := .stopped, chimeTimer := .stopped, slowTimer := .stopped })))
          ∧ (s.atSpeed = true → t.atSpeed = false →
            (r.level = .quiet ∨ r.level = .grace ∨ r.level = .spent → r' = r)
            ∧ (r.level = .level1 → r' = { r with escalation := .stopped })
            ∧ (r.level = .level2 → r' = { r with slowTimer := .running 0 })))

/-- R102, R139: the end of a half period toggles the phase of a flashing lamp or tell-tale and restarts its time, and
touches nothing else; before it, as after a pattern that changed first, nothing toggles. What the lamps show once they
follow the levels. -/
def Obligations.LampsFollowLevels : Prop :=
  ∀ s : State,
    (s.powered = true → ∀ p,
      (∀ on ms, s.lamps.get p = .flashing on ms →
        (250 ≤ ms → exec (.lampFlashToggle p) s = .next { s with lamps := s.lamps.set p (.flashing (!on) 0) })
        ∧ (ms < 250 → exec (.lampFlashToggle p) s = .next s))
      ∧ (s.lamps.get p = .steady ∨ s.lamps.get p = .off → exec (.lampFlashToggle p) s = .next s))
    ∧ (s.powered = true → ∀ half, (s.duty.pattern = .flash ∧ half = 500) ∨ (s.duty.pattern = .degraded ∧ half = 125) →
      (half ≤ s.duty.ttMs →
        exec .tellTaleFlashToggle s = .next { s with duty := { s.duty with ttOn := !s.duty.ttOn, ttMs := 0 } })
      ∧ (s.duty.ttMs < half → exec .tellTaleFlashToggle s = .next s))
    ∧ (s.duty.pattern = .steady ∨ s.duty.pattern = .off → exec .tellTaleFlashToggle s = .next s)
    ∧ s.refreshLamps = { s with lamps := s.refreshLamps.lamps }
    ∧ (s.modeCtl.mode ≠ .active → s.refreshLamps.lamps = Four.const .off)
    ∧ (s.modeCtl.mode = .active → ∀ p,
      ((s.table.seats.get p).level = .quiet → s.refreshLamps.lamps.get p = .off)
      ∧ ((s.table.seats.get p).level = .grace ∨ (s.table.seats.get p).level = .level1
          ∨ (s.table.seats.get p).level = .spent → s.refreshLamps.lamps.get p = .steady)
      ∧ ((s.table.seats.get p).level = .level2 → s.lamps.get p = .off ∨ s.lamps.get p = .steady →
          s.refreshLamps.lamps.get p = .flashing true 0)
      ∧ (∀ on ms, (s.table.seats.get p).level = .level2 → s.lamps.get p = .flashing on ms →
          s.refreshLamps.lamps.get p = .flashing on ms))

/-! ### Departure List and claims -/

/-- R109 to R112: a handled DEPART of another station joins by its tag: discarded where the tag is held or in SERVICE,
in place of a listed entry, at the tail, or at the tail after the oldest is evicted. An expiry removes the entry whose age
has reached T_move; one below it, as after a replacement taken first, stays. R109, R170: how the fields of a DEPART form the entry, and the frames that are discarded: a tag of station 0 or 13 to 15, a
class that is no occupant class, and a serial marked present with serial 0 or tag type 0. -/
def Obligations.DepartureListMoves : Prop :=
  (∀ (s : State) (f : RxFrame) (e : DepEntry), s.Handles f → f.kind = .depart →
    (s.modeCtl.mode = .service → exec .departHandled s = .next (s.takeFrame f))
    ∧ (s.modeCtl.mode ≠ .service → entryOfDepart f.payload = none →
        exec .departHandled s = .next (s.takeFrame f))
    ∧ (s.modeCtl.mode ≠ .service → entryOfDepart f.payload = some e →
      (e.tag ∈ s.heldTags → exec .departHandled s = .next (s.takeFrame f))
      ∧ (e.tag ∉ s.heldTags → e.tag ∈ s.departures.map DepEntry.tag →
        exec .departHandled s = .next
          { s.takeFrame f with departures := s.departures.map fun d => if d.tag = e.tag then e else d })
      ∧ (e.tag ∉ s.heldTags → e.tag ∉ s.departures.map DepEntry.tag → s.departures.length < 8 →
        exec .departHandled s = .next { s.takeFrame f with departures := s.departures ++ [e] })
      ∧ (e.tag ∉ s.heldTags → e.tag ∉ s.departures.map DepEntry.tag → 8 ≤ s.departures.length →
        exec .departHandled s = .next
          { s.takeFrame f with
            departures := s.departures.tail ++ [e]
            diag := { s.diag with counters := { s.diag.counters with
              listEvict := if s.diag.counters.listEvict < 65535 then s.diag.counters.listEvict + 1 else 65535 } } })))
  ∧ (∀ (s : State) (tag : DepTag), s.powered = true → s.modeCtl.mode = .active ∨ s.modeCtl.mode = .watch →
      ((∃ e ∈ s.departures, e.tag = tag ∧ 1000 * s.config.running.tMove ≤ e.ageMs) →
        exec (.departureEntryExpiry tag) s
          = .next { s with departures := s.departures.filter fun e => decide (e.tag ≠ tag) })
      ∧ ((∀ e ∈ s.departures, e.tag = tag → e.ageMs < 1000 * s.config.running.tMove) →
        exec (.departureEntryExpiry tag) s = .next s))
  ∧ (∀ b0 b1 : Byte, (tagOfBytes b0 b1).station.toNat = b0.toNat / 16 ∧ (tagOfBytes b0 b1).pos.val = b0.toNat / 4 % 4
      ∧ (tagOfBytes b0 b1).seq.toNat = b0.toNat % 4 * 256 + b1.toNat)
  ∧ ∀ (payload : List Byte) (tag : DepTag) (flags : Byte) (code type serial : Nat),
      tag = tagOfBytes (byteAt payload 0) (byteAt payload 1) → flags = byteAt payload 2 → code = flags.toNat / 16 →
      type = flags.toNat % 4 → serial = (byteAt payload 4).toNat * 256 + (byteAt payload 5).toNat →
      (tag.station.toNat = 0 ∨ 13 ≤ tag.station.toNat → entryOfDepart payload = none)
      ∧ (code < 4 ∨ code = 8 ∨ 9 < code → entryOfDepart payload = none)
      ∧ (flags.getLsbD 2 = true → serial = 0 ∨ type = 0 → entryOfDepart payload = none)
      ∧ ∀ cls : Cls, 1 ≤ tag.station.toNat → tag.station.toNat ≤ 12 →
        (cls, code) ∈ [(Cls.small, 4), (Cls.adult, 5), (Cls.unsized, 6), (Cls.unknown, 7), (Cls.csOccupied, 9)] →
        (flags.getLsbD 2 = false →
          entryOfDepart payload = some
            { tag, cls, wasBelted := flags.getLsbD 3, chime := min (byteAt payload 3).toNat 180, child := none
              ageMs := 0 })
        ∧ ∀ kind : TagType, flags.getLsbD 2 = true → serial ≠ 0 →
          (kind, type) ∈ [(TagType.infantRear, 1), (TagType.childForward, 2), (TagType.booster, 3)] →
          entryOfDepart payload = some
            { tag, cls, wasBelted := flags.getLsbD 3, chime := min (byteAt payload 3).toNat 180
              child := some { serial := BitVec.ofNat 16 serial, type := kind }, ageMs := 0 }

/-- R117, R99, R100: the own CLAIM leaves the self slot. A void one changes nothing else. With the ignition ON the
record it was made for becomes MOVED, takes the greater chime time within the limit, the belt history and grace-used,
and its level and its ladder timers go by the table; otherwise it is UNTRACED or BOARDED by the speed, and applies nothing. -/
def Obligations.OwnClaimSettles : Prop :=
  ∀ (s : State) (c : SelfClaim), s.powered = true → s.sweep.flight = none → s.modeCtl.mode ≠ .standby →
    s.link.nextHandled = some (.own c) →
    (c.claim.voided = true →
      exec .ownClaimHandled s = .next { s with link := { s.link with selfSlot := none } })
    ∧ ∀ (p : Pos) (r : Record) (e : DepEntry), c.claim.voided = false → s.recordAt p = some r →
        r.id = c.claim.id → r.origin = .claiming e → e.tag = c.claim.tag →
        (∀ q r', s.recordAt q = some r' → r'.id = c.claim.id → q = p) →
      (s.vehicle.ignition = .on →
        ∃ (u : State) (r' : Record), exec .ownClaimHandled s = .next u
          ∧ u = ({ s with
              link := { s.link with selfSlot := none }
              departures := s.departures.filter fun d => decide (d.tag ≠ e.tag)
              diag := { s.diag with counters := { s.diag.counters with
                claimsWon := if s.diag.counters.claimsWon < 65535 then s.diag.counters.claimsWon + 1 else 65535 } } }.putRecord
              p r').refreshLamps
          ∧ r'.origin = .moved e.tag ∧ r'.chimeUsed = min (max r.chimeUsed e.chime) s.config.running.chimeLimit
          ∧ r'.everBuckled = (r.everBuckled || e.wasBelted) ∧ r'.graceUsed = true
          ∧ r'.level = (match r.level with
              | .quiet => .quiet
              | .spent => .spent
              | .level2 => if s.config.running.chimeLimit ≤ r'.chimeUsed then .spent else .level2
              | .grace | .level1 =>
                if s.atSpeed = false then .level1
                else if s.config.running.chimeLimit ≤ r'.chimeUsed then .spent else .level2)
          ∧ (r.level = .quiet ∨ r.level = .spent ∨ (r.level = .level1 ∧ s.atSpeed = false)
              ∨ (r.level = .level2 ∧ r'.level = .level2) →
            r'.graceTimer = r.graceTimer ∧ r'.escalation = r.escalation ∧ r'.chimeTimer = r.chimeTimer
              ∧ r'.slowTimer = r.slowTimer)
          ∧ (r.level = .grace ∨ (r.level = .level1 ∧ s.atSpeed = true) ∨ (r.level = .level2 ∧ r'.level = .spent) →
            r'.graceTimer = .stopped ∧ r'.escalation = .stopped ∧ r'.slowTimer = .stopped
              ∧ r'.chimeTimer = if r'.level = .level2 then .running 0 else .stopped)
          ∧ r'.seatedMs = r.seatedMs ∧ r'.id = r.id ∧ r'.cls = r.cls ∧ r'.kind = r.kind ∧ r'.tag = r.tag ∧ r'.alert = r.alert
          ∧ r'.seated = r.seated ∧ r'.buckledRun = r.buckledRun)
      ∧ (s.vehicle.ignition ≠ .on →
        exec .ownClaimHandled s = .next ({ s with link := { s.link with selfSlot := none } }.putRecord p
          { r with origin := if s.atSpeed then .untraced else .boarded }))

/-- R118, R119: a handled CLAIM of another station takes its tag off the list. Where no record holds the tag and none
was listed it counts as unmatched; a MOVED record of that tag stands; a record whose pending claim it is yields: one count
more, its own CLAIM withdrawn or voided, and the match is run again: the oldest entry that matches leaves the list with a
new CLAIM offered, or with none the origin goes by the speed. The yielded tag is no longer listed, and nothing else of the
record moves. How two bytes spell a tag is stated in DepartureListMoves. -/
def Obligations.PeerClaimTakesTag : Prop :=
  ∀ (s : State) (f : RxFrame) (tag : DepTag), s.Handles f → f.kind = .claim →
    tag = tagOfBytes (byteAt f.payload 0) (byteAt f.payload 1) →
    (s.modeCtl.mode = .service → exec .claimHandled s = .next (s.takeFrame f))
    ∧ (s.modeCtl.mode ≠ .service → tag ∉ s.heldTags → tag ∈ s.departures.map DepEntry.tag →
        exec .claimHandled s = .next
          { s.takeFrame f with departures := s.departures.filter fun d => decide (d.tag ≠ tag) })
    ∧ (s.modeCtl.mode ≠ .service → tag ∉ s.heldTags → tag ∉ s.departures.map DepEntry.tag →
        exec .claimHandled s = .next
          { s.takeFrame f with diag := { s.diag with counters := { s.diag.counters with
              claimUnmatched :=
                if s.diag.counters.claimUnmatched < 65535 then s.diag.counters.claimUnmatched + 1 else 65535 } } })
    ∧ (s.modeCtl.mode ≠ .service → (∃ p r, s.recordAt p = some r ∧ r.origin = .moved tag) →
        (∀ p r d, s.recordAt p = some r → r.origin = .claiming d → d.tag ≠ tag) →
        tag ∉ s.departures.map DepEntry.tag → exec .claimHandled s = .next (s.takeFrame f))
    ∧ ∀ (p : Pos) (r : Record) (d : DepEntry), s.modeCtl.mode ≠ .service → s.recordAt p = some r →
        r.origin = .claiming d → d.tag = tag →
        (∀ q r' d', s.recordAt q = some r' → r'.origin = .claiming d' → d'.tag = tag → q = p) →
        ∃ u v : State, exec .claimHandled s = .next u ∧ v.Searched u p r
          ∧ v = { s.takeFrame f with
              link := (s.takeFrame f).link.claimsEnded r.owns
              departures := s.departures.filter fun e => decide (e.tag ≠ tag)
              diag := { s.diag with counters := { s.diag.counters with
                claimsYielded :=
                  if s.diag.counters.claimsYielded < 65535 then s.diag.counters.claimsYielded + 1 else 65535 } } }

/-! ### Duty -/

/-- R131, R132, R136: a slot heard 1000 ms ago falls SILENT with its row as it stands, and at 6000 ms LOST with its row
emptied; below its limit, as after a frame taken first, nothing changes. A handled ROW_RELEASE makes the slot RELEASED,
its time kept, and at a station holding duty empties the row; one of a number with no slot (0, 14, 15) only leaves the
queue (R129). The outputs follow each change. -/
def Obligations.RosterSlotsMove : Prop :=
  (∀ (s : State) (n : StationNo), s.powered = true → s.modeCtl.mode ≠ .standby → 1 ≤ n.toNat → n.toNat ≤ 13 →
    n ≠ s.station →
    ((s.duty.slot n).state = .live →
      (1000 ≤ (s.duty.slot n).ms →
        exec (.rosterSilent n) s = .next
          { s with duty := s.duty.setSlot n { state := .silent, ms := (s.duty.slot n).ms } }.refreshDuty)
      ∧ ((s.duty.slot n).ms < 1000 → exec (.rosterSilent n) s = .next s))
    ∧ ((s.duty.slot n).state = .silent →
      (6000 ≤ (s.duty.slot n).ms →
        exec (.rosterLost n) s = .next
          { s with duty :=
              (s.duty.setSlot n { state := .lost, ms := (s.duty.slot n).ms }).setRow n .empty }.refreshDuty)
      ∧ ((s.duty.slot n).ms < 6000 → exec (.rosterLost n) s = .next s)))
  ∧ (∀ (s : State) (f : RxFrame), s.Handles f → f.kind = .rowRelease → 1 ≤ f.station.toNat → f.station.toNat ≤ 13 →
      f.station ≠ s.station →
      (s.holdsDuty = true →
        exec .rowReleaseHandled s = .next
          { s.takeFrame f with duty :=
              (s.duty.setSlot f.station { state := .released, ms := (s.duty.slot f.station).ms }).setRow f.station .empty
            }.refreshDuty)
      ∧ (s.holdsDuty = false →
        exec .rowReleaseHandled s = .next
          { s.takeFrame f with duty :=
              (s.duty.setSlot f.station { state := .released, ms := (s.duty.slot f.station).ms }) }.refreshDuty))
  ∧ ∀ (s : State) (f : RxFrame), s.Handles f → f.kind = .rowRelease → f.station.toNat = 0 ∨ 14 ≤ f.station.toNat →
      exec .rowReleaseHandled s = .next (s.takeFrame f)

/-- R128, R134: at a station holding duty a handled STATE of a lower station with DUTY set makes it yield: flag set,
view emptied, TT off, CHM released. Any other STATE of a station 1 to 12 in ACTIVE or WATCH fills the row of its
station, unless the slot is RELEASED: UNLATCHED from bit 4 of the flags, each position byte with defined codes into its
slot, the other slots as before. Otherwise the frame changes nothing. -/
def Obligations.PeerStateFillsOrYields : Prop :=
  ∀ (s : State) (f : RxFrame), s.Handles f → f.kind = .state → 1 ≤ f.station.toNat → f.station.toNat ≤ 12 →
    f.station ≠ s.station →
    (s.holdsDuty = true → (byteAt f.payload 5).getLsbD 3 = true → f.station.toNat < s.station.toNat →
      ∃ t, exec .stateHandled s = .next t ∧ t.duty.yielded = true ∧ t.holdsDuty = false
        ∧ t.duty.view = List.replicate 12 .empty ∧ t.duty.pattern = .off ∧ t.duty.chime = false
        ∧ t.duty.roster = s.duty.roster ∧ t = { s.takeFrame f with duty := t.duty })
    ∧ (s.holdsDuty = true → ¬ ((byteAt f.payload 5).getLsbD 3 = true ∧ f.station.toNat < s.station.toNat) →
      s.modeCtl.mode = .active ∨ s.modeCtl.mode = .watch → (s.duty.slot f.station).state ≠ .released →
      ∃ slots : Four ViewSlot,
        exec .stateHandled s = .next
          { s.takeFrame f with duty :=
              (s.duty.setRow f.station (.filled ((byteAt f.payload 5).getLsbD 4) slots)) }.refreshDuty
        ∧ ∀ p : Pos,
          (∀ cls level, Cls.ofCode ((byteAt f.payload p.val).toNat / 16) = some cls →
            Level.ofCode ((byteAt f.payload p.val).toNat / 2 % 8) = some level → slots.get p = ⟨cls, level⟩)
          ∧ (Cls.ofCode ((byteAt f.payload p.val).toNat / 16) = none
              ∨ Level.ofCode ((byteAt f.payload p.val).toNat / 2 % 8) = none →
            (s.duty.row f.station = .empty → slots.get p = ⟨.unscanned, .quiet⟩)
            ∧ ∀ u before, s.duty.row f.station = .filled u before → slots.get p = before.get p))
    ∧ (s.holdsDuty = false ∨ (¬ ((byteAt f.payload 5).getLsbD 3 = true ∧ f.station.toNat < s.station.toNat)
        ∧ (s.modeCtl.mode = .service ∨ (s.duty.slot f.station).state = .released)) →
      exec .stateHandled s = .next (s.takeFrame f))

/-- R137 to R140: once the outputs have been worked out again, the pattern is the first that applies and the chime
request is on exactly at a LEVEL_2 in view; all is off unless the station holds duty in ACTIVE with the ignition ON. A
new pattern begins with its on phase, and one that stays keeps its phase. -/
def Obligations.TellTaleAndChime : Prop :=
  ∀ s : State,
    (s.holdsDuty = false ∨ s.modeCtl.mode ≠ .active ∨ s.vehicle.ignition ≠ .on →
      s.refreshDuty.duty.pattern = .off ∧ s.refreshDuty.duty.chime = false)
    ∧ (s.holdsDuty = true → s.modeCtl.mode = .active → s.vehicle.ignition = .on →
      (s.duty.Holds .level2 → s.refreshDuty.duty.pattern = .flash ∧ s.refreshDuty.duty.chime = true)
      ∧ (¬ s.duty.Holds .level2 →
        s.refreshDuty.duty.chime = false
        ∧ ((∃ slot ∈ s.duty.roster, slot.state = .silent ∨ slot.state = .lost)
            ∨ (∃ slots, ViewRow.filled true slots ∈ s.duty.view) ∨ s.table.unlatched = true
            ∨ s.vehicle.fresh = false → s.refreshDuty.duty.pattern = .degraded)
        ∧ ((∀ slot ∈ s.duty.roster, slot.state ≠ .silent ∧ slot.state ≠ .lost) →
            (∀ slots, ViewRow.filled true slots ∉ s.duty.view) → s.table.unlatched = false →
            s.vehicle.fresh = true →
            (s.duty.Holds .grace ∨ s.duty.Holds .level1 ∨ s.duty.Holds .spent →
              s.refreshDuty.duty.pattern = .steady)
            ∧ (¬ s.duty.Holds .grace → ¬ s.duty.Holds .level1 → ¬ s.duty.Holds .spent →
              s.refreshDuty.duty.pattern = .off))))
    ∧ (s.refreshDuty.duty.pattern ≠ s.duty.pattern →
      (s.refreshDuty.duty.ttOn = true ↔ s.refreshDuty.duty.pattern ≠ .off) ∧ s.refreshDuty.duty.ttMs = 0)
    ∧ (s.refreshDuty.duty.pattern = s.duty.pattern →
      s.refreshDuty.duty.ttOn = s.duty.ttOn ∧ s.refreshDuty.duty.ttMs = s.duty.ttMs)

/-! ### Row link -/

/-- R171, R161, R158, R166: the RESTARTED hold at 2 s, the EVENT_LOSS hold at 10 s and the stuck hold at 50 ms recessive
end, and so does the fence at 1000 ms, with the mismatch run at 0; below the limit, as after an event that restarts the
hold first, nothing changes. A line stuck dominant is a hard LINE_STUCK and starts the stuck hold, whose recessive time
waits while the line is held. -/
def Obligations.HoldsRunOut : Prop :=
  ∀ s : State, s.powered = true →
    (s.emission.restarted.Reached 2000 →
      exec .restartedHoldExpiry s = .next { s with emission := { s.emission with restarted := .stopped } })
    ∧ (¬ s.emission.restarted.Reached 2000 → exec .restartedHoldExpiry s = .next s)
    ∧ (s.link.eventLoss.Reached 10000 →
      exec .eventLossHoldExpiry s = .next { s with link := { s.link with eventLoss := .stopped } })
    ∧ (¬ s.link.eventLoss.Reached 10000 → exec .eventLossHoldExpiry s = .next s)
    ∧ (s.link.stuck.Reached 50 → s.link.lineHeld = false →
      exec .stuckHoldEnd s = .next { s with link := { s.link with stuck := .stopped } })
    ∧ (¬ s.link.stuck.Reached 50 ∨ s.link.lineHeld = true → exec .stuckHoldEnd s = .next s)
    ∧ (s.link.fence.Reached 1000 →
      exec .fenceEnd s = .next { s with link := { s.link with fence := .stopped, mismatchRun := 0 } })
    ∧ (¬ s.link.fence.Reached 1000 → exec .fenceEnd s = .next s)
    ∧ (s.link.drive ≠ .wakePulse →
      exec .lineStuck s = .next
        { s with
          link := { s.link with stuck := .running 0, lineHeld := true }
          diag := (s.diag.reportLink
            { kind := .lineStuck, severity := .hard, header := 0, first := 0, second := 0, stamp := s.sweep.count }) })

/-- R156, R157, R194, R197: what a classed pulse does, by its length in microseconds and the mode; a HALT that drops a
pending cause keeps the references of the standby watch and clears what had differed. The model's choices: the dominant's
end restarts the recessive time of a stuck hold (log entry 22); a WAKE in ACTIVE closes the window before the
idle timer restarts, so that no refusal is tested (log entry 9), and in SERVICE leaves an open window open (log entry
14). -/
def Obligations.PulseLengthsClassed : Prop :=
  ∀ (s u : State) (length : Nat) (pins : BitVec 5), s.powered = true → s.link.drive ≠ .wakePulse →
    u = { s with link := { s.link with stuck := s.link.stuck.restart, lineHeld := false } } →
    ((38 < length ∧ length < 1000) ∨ (2000 < length ∧ length < 4000) ∨ (6000 < length ∧ length ≤ 10000) →
      exec (.pulseEnd length pins) s = .next
        { u with diag := (u.diag.reportLink
            { kind := .form, severity := .soft, header := 0, first := 0, second := 0, stamp := s.sweep.count }) })
    ∧ (10000 < length → exec (.pulseEnd length pins) s = .next u)
    ∧ (1000 ≤ length → length ≤ 2000 →
      ∃ t, exec (.pulseEnd length pins) s = .next t
        ∧ (s.modeCtl.mode = .service → t = u)
        ∧ (s.modeCtl.mode = .active →
            t = { u with modeCtl := { s.modeCtl with window := none, idle := s.modeCtl.idle.restart } })
        ∧ (s.modeCtl.mode = .watch →
            t.modeCtl.mode = .active ∧ t.modeCtl.watch = .stopped ∧ t.modeCtl.vacantRun = 0
              ∧ t.modeCtl.leftBehindMs = s.modeCtl.leftBehindMs
              ∧ t = { u with
                  modeCtl := t.modeCtl, sweep := t.sweep, emission := t.emission, lamps := t.lamps, duty := t.duty }
              ∧ t.sweep = { s.sweep with period := .running 0 }
              ∧ t.emission.lastPlaced = none
              ∧ (s.vehicle.ignition ≠ .on → t.modeCtl.idle = .running 0 ∧ t.modeCtl.alone = .running 0)
              ∧ (s.vehicle.ignition = .on → t.modeCtl.idle = .stopped ∧ t.modeCtl.alone = .stopped))
        ∧ (s.modeCtl.mode = .standby →
            t.modeCtl.mode = .active ∧ t.modeCtl.idle = .running 0 ∧ t.modeCtl.alone = .running 0
              ∧ t.modeCtl.window = none ∧ t.modeCtl.leftBehindMs = 0 ∧ t.straps = pins ∧ t.departures = []
              ∧ t.link.rxq = [] ∧ t.link.txq = [] ∧ t.link.selfSlot = none ∧ t.link.lineSeq = 0
              ∧ t.link.stationClash = false ∧ t.duty.yielded = false ∧ (∀ p, t.recordAt p = none)
              ∧ t.table.departureSeq = 0 ∧ t.sfe.latch = none ∧ t.sfe.watch = none
              ∧ (∀ p, (t.classes.get p).b16 = (s.classes.get p).b16
                  ∧ (t.classes.get p).pb16 = (s.classes.get p).pb16 ∧ (t.classes.get p).lf = 0)
              ∧ t.config = s.config ∧ t.diag = s.diag ∧ t.emission.restarted = .running 0
              ∧ t.sweep.pointer = 0 ∧ t.sweep.count = s.sweep.count ∧ t.canStartSweep = true
              ∧ t.vehicle = { ignition := .off, speed := 0, fresh := false, ageMs := 2000, trip := false }))
    ∧ (4000 ≤ length → length ≤ 6000 →
      ∃ t, exec (.pulseEnd length pins) s = .next t
        ∧ (s.modeCtl.mode = .active ∨ s.modeCtl.mode = .watch →
            u.EntersStandby t ∧ t.link.rxq = [] ∧ t.link.txq = [] ∧ t.link.selfSlot = none ∧ t.link.lineSeq = 0)
        ∧ (s.modeCtl.mode = .standby →
            t = { u with
                sfe := { s.sfe with watch := t.sfe.watch }
                modeCtl := { s.modeCtl with wakeCause := false }
                link := { u.link with wakePending := false } }
              ∧ (s.modeCtl.wakeCause = false → t.sfe.watch = s.sfe.watch)
              ∧ (s.modeCtl.wakeCause = true → MarksCleared s.sfe.watch t.sfe.watch))
        ∧ (s.modeCtl.mode = .service → s.diag.commit = .stopped →
            t.modeCtl.mode = .standby ∧ t.config = { s.config with running := s.config.working }
              ∧ t.link.rxq = [] ∧ t.link.txq = [] ∧ t.link.selfSlot = none ∧ t.link.lineSeq = 0
              ∧ ∀ p, (t.classes.get p).b16 = (s.config.working.zero.get p : Int) * 16)
        ∧ (s.modeCtl.mode = .service → s.diag.commit ≠ .stopped →
            t = { u with diag := { s.diag with haltWaiting := true } }))

/-- R148: on an idle line the eligible frame of lowest kind starts, of several of that kind the one placed first; with
none eligible nothing starts. None starts at invalid straps, during a fence or a stuck hold, with a WAKE pulse pending, in
WATCH or STANDBY, or while something is being sent (R158, R166, R167). -/
def Obligations.FrameStartTakesLowestKind : Prop :=
  ∀ s : State, (¬ s.MaySend → exec .frameTxStart s = .next s) ∧ (s.MaySend →
    (∀ before e after, s.link.txq = before ++ e :: after → s.link.Eligible e →
      (∀ x ∈ before, s.link.Eligible x → e.kind.code < x.kind.code) →
      (∀ x ∈ after, s.link.Eligible x → e.kind.code ≤ x.kind.code) →
      exec .frameTxStart s = .next
        { s with link := { s.link with
            txq := before ++ { e with sending := true } :: after
            drive := .frame (frameBytes (headerByte e.kind s.station) e.payload) } })
    ∧ ((∀ x ∈ s.link.txq, ¬ s.link.Eligible x) → exec .frameTxStart s = .next s))

/-- R149, R121: a frame that lost arbitration waits again, and ARB_LOSS counts; that a STATE given newer content waits
with it is the model's choice (log entry 13). A CLAIM with its void mark set is removed. R150, R164, R166, R120, R183: a
mismatch discards the frame being sent, reports a soft BIT_MISMATCH and advances the mismatch run; the eighth starts the
fence with a hard FENCE_ENTRY. A STATE given newer content stays, waiting, with it. A lost SLEEP_PROPOSE restarts the idle
timer, and only a SLEEP_REFUSE may join (where it is refused the restart stands, log entry 16). A CLAIM not void yields its record: one count more, and the match is run again
from the link without that CLAIM (R119); a void one does nothing more. -/
def Obligations.TransmissionsCutOff : Prop :=
  (∀ (s : State) (before : List TxEntry) (e : TxEntry) (after : List TxEntry), s.Sends before e after →
    ((∀ k, e.claim = some k → k.voided = false) →
      exec .arbitrationLost s = .next
        { s with
          link := { s.link with
            txq := before ++ { e with sending := false, newer := none, payload := e.newer.getD e.payload } :: after
            drive := .released }
          diag := { s.diag with counters := { s.diag.counters with
            arbLoss := if s.diag.counters.arbLoss < 65535 then s.diag.counters.arbLoss + 1 else 65535 } } })
    ∧ ∀ k, e.claim = some k → k.voided = true →
      exec .arbitrationLost s = .next
        { s with
          link := { s.link with txq := before ++ after, drive := .released }
          diag := { s.diag with counters := { s.diag.counters with
            arbLoss := if s.diag.counters.arbLoss < 65535 then s.diag.counters.arbLoss + 1 else 65535 } } })
  ∧ (∀ (s : State) (before : List TxEntry) (e : TxEntry) (after : List TxEntry) (rep : LinkReport),
    s.Sends before e after →
    rep = { kind := .bitMismatch, severity := .soft, header := headerByte e.kind s.station
            first := byteAt e.payload 0, second := byteAt e.payload 1, stamp := s.sweep.count } →
    ∃ t, exec .bitMismatch s = .next t
      ∧ t = { s with
          link := t.link, diag := t.diag, table := t.table, modeCtl := t.modeCtl, departures := t.departures }
      ∧ t.link.drive = .released ∧ t.link.lineSeq = s.link.lineSeq ∧ t.link.selfSlot = s.link.selfSlot
      ∧ t.link.rxq = s.link.rxq ∧ t.link.mismatchRun = min (s.link.mismatchRun + 1) 8
      ∧ (s.link.mismatchRun + 1 < 8 →
          t.link.fence = s.link.fence ∧ t.diag.link = s.diag.link.apply .soft rep)
      ∧ (8 ≤ s.link.mismatchRun + 1 →
          t.link.fence = .running 0
            ∧ t.diag.link
              = (s.diag.link.apply .soft rep).apply .hard { rep with kind := .fenceEntry, severity := .hard })
      ∧ (e.newer = none → e.kind ≠ .sleepPropose → (∀ k, e.kind = .claim → e.claim = some k → k.voided = true) →
          t.link.txq = before ++ after ∧ t.table = s.table ∧ t.modeCtl = s.modeCtl ∧ t.departures = s.departures)
      ∧ (∀ newer, e.kind = .state → e.newer = some newer →
          t.link.txq = before ++ { e with sending := false, newer := none, payload := newer } :: after)
      ∧ (e.kind = .sleepPropose → t.modeCtl.idle = s.modeCtl.idle.restart ∧ t.table = s.table
          ∧ t.departures = s.departures
          ∧ (e.newer = none → (∀ x ∈ t.link.txq, x ∈ before ++ after ∨ x.kind = .sleepRefuse)
            ∧ (s.modeCtl.window = none → t.link.txq = before ++ after)))
      ∧ ∀ k p r d, e.kind = .claim → e.claim = some k → k.voided = false → s.recordAt p = some r → r.id = k.id →
          r.origin = .claiming d → d.tag = k.tag →
          (∀ q r', s.recordAt q = some r' → r'.id = k.id → q = p) →
          ∃ v : State, v.Searched t p r ∧ v = { s with link := v.link, diag := v.diag }
            ∧ (e.newer = none → v.link.txq = before ++ after)
            ∧ v.diag.counters.claimsYielded
              = if s.diag.counters.claimsYielded < 65535 then s.diag.counters.claimsYielded + 1 else 65535)

/-- R151, R162, R164, R184, R193: a sent frame leaves the queue and takes the next line sequence number; the mismatch
run returns to 0; FRAMES_SENT counts, and an echo sampled recessive counts and is reported. A CLAIM goes to the self slot
with its number; a SLEEP_PROPOSE opens the window, refused here at once where a reason holds, with its SLEEP_REFUSE
offered; the ALERT of count 60 ends its alert, and that alert's waiting ALERTs leave. The model's choices: that the mark
is set and the idle timer restarts also where the queue or invalid straps refuse the SLEEP_REFUSE (log entry 16), and that
a sent ALERT of count 60 ends only an alert whose own count is 60 (log entry 30). -/
def Obligations.SentFrameIsNumbered : Prop :=
  ∀ (s : State) (before : List TxEntry) (e : TxEntry) (after : List TxEntry) (echoed : Bool),
    s.Sends before e after →
    ∃ t, exec (.frameSent echoed) s = .next t
      ∧ t.link.lineSeq = s.link.lineSeq + 1 ∧ t.link.mismatchRun = 0 ∧ t.link.drive = .released
      ∧ t = { s with link := t.link, diag := t.diag, table := t.table, modeCtl := t.modeCtl }
      ∧ t.link.rxq = s.link.rxq ∧ t.link.fence = s.link.fence
      ∧ t.diag.counters.framesSent
          = (if s.diag.counters.framesSent < 65535 then s.diag.counters.framesSent + 1 else 65535)
      ∧ (echoed = true → t.diag.link = s.diag.link ∧ t.diag.counters.echoMissing = s.diag.counters.echoMissing)
      ∧ (echoed = false →
          t.diag.link = s.diag.link.apply .soft
              { kind := .echoMissing, severity := .soft, header := headerByte e.kind s.station
                first := byteAt e.payload 0, second := byteAt e.payload 1, stamp := s.sweep.count }
            ∧ t.diag.counters.echoMissing
              = if s.diag.counters.echoMissing < 65535 then s.diag.counters.echoMissing + 1 else 65535)
      ∧ (∀ k, e.claim = some k → t.link.selfSlot = some { claim := k, seq := s.link.lineSeq + 1 })
      ∧ (e.claim = none → t.link.selfSlot = s.link.selfSlot)
      ∧ (e.kind ≠ .sleepPropose → e.kind ≠ .alert →
          (e.newer = none → t.link.txq = before ++ after)
          ∧ (∀ newer, e.newer = some newer →
              t.link.txq = before ++ { e with sending := false, newer := none, payload := newer } :: after)
          ∧ t.table = s.table ∧ t.modeCtl = s.modeCtl)
      ∧ (e.kind = .sleepPropose →
          ∃ q, (e.newer = none → q = before ++ after) ∧ s.ProposalHeard t q s.modeCtl ∧ t.table = s.table)
      ∧ (e.kind = .alert → t.modeCtl = s.modeCtl
          ∧ (((byteAt e.payload 1).toNat ≠ 60
              ∨ ∀ r timer, s.recordAt (alertPos e.payload) = some r → r.alert ≠ .active 60 timer) →
            t.table = s.table ∧ (e.newer = none → t.link.txq = before ++ after)))
      ∧ ∀ p cls r timer, e.kind = .alert → e.payload = alertPayload p cls 60 → s.recordAt p = some r →
          r.alert = .active 60 timer → t.recordAt p = some { r with alert := .expired }
            ∧ (e.newer = none → t.link.txq = (before ++ after).filter fun x => !x.alertsFor p)

/-- R159, R194: a pending WAKE pulse starts where neither fence nor stuck hold stands, and ends when the station
releases the line; a dominant that then goes on is classed by its whole length, a stuck line and its end included (log
entry 23). In STANDBY with a pending cause the station then wakes, with the straps read again, unless the line carried a
HALT, which drops the cause: the standby watch then keeps its references, and what had differed is cleared. -/
def Obligations.OwnWakePulse : Prop :=
  ∀ (s : State) (pins : BitVec 5), s.powered = true →
    (s.validStraps = true → s.link.wakePending = true → s.link.fence = .stopped → s.link.stuck = .stopped →
      s.link.drive = .released ∨ s.link.drive = .echo →
      exec .wakePulseSendStart s = .next { s with link := { s.link with drive := .wakePulse } })
    ∧ (s.link.drive = .wakePulse →
      (¬ (s.modeCtl.mode = .standby ∧ s.modeCtl.wakeCause = true) →
        exec (.wakePulseRelease none pins) s
          = .next { s with link := { s.link with drive := .released, wakePending := false } }
        ∧ ∀ length, 1500 < length →
          (length ≤ 10000 →
            exec (.wakePulseRelease (some length) pins) s
              = exec (.pulseEnd length pins)
                  { s with link := { s.link with drive := .released, wakePending := false } })
          ∧ (10000 < length →
            ∃ t, exec .lineStuck { s with link := { s.link with drive := .released, wakePending := false } } = .next t
              ∧ exec (.wakePulseRelease (some length) pins) s = exec (.pulseEnd length pins) t))
      ∧ (s.modeCtl.mode = .standby → s.modeCtl.wakeCause = true →
        (∃ t, exec (.wakePulseRelease none pins) s = .next t ∧ t.modeCtl.mode = .active ∧ t.straps = pins)
        ∧ ∀ length, 1500 < length →
          (length < 4000 ∨ 6000 < length →
            ∃ t, exec (.wakePulseRelease (some length) pins) s = .next t ∧ t.modeCtl.mode = .active
              ∧ t.straps = pins)
          ∧ (4000 ≤ length → length ≤ 6000 →
            ∃ t, exec (.wakePulseRelease (some length) pins) s = .next t
              ∧ t = { s with
                  sfe := { s.sfe with watch := t.sfe.watch }
                  modeCtl := { s.modeCtl with wakeCause := false }
                  link := { s.link with
                    wakePending := false, drive := .released, stuck := s.link.stuck.restart, lineHeld := false } }
              ∧ MarksCleared s.sfe.watch t.sfe.watch)))

/-- R152, R147, R130, R160, R161, R187: a frame of another station read to its end with a good check takes the next line
sequence number, is echoed but under the stuck hold, makes its station's slot LIVE and returns the alone timer to 0. It
joins the receive queue where its class has a place, counts in RX of its class and raises the high-water mark; one dropped
counts in RX_DROP, and an EVENT frame dropped starts the EVENT_LOSS hold. R183, R184: a SLEEP_PROPOSE withdraws an own
one that waits, opens the window and has the reasons tested; that the mark is set and the idle timer restarts also where
the queue or invalid straps refuse the SLEEP_REFUSE is the model's choice (log entry 16). -/
def Obligations.AcceptedFrameIsQueued : Prop :=
  ∀ (s : State) (cells : List LineCell) (echoed : Bool) (kind : FrameKind) (header : Byte) (payload : List Byte)
    (n : StationNo),
    s.powered = true → s.modeCtl.mode ≠ .standby → s.link.drive = .released ∨ s.link.drive = .echo →
    readFrame cells = .frame kind header payload (crc (header :: payload)) → n = headerStation header →
    ¬ (s.validStraps = true ∧ n = s.station) →
    ∃ t, exec (.frameReceptionEnd cells echoed) s = .next t
      ∧ t = { s with link := t.link, diag := t.diag, duty := t.duty, modeCtl := t.modeCtl }
      ∧ t.duty.view = s.duty.view ∧ t.duty.yielded = s.duty.yielded ∧ t.modeCtl.mode = s.modeCtl.mode
      ∧ t.link.fence = s.link.fence ∧ t.link.mismatchRun = s.link.mismatchRun
      ∧ (kind ≠ .sleepPropose → t.link.txq = s.link.txq
          ∧ t.modeCtl = { s.modeCtl with alone := s.modeCtl.alone.restart })
      ∧ t.link.lineSeq = s.link.lineSeq + 1 ∧ t.link.selfSlot = s.link.selfSlot
      ∧ (s.link.stuck = .stopped → t.link.drive = .echo) ∧ (s.link.stuck ≠ .stopped → t.link.drive = .released)
      ∧ t.modeCtl.alone = s.modeCtl.alone.restart
      ∧ (1 ≤ n.toNat → n.toNat ≤ 13 → n ≠ s.station →
          t.duty.roster = s.duty.roster.set (n.toNat - 1) { state := .live, ms := 0 })
      ∧ (n.toNat = 0 ∨ 13 < n.toNat → t.duty.roster = s.duty.roster)
      ∧ (kind = .sleepPropose →
          s.ProposalHeard t (s.link.txq.filter fun x => x.sending || !decide (x.kind = .sleepPropose))
            { s.modeCtl with alone := s.modeCtl.alone.restart })
      ∧ (kind = .diagReply → t.link.rxq = s.link.rxq ∧ t.link.highWater = s.link.highWater ∧ t.diag = s.diag)
      ∧ (kind = .diagQuery ∨ kind = .config →
          ¬ (s.validStraps = true ∧ n = 13 ∧ (byteAt payload 0).toNat = s.station.toNat) →
          t.link.rxq = s.link.rxq ∧ t.link.highWater = s.link.highWater ∧ t.diag = s.diag)
      ∧ ∀ (c : FrameClass) (k k' : Counters), kind.frameClass = some c → k = s.diag.counters → k' = t.diag.counters →
          (c = .service → s.validStraps = true ∧ n = 13 ∧ (byteAt payload 0).toNat = s.station.toNat) →
          t.diag.meas = s.diag.meas ∧ t.diag.link = s.diag.link
          ∧ (s.link.classCount c < 2 ∨ s.link.sharedInUse < 4 →
            t.link.rxq = s.link.rxq ++ [{ kind, station := n, payload, seq := s.link.lineSeq + 1 }]
              ∧ t.link.eventLoss = s.link.eventLoss
              ∧ t.link.highWater
                = max s.link.highWater (s.link.rxq.length + 1 + (if s.link.selfSlot = none then 0 else 1))
              ∧ k'.rxEvent = (if c = .event then min (k.rxEvent + 1) 65535 else k.rxEvent)
              ∧ k'.rxStatus = (if c = .status then min (k.rxStatus + 1) 65535 else k.rxStatus)
              ∧ k'.rxService = (if c = .service then min (k.rxService + 1) 65535 else k.rxService)
              ∧ k'.rxDropEvent = k.rxDropEvent ∧ k'.rxDropStatus = k.rxDropStatus
              ∧ k'.rxDropService = k.rxDropService)
          ∧ (2 ≤ s.link.classCount c → 4 ≤ s.link.sharedInUse →
            t.link.rxq = s.link.rxq ∧ t.link.highWater = s.link.highWater
              ∧ (c = .event → t.link.eventLoss = .running 0) ∧ (c ≠ .event → t.link.eventLoss = s.link.eventLoss)
              ∧ k'.rxEvent = k.rxEvent ∧ k'.rxStatus = k.rxStatus ∧ k'.rxService = k.rxService
              ∧ k'.rxDropEvent = (if c = .event then min (k.rxDropEvent + 1) 65535 else k.rxDropEvent)
              ∧ k'.rxDropStatus = (if c = .status then min (k.rxDropStatus + 1) 65535 else k.rxDropStatus)
              ∧ k'.rxDropService = (if c = .service then min (k.rxDropService + 1) 65535 else k.rxDropService))

/-- R153, R154, R155, R156: a bad check is CHECK_FAIL, or INCONSISTENT where the echo samples dominant; a reception that
breaks off is FORM; both leave the line sequence number. A frame cut off by a long dominant is discarded with no report.
A good frame with the own number is a STATION_CLASH: it is numbered and echoed, returns the alone timer to 0, and a
SLEEP_PROPOSE is heard as another station's (R152); no roster slot, no receive queue. In STANDBY no frame is read. The
model's choices: the falling edges restart a stuck hold's recessive time (log entry 22), and a proposal's mark is set and
the idle timer restarts also where the SLEEP_REFUSE is refused (log entry 16). -/
def Obligations.BadFramesAreReported : Prop :=
  ∀ (s u : State) (cells : List LineCell) (echoed : Bool),
    s.powered = true → s.link.drive = .released ∨ s.link.drive = .echo → cells ≠ [] →
    u = { s with link := { s.link with stuck := s.link.stuck.restart, lineHeld := false } } →
    (s.modeCtl.mode = .standby → exec (.frameReceptionEnd cells echoed) s = .next u)
    ∧ (s.modeCtl.mode ≠ .standby →
      (∀ kind header payload check, readFrame cells = .frame kind header payload check →
        check ≠ crc (header :: payload) →
        exec (.frameReceptionEnd cells echoed) s = .next
          { u with diag := (Diag.reportLink
              { s.diag with counters := { s.diag.counters with
                checkFail := if s.diag.counters.checkFail < 65535 then s.diag.counters.checkFail + 1 else 65535 } }
              { kind := if echoed then .inconsistent else .checkFail, severity := if echoed then .hard else .soft, header
                first := byteAt payload 0, second := byteAt payload 1, stamp := s.sweep.count }) })
      ∧ (∀ bytes, readFrame cells = .form bytes →
        exec (.frameReceptionEnd cells echoed) s = .next
          { u with diag := (s.diag.reportLink
              { kind := .form, severity := .soft, header := byteAt bytes 0, first := byteAt bytes 1
                second := byteAt bytes 2, stamp := s.sweep.count }) })
      ∧ (readFrame cells = .cutByPulse → exec (.frameReceptionEnd cells echoed) s = .next u)
      ∧ ∀ (kind : FrameKind) (header : Byte) (payload : List Byte) (rep : LinkReport),
          readFrame cells = .frame kind header payload (crc (header :: payload)) →
          s.validStraps = true → headerStation header = s.station →
          rep = { kind := .stationClash, severity := .hard, header, first := byteAt payload 0
                  second := byteAt payload 1, stamp := s.sweep.count } →
          ∃ t, exec (.frameReceptionEnd cells echoed) s = .next t
            ∧ t = { s with link := t.link, diag := t.diag, modeCtl := t.modeCtl }
            ∧ t.link = { u.link with
                txq := t.link.txq, stationClash := true, lineSeq := s.link.lineSeq + 1
                drive := if s.link.stuck = .stopped then .echo else .released }
            ∧ t.diag.link = s.diag.link.apply .hard rep
            ∧ (kind ≠ .sleepPropose → t.link.txq = s.link.txq ∧ t.diag = s.diag.reportLink rep
                ∧ t.modeCtl = { s.modeCtl with alone := s.modeCtl.alone.restart })
            ∧ (kind = .sleepPropose →
                s.ProposalHeard t (s.link.txq.filter fun x => x.sending || !decide (x.kind = .sleepPropose))
                  { s.modeCtl with alone := s.modeCtl.alone.restart }))

/-- R164, R165, R167: a frame offered to the transmit queue, a CLAIM with what it keeps included. At invalid straps
nothing happens. A STATE with a STATE queued replaces its content, beside it where it is being sent. With fewer than 6
entries the frame joins behind the rest. With 6, a STATE or DIAG_REPLY is refused; another frame displaces the waiting
STATE, else the first waiting DIAG_REPLY, else is refused; and TX_OVERFLOW counts. Placing a frame is offering it. -/
def Obligations.TransmitQueueTakes : Prop :=
  (∀ (s : State) (kind : FrameKind) (payload : List Byte),
    s.place kind payload = s.offerTx { kind, payload, sending := false, newer := none, claim := none })
  ∧ ∀ (s : State) (e : TxEntry) (full : Diag), e.sending = false → e.newer = none →
    full = { s.diag with counters := { s.diag.counters with
      txOverflow := if s.diag.counters.txOverflow < 65535 then s.diag.counters.txOverflow + 1 else 65535 } } →
    (s.validStraps = false → s.offerTx e = s)
    ∧ (s.validStraps = true →
      (e.kind = .state → (∃ x ∈ s.link.txq, x.kind = .state) →
        s.offerTx e = { s with link := { s.link with
          txq := (s.link.txq.map fun x =>
            if x.kind = .state then
              (if x.sending then { x with newer := some e.payload } else { x with payload := e.payload })
            else x) } })
      ∧ (e.kind ≠ .state ∨ (∀ x ∈ s.link.txq, x.kind ≠ .state) → s.link.txq.length < 6 →
        s.offerTx e = { s with link := { s.link with txq := s.link.txq ++ [e] } })
      ∧ (e.kind = .state → (∀ x ∈ s.link.txq, x.kind ≠ .state) → 6 ≤ s.link.txq.length →
        s.offerTx e = { s with diag := full })
      ∧ (e.kind = .diagReply → 6 ≤ s.link.txq.length → s.offerTx e = { s with diag := full })
      ∧ (e.kind ≠ .state → e.kind ≠ .diagReply → 6 ≤ s.link.txq.length →
        (∀ before x after, s.link.txq = before ++ x :: after → x.kind = .state → x.sending = false →
          (∀ y ∈ before, y.kind ≠ .state ∨ y.sending = true) →
          s.offerTx e = { s with link := { s.link with txq := before ++ after ++ [e] }, diag := full })
        ∧ ((∀ y ∈ s.link.txq, y.kind ≠ .state ∨ y.sending = true) →
          (∀ before x after, s.link.txq = before ++ x :: after → x.kind = .diagReply → x.sending = false →
            (∀ y ∈ before, y.kind ≠ .diagReply ∨ y.sending = true) →
            s.offerTx e = { s with link := { s.link with txq := before ++ after ++ [e] }, diag := full })
          ∧ ((∀ y ∈ s.link.txq, y.kind ≠ .diagReply ∨ y.sending = true) →
            s.offerTx e = { s with diag := full }))))

/-- R144 to R146: every frame a station can send reads back at a receiver as it was sent: kind, station, payload and a
good check byte. -/
def Obligations.FrameReadsBack : Prop :=
  ∀ (kind : FrameKind) (station : StationNo) (payload : List Byte), payload.length = kind.payloadLength →
    readFrame (frameCells (headerByte kind station) payload)
        = .frame kind (headerByte kind station) payload (crc (headerByte kind station :: payload))
      ∧ headerStation (headerByte kind station) = station
      ∧ (frameCells (headerByte kind station) payload).length = 1 + 8 * (payload.length + 2)

/-! ### Messages and vehicle data -/

/-- R174, R172: the emission timer's expiry at 200 ms places a STATE with the report as last built, in SERVICE with a
fresh one; the timer restarts and the placed-this-period mark is set, whether or not the queue takes the frame; the last
placed content is the report only where it does. Below 200 ms, as after a placing taken first, nothing happens. -/
def Obligations.EmissionTimerPlacesState : Prop :=
  ∀ (s : State) (ms : Nat) (report : List Byte), s.powered = true → s.emission.timer = .running ms →
    report = (if s.modeCtl.mode = .service then s.buildReport else s.emission.report) →
    (ms < 200 → exec .emissionTimerExpiry s = .next s)
    ∧ (200 ≤ ms → ∃ t, exec .emissionTimerExpiry s = .next t
      ∧ t = { s with emission := t.emission, link := (s.place .state report).link, diag := (s.place .state report).diag }
      ∧ t.emission.timer = .running 0 ∧ t.emission.placedMark = true ∧ t.emission.report = report
      ∧ t.emission.restarted = s.emission.restarted
      ∧ (s.validStraps = true → (s.link.txq.length < 6 ∨ ∃ x ∈ s.link.txq, x.kind = .state) →
          t.emission.lastPlaced = some report)
      ∧ (s.validStraps = false ∨ (6 ≤ s.link.txq.length ∧ ∀ x ∈ s.link.txq, x.kind ≠ .state) →
          t.emission.lastPlaced = s.emission.lastPlaced))

/-- R171, R103, R172, R135: step 5 of a completion. The report is built from the state as it stands: four position bytes,
the belt byte, the flags. In ACTIVE a STATE with it is placed where it differs from the last placed content and none was
placed this period; the mark is set and the timer restarts whether or not the queue takes it. A station holding duty fills
its own row with the classes and levels it sends, and the outputs follow. -/
def Obligations.CompletionReports : Prop :=
  (∀ s : State,
    s.buildReport.length = 6
    ∧ (∀ p : Pos,
        (byteAt s.buildReport p.val).toNat = (s.table.seats.get p).cls.code * 16
          + (s.table.seats.get p).reminderSent.1.code * 2 + (if (s.table.seats.get p).reminderSent.2 then 1 else 0)
        ∧ (∀ r, s.recordAt p = some r →
          (s.table.seats.get p).reminderSent
            = if r.kind = .none then (.quiet, false) else (r.level, decide (r.kind = .secure)))
        ∧ (s.recordAt p = none →
          (∀ l, (s.table.seats.get p).securing = some l → (s.table.seats.get p).reminderSent = (l, true))
          ∧ ((s.table.seats.get p).securing = none → (s.table.seats.get p).reminderSent = (.quiet, false)))
        ∧ (byteAt s.buildReport 4).toNat / 4 ^ (3 - p.val) % 4
          = (if (s.table.seats.get p).cls = .absent then 3 else (s.sfe.positions.get p).belt.code))
    ∧ ((byteAt s.buildReport 5).getLsbD 7 = true ↔ s.emission.restarted ≠ .stopped)
    ∧ ((byteAt s.buildReport 5).getLsbD 6 = true ↔ s.link.eventLoss ≠ .stopped)
    ∧ ((byteAt s.buildReport 5).getLsbD 5 = true ↔ s.vehicle.fresh = false ∧ s.vehicle.ignition = .on)
    ∧ ((byteAt s.buildReport 5).getLsbD 4 = true ↔ s.table.unlatched = true)
    ∧ ((byteAt s.buildReport 5).getLsbD 3 = true ↔ s.holdsDuty = true)
    ∧ ((byteAt s.buildReport 5).getLsbD 2 = true ↔ s.link.stationClash = true ∨ s.duty.yielded = true)
    ∧ ((byteAt s.buildReport 5).getLsbD 1 = true ↔ (∃ rep lost, s.diag.meas = .locked rep lost)
        ∨ (∃ rep lost, s.diag.link = .locked rep lost) ∨ s.config.defaulted = true)
    ∧ ((byteAt s.buildReport 5).getLsbD 0 = true ↔ s.modeCtl.mode = .service))
  ∧ ∀ (s u : State) (called : Prop), u = s.place .state s.buildReport →
      (called ↔ s.modeCtl.mode = .active ∧ s.emission.placedMark = false ∧ s.emission.lastPlaced ≠ some s.buildReport) →
      ∃ v : State, s.reportStep = v.refreshDuty
        ∧ v = { s with link := v.link, diag := v.diag, emission := v.emission, duty := v.duty }
        ∧ (¬ called → v.emission = { s.emission with report := s.buildReport } ∧ v.link = s.link ∧ v.diag = s.diag)
        ∧ (called → v.link = u.link ∧ v.diag = u.diag
          ∧ v.emission = { s.emission with
              report := s.buildReport, placedMark := true, timer := .running 0, lastPlaced := v.emission.lastPlaced }
          ∧ (s.validStraps = true → (s.link.txq.length < 6 ∨ ∃ x ∈ s.link.txq, x.kind = .state) →
              v.emission.lastPlaced = some s.buildReport)
          ∧ (s.validStraps = false ∨ (6 ≤ s.link.txq.length ∧ ∀ x ∈ s.link.txq, x.kind ≠ .state) →
              v.emission.lastPlaced = s.emission.lastPlaced))
        ∧ (s.holdsDuty = false → v.duty = s.duty)
        ∧ (s.holdsDuty = true → ∃ slots : Four ViewSlot,
            v.duty = { s.duty with
              view := s.duty.view.set (s.station.toNat - 1) (.filled s.table.unlatched slots) }
            ∧ ∀ p, slots.get p = ⟨(s.table.seats.get p).cls, (s.table.seats.get p).reminderSent.1⟩)

/-- R175, R113, R178, R87: a VEHICLE frame of another station than 13 only counts. One of station 13 gives its valid
ignition and speed, makes the record FRESH at age 0, sets the trip flag when the ignition becomes ON and ends it at OFF;
with the ignition gone from ON every level is QUIET. A door report or a trip end clears the Departure List. R182, R187: a
door report restarts a running idle timer, and in ACTIVE an ignition that leaves ON starts idle and alone timer. R182,
R183, R185, R190, R191: an ignition that becomes ON ends WATCH in ACTIVE, closes the window, stops idle and alone timer,
zeroes the left-behind timer and withdraws an own proposal. R193: it, or an acknowledgement, makes every ACTIVE alert
ACKNOWLEDGED and withdraws its waiting ALERTs. R184: the restart by a door report tests the reasons in an open window; that
this comes before the acknowledgement is the model's order (log entry 30), and that the mark stands where the SLEEP_REFUSE
is refused its choice (log entry 16). -/
def Obligations.VehicleFrameTaken : Prop :=
  ∀ (s : State) (f : RxFrame), s.Handles f → f.kind = .vehicle →
    (f.station ≠ 13 →
      exec .vehicleHandled s = .next
        { s.takeFrame f with diag := { s.diag with counters := { s.diag.counters with
          foreignVehicle :=
            if s.diag.counters.foreignVehicle < 65535 then s.diag.counters.foreignVehicle + 1 else 65535 } } })
    ∧ (f.station = 13 →
      ∃ (t : State) (becameOn leftOn tripEnd door acknowledged refuses : Prop) (gone : TxEntry → Bool),
        exec .vehicleHandled s = .next t
        ∧ (becameOn ↔ s.vehicle.ignition ≠ .on ∧ t.vehicle.ignition = .on)
        ∧ (leftOn ↔ s.vehicle.ignition = .on ∧ t.vehicle.ignition ≠ .on)
        ∧ (tripEnd ↔ s.vehicle.trip = true ∧ s.vehicle.ignition ≠ .off ∧ t.vehicle.ignition = .off)
        ∧ (door ↔ 0 < (byteAt f.payload 0).toNat / 4 % 16)
        ∧ (acknowledged ↔ (byteAt f.payload 0).toNat / 2 % 2 = 1 ∨ becameOn)
        ∧ (refuses ↔ ¬ becameOn ∧ door ∧ t.modeCtl.idle ≠ .stopped
            ∧ ∃ w, s.modeCtl.window = some w ∧ w.refusedHere = false)
        ∧ (∀ x, gone x = true ↔ (becameOn ∧ x.kind = .sleepPropose)
            ∨ (acknowledged ∧ ∃ p r, s.recordAt p = some r ∧ r.alert.isActive = true ∧ x.alertsFor p = true))
        ∧ t = { s with
            vehicle := t.vehicle, table := { s.table with seats := t.table.seats }, lamps := t.lamps
            departures := t.departures, duty := t.duty, link := t.link, modeCtl := t.modeCtl, sweep := t.sweep
            emission := t.emission, diag := t.diag }
        ∧ t.vehicle.fresh = true ∧ t.vehicle.ageMs = 0
        ∧ ((byteAt f.payload 0).toNat / 64 = 0 → t.vehicle.ignition = .off)
        ∧ ((byteAt f.payload 0).toNat / 64 = 1 → t.vehicle.ignition = .acc)
        ∧ ((byteAt f.payload 0).toNat / 64 = 2 → t.vehicle.ignition = .on)
        ∧ ((byteAt f.payload 0).toNat / 64 = 3 → t.vehicle.ignition = s.vehicle.ignition)
        ∧ ((byteAt f.payload 1).toNat ≤ 250 → t.vehicle.speed = (byteAt f.payload 1).toNat)
        ∧ (250 < (byteAt f.payload 1).toNat → t.vehicle.speed = s.vehicle.speed)
        ∧ (becameOn → t.vehicle.trip = true) ∧ (tripEnd → t.vehicle.trip = false)
        ∧ (¬ becameOn → ¬ tripEnd → t.vehicle.trip = s.vehicle.trip)
        ∧ (door ∨ tripEnd → t.departures = []) ∧ (¬ door → ¬ tripEnd → t.departures = s.departures)
        ∧ (leftOn → ∀ p r, t.recordAt p = some r → r.level = .quiet ∧ r.chimeTimer = .stopped)
        ∧ (∀ p, (t.table.seats.get p).cls = (s.table.seats.get p).cls)
        ∧ (∀ p r, s.recordAt p = some r → ∃ r', t.recordAt p = some r'
          ∧ (acknowledged → r.alert.isActive = true → r'.alert = .acknowledged)
          ∧ (¬ acknowledged ∨ r.alert.isActive = false → r'.alert = r.alert))
        ∧ (becameOn → t.modeCtl = { s.modeCtl with
            mode := if s.modeCtl.mode = .watch then .active else s.modeCtl.mode
            idle := .stopped, window := none, alone := .stopped, leftBehindMs := 0
            watch := if s.modeCtl.mode = .watch then .stopped else s.modeCtl.watch
            vacantRun := if s.modeCtl.mode = .watch then 0 else s.modeCtl.vacantRun })
        ∧ (becameOn → s.modeCtl.mode = .watch →
            t.sweep = { s.sweep with period := .running 0 }
              ∧ t.emission = { s.emission with lastPlaced := none, timer := .running 0 })
        ∧ (¬ becameOn ∨ s.modeCtl.mode ≠ .watch → t.sweep = s.sweep ∧ t.emission = s.emission)
        ∧ (¬ becameOn →
          t.modeCtl = { s.modeCtl with
            idle := t.modeCtl.idle, alone := t.modeCtl.alone, window := t.modeCtl.window }
          ∧ (leftOn → s.modeCtl.mode = .active → t.modeCtl.idle = .running 0 ∧ t.modeCtl.alone = .running 0)
          ∧ (¬ leftOn ∨ s.modeCtl.mode ≠ .active → t.modeCtl.alone = s.modeCtl.alone
            ∧ (door → t.modeCtl.idle = s.modeCtl.idle.restart) ∧ (¬ door → t.modeCtl.idle = s.modeCtl.idle))
          ∧ (¬ refuses → t.modeCtl.window = s.modeCtl.window))
        ∧ (¬ refuses → t.link = (s.takeFrame f).link.without gone ∧ t.diag = s.diag)
        ∧ (refuses → ∀ w reason, s.modeCtl.window = some w →
          reason = (if s.modeCtl.mode = .service then Reason.service else if s.table.anyAlert then .alertActive
            else if s.sfe.latch = some .opened then .latchOpen else .recentActivity) →
          t.modeCtl.window = some { w with refusedHere := true }
          ∧ t.diag.meas = s.diag.meas ∧ t.diag.link = s.diag.link
          ∧ t.link = ((s.takeFrame f).offerTx (newEntry .sleepRefuse [toByte reason.code] none)).link.without gone))

/-- R176, R177: an age of 2000 ms makes the record LOST; its fields are held, and the effective speed is V_trip with
the ignition ON and 0 otherwise. Below that age, as after a VEHICLE frame taken first, nothing happens. -/
def Obligations.VehicleDataIsLost : Prop :=
  ∀ s : State, s.powered = true → s.vehicle.fresh = true → s.modeCtl.mode ≠ .standby →
    (s.vehicle.ageMs < 2000 → exec .vehicleDataLost s = .next s)
    ∧ (2000 ≤ s.vehicle.ageMs → ∃ t, exec .vehicleDataLost s = .next t
      ∧ t.vehicle = { s.vehicle with fresh := false, ageMs := 2000 }
      ∧ (s.vehicle.ignition = .on → t.effSpeed = s.config.running.vTrip ∧ t.vehicle.lostFlag = true)
      ∧ (s.vehicle.ignition ≠ .on → t.effSpeed = 0 ∧ t.vehicle.lostFlag = false)
      ∧ t = { s with vehicle := t.vehicle, table := t.table, lamps := t.lamps, duty := t.duty }
      ∧ ∀ p, (t.table.seats.get p).cls = (s.table.seats.get p).cls)

/-! ### Modes -/

/-- R182 to R185: a handled SLEEP_REFUSE closes an open window and restarts the idle timer; that the window closes first,
so that no refusal reason is tested at the restart, is the model's choice (log entry 9). A handled ALERT restarts the idle
timer, and where it runs in an open window that is not refused here, the test at the restart sets the mark and offers one
SLEEP_REFUSE with the first reason that holds, counted where the queue takes it; that the mark stands where the queue
refuses it is read of R184 (log entry 16). A handled SLEEP_PROPOSE changes nothing. -/
def Obligations.SleepFramesHandled : Prop :=
  ∀ (s : State) (f : RxFrame), s.Handles f →
    (f.kind = .sleepRefuse →
      exec .sleepRefuseHandled s = .next
        { s.takeFrame f with modeCtl := { s.modeCtl with window := none, idle := s.modeCtl.idle.restart } })
    ∧ (f.kind = .alert →
      ∃ (t : State) (refuses : Prop), exec .alertHandled s = .next t
        ∧ (refuses ↔ s.modeCtl.idle ≠ .stopped ∧ ∃ w, s.modeCtl.window = some w ∧ w.refusedHere = false)
        ∧ t = { s with modeCtl := t.modeCtl, link := t.link, diag := t.diag }
        ∧ t.modeCtl = { s.modeCtl with idle := s.modeCtl.idle.restart, window := t.modeCtl.window }
        ∧ t.link.rxq = s.link.rxq.erase f
        ∧ (¬ refuses →
            t = { s.takeFrame f with modeCtl := { s.modeCtl with idle := s.modeCtl.idle.restart } })
        ∧ (refuses → ∀ (w : Window) (reason : Reason) (e : TxEntry) (offered : State) (taken : Prop),
          s.modeCtl.window = some w →
          reason = (if s.modeCtl.mode = .service then .service else if s.table.anyAlert then .alertActive
            else if s.sfe.latch = some .opened then .latchOpen else .recentActivity) →
          e = newEntry .sleepRefuse [toByte reason.code] none → offered = (s.takeFrame f).offerTx e →
          (taken ↔ s.validStraps = true ∧ (s.link.txq.length < 6
            ∨ ∃ x ∈ s.link.txq, x.sending = false ∧ (x.kind = .state ∨ x.kind = .diagReply))) →
          t.modeCtl.window = some { w with refusedHere := true } ∧ t.link = offered.link
          ∧ (¬ taken → t.diag = offered.diag)
          ∧ (taken → t.diag = { offered.diag with counters := { offered.diag.counters with
              refusalsSent := if s.diag.counters.refusalsSent < 65535 then s.diag.counters.refusalsSent + 1 else 65535 } })))
    ∧ (f.kind = .sleepPropose → exec .sleepProposeHandled s = .next (s.takeFrame f))

/-- R183: the idle timer at T_idle acts by the first case that holds, and below it nothing happens. A proposal that finds
the queue full displaces a waiting STATE or DIAG_REPLY as any frame does, and else is refused and counted, and the timer
restarts (R165). That a proposal being sent counts as one that waits, and that one refused at invalid straps is lost, are
the model's (log entry 21). R186, R187,
R188, R194: the end of a window at 200 ms in ACTIVE with the refused-here mark set or a reason holding keeps the station
ACTIVE with the idle timer restarted; an alone timer at 10 s with a window open or a reason holding restarts. Otherwise
the station decides: WATCH with an occupant class at some position, STANDBY with none. Outside ACTIVE the window only closes. R184:
the reason is the first of the table that holds. -/
def Obligations.SleepAgreementTimers : Prop :=
  (∀ (s : State) (ms : Nat), s.powered = true → s.modeCtl.mode = .active → s.modeCtl.idle = .running ms →
    (ms < 1000 * s.config.running.tIdle → exec .idleTimerExpiry s = .next s)
    ∧ (1000 * s.config.running.tIdle ≤ ms →
      (s.modeCtl.window ≠ none → exec .idleTimerExpiry s = .next s)
      ∧ (s.modeCtl.window = none → s.table.anyAlert = true ∨ s.sfe.latch = some .opened →
        exec .idleTimerExpiry s = .next { s with modeCtl := { s.modeCtl with idle := .running 0 } })
      ∧ (s.modeCtl.window = none → s.table.anyAlert = false → s.sfe.latch ≠ some .opened →
        ((∃ e ∈ s.link.txq, e.kind = .sleepPropose) → exec .idleTimerExpiry s = .next s)
        ∧ ((∀ e ∈ s.link.txq, e.kind ≠ .sleepPropose) →
          (s.validStraps = true → s.link.txq.length < 6 →
            exec .idleTimerExpiry s = .next
              { s with link := { s.link with txq := s.link.txq ++
                  [{ kind := .sleepPropose, payload := [], sending := false, newer := none, claim := none }] } })
          ∧ (s.validStraps = true → 6 ≤ s.link.txq.length →
            ((∃ x ∈ s.link.txq, x.sending = false ∧ (x.kind = .state ∨ x.kind = .diagReply)) →
              exec .idleTimerExpiry s = .next (s.place .sleepPropose []))
            ∧ ((∀ x ∈ s.link.txq, x.sending = true ∨ (x.kind ≠ .state ∧ x.kind ≠ .diagReply)) →
              exec .idleTimerExpiry s = .next { s with
                modeCtl := { s.modeCtl with idle := .running 0 }
                diag := { s.diag with counters := { s.diag.counters with
                  txOverflow :=
                    if s.diag.counters.txOverflow < 65535 then s.diag.counters.txOverflow + 1 else 65535 } } }))
          ∧ (s.validStraps = false →
            exec .idleTimerExpiry s = .next { s with modeCtl := { s.modeCtl with idle := .running 0 } })))))
  ∧ (∀ s : State, s.powered = true →
    (∀ w, s.modeCtl.window = some w → w.ms < 200 → exec .windowEnd s = .next s)
    ∧ (∀ w, s.modeCtl.window = some w → 200 ≤ w.ms →
      (s.modeCtl.mode ≠ .active →
        exec .windowEnd s = .next { s with modeCtl := { s.modeCtl with window := none } })
      ∧ (s.modeCtl.mode = .active →
        (w.refusedHere = true ∨ s.refusalReason ≠ none →
          exec .windowEnd s = .next
            { s with modeCtl := { s.modeCtl with window := none, idle := s.modeCtl.idle.restart } })
        ∧ (w.refusedHere = false → s.refusalReason = none →
          ∃ t, exec .windowEnd s = .next t
            ∧ ((∃ p, (s.table.seats.get p).cls.isOccupant = true) → s.EntersWatch t)
            ∧ ((∀ p, (s.table.seats.get p).cls.isOccupant = false) →
                s.EntersStandby t ∧ t.link.rxq = s.link.rxq))))
    ∧ ∀ ms, s.modeCtl.mode = .active → s.modeCtl.alone = .running ms →
      (ms < 10000 → exec .aloneTimerExpiry s = .next s)
      ∧ (10000 ≤ ms →
        (s.modeCtl.window ≠ none ∨ s.refusalReason ≠ none →
          exec .aloneTimerExpiry s = .next { s with modeCtl := { s.modeCtl with alone := .running 0 } })
        ∧ (s.modeCtl.window = none → s.refusalReason = none →
          ∃ t, exec .aloneTimerExpiry s = .next t
            ∧ ((∃ p, (s.table.seats.get p).cls.isOccupant = true) → s.EntersWatch t)
            ∧ ((∀ p, (s.table.seats.get p).cls.isOccupant = false) →
                s.EntersStandby t ∧ t.link.rxq = s.link.rxq))))
  ∧ ∀ (s : State) (alerting recent : Prop),
      (alerting ↔ ∃ p r n timer, s.recordAt p = some r ∧ r.alert = .active n timer) →
      (recent ↔ (∃ ms, s.modeCtl.idle = .running ms ∧ ms < 5000)
        ∨ (s.modeCtl.idle = .stopped ∧ s.vehicle.ignition = .on)) →
      (s.modeCtl.mode = .service → s.refusalReason = some .service)
      ∧ (s.modeCtl.mode ≠ .service →
        (alerting → s.refusalReason = some .alertActive)
        ∧ (¬ alerting → s.sfe.latch = some .opened → s.refusalReason = some .latchOpen)
        ∧ (¬ alerting → s.sfe.latch ≠ some .opened → recent → s.refusalReason = some .recentActivity)
        ∧ (¬ alerting → s.sfe.latch ≠ some .opened → ¬ recent → s.refusalReason = none))

/-- R189, R191 to R193: the watch timer at 3600 s ends WATCH in STANDBY. The left-behind timer at T_left asks for a WAKE
pulse, goes to ACTIVE, makes the alert of every qualifying record ACTIVE with count 1, and offers its first ALERT, in
position order; below T_left, as after a completion taken first that set the timer to 0, nothing happens. An alert period
of 2 s gives the next ALERT below a count of 60, and ends the alert at 60. R189, R190: at a completion in WATCH
occupants clear the vacant run, its thirtieth ends in STANDBY, and an own belt or latch change gives ACTIVE with a WAKE
pulse asked for; where both fall together either may come first (log entry 6). -/
def Obligations.WatchLimitsAndAlerts : Prop :=
  (∀ (s : State) (first : State → Pos → State), s.powered = true →
    (∀ u p, (∀ r, s.recordAt p = some r → (r.cls = .small ∨ r.cls = .csOccupied) → r.alert = .none →
        first u p = u.place .alert [toByte (p.val * 64 + r.cls.code * 4), 1])
      ∧ ((∀ r, s.recordAt p = some r → ¬ ((r.cls = .small ∨ r.cls = .csOccupied) ∧ r.alert = .none)) →
        first u p = u)) →
    (s.modeCtl.mode = .watch → s.modeCtl.watch.Reached 3600000 →
      ∃ t, exec .watchTimerExpiry s = .next t ∧ s.EntersStandby t ∧ t.link.rxq = s.link.rxq)
    ∧ (¬ s.modeCtl.watch.Reached 3600000 → exec .watchTimerExpiry s = .next s)
    ∧ (s.modeCtl.leftBehindMs < 1000 * s.config.running.tLeft → exec .leftBehindExpiry s = .next s)
    ∧ (s.modeCtl.mode = .watch → (∃ p r, s.recordAt p = some r ∧ r.qualifies = true) →
      1000 * s.config.running.tLeft ≤ s.modeCtl.leftBehindMs →
      ∃ t u : State, exec .leftBehindExpiry s = .next t ∧ t.modeCtl.mode = .active ∧ t.modeCtl.leftBehindMs = 0
        ∧ t = { s with
            modeCtl := t.modeCtl, sweep := t.sweep, emission := t.emission, lamps := t.lamps, duty := t.duty
            link := t.link, table := t.table, diag := t.diag }
        ∧ u = first (first (first (first
            { s with link := { s.link with wakePending := s.link.wakePending || s.validStraps } } 0) 1) 2) 3
        ∧ t.link = u.link ∧ t.diag = u.diag
        ∧ (s.validStraps = true → s.link.txq.length ≤ 2 → ∀ p r, s.recordAt p = some r →
            (r.cls = .small ∨ r.cls = .csOccupied) → r.alert = .none →
            newEntry .alert [toByte (p.val * 64 + r.cls.code * 4), 1] none ∈ t.link.txq)
        ∧ ∀ p r, s.recordAt p = some r →
            (((r.cls = .small ∨ r.cls = .csOccupied) ∧ r.alert = .none) →
              t.recordAt p = some { r with alert := .active 1 (.running 0) })
            ∧ (¬ ((r.cls = .small ∨ r.cls = .csOccupied) ∧ r.alert = .none) → t.recordAt p = some r))
    ∧ ∀ p r n timer, s.modeCtl.mode = .active → s.recordAt p = some r → r.alert = .active n timer →
        (¬ timer.Reached 2000 → exec (.alertPeriodExpiry p) s = .next s)
        ∧ (n < 60 → timer.Reached 2000 →
          exec (.alertPeriodExpiry p) s
            = .next ((s.putRecord p { r with alert := .active (n + 1) (.running 0) }).place .alert
                [toByte (p.val * 64 + r.cls.code * 4), toByte (n + 1)]))
        ∧ (60 ≤ n → timer.Reached 2000 →
          exec (.alertPeriodExpiry p) s
            = .next ((s.putRecord p { r with alert := .expired }).withdrawAlerts p)))
  ∧ ∀ (s : State) (r : SweepReadings) (number : Word16) (test : Bool) (tagAt : Option Pos) (ms : Nat),
    s.powered = true → s.sweep.flight = some (.periodic number test tagAt ms) → s.modeCtl.mode = .watch →
    ∃ (t : State) (occupied own : Prop), exec (.sweepCompletion r) s = .next t
      ∧ (occupied ↔ ∃ p, (t.table.seats.get p).cls.isOccupant = true)
      ∧ (own ↔ (∃ p, (t.sfe.positions.get p).belt ≠ (s.sfe.positions.get p).belt)
          ∨ (s.sfe.latch ≠ none ∧ t.sfe.latch ≠ s.sfe.latch))
      ∧ (¬ own → occupied → t.modeCtl.mode = .watch ∧ t.modeCtl.vacantRun = 0)
      ∧ (¬ own → ¬ occupied → s.modeCtl.vacantRun + 1 < 30 →
          t.modeCtl.mode = .watch ∧ t.modeCtl.vacantRun = s.modeCtl.vacantRun + 1)
      ∧ (¬ own → ¬ occupied → 30 ≤ s.modeCtl.vacantRun + 1 → t.modeCtl.mode = .standby)
      ∧ (own → occupied ∨ s.modeCtl.vacantRun + 1 < 30 →
          t.modeCtl.mode = .active ∧ t.modeCtl.vacantRun = 0 ∧ t.modeCtl.watch = .stopped
            ∧ t.link.wakePending = (s.link.wakePending || s.validStraps) ∧ t.emission.lastPlaced = none)
      ∧ (own → ¬ occupied → 30 ≤ s.modeCtl.vacantRun + 1 →
          t.modeCtl.mode = .standby ∨ t.modeCtl.mode = .active)

/-- R29, R182, R184, R191, R193: step 6 of a completion in ACTIVE. The alert of a record whose class is now another than
SMALL and CS_OCCUPIED ends as NONE, its waiting ALERTs withdrawn (at this step: log entry 17). An own class or belt change
restarts the idle timer; a restraint exchange is no class change (the model's choice, log entry 31). With no record that
qualifies the left-behind timer is set to 0. In an open window the restart, and the latch state's change or first setting
(log entry 25) to OPEN, test the reasons: one that holds sets the mark, restarts the idle timer and has its SLEEP_REFUSE
offered, the first two also where that is refused (log entry 16). -/
def Obligations.CompletionMovesIdleAndAlerts : Prop :=
  (∀ (before after : Four Cls) (o : SensingOutcome),
    ((ownChanges before after o).cls = true ↔ ∃ p, before.get p ≠ after.get p)
    ∧ ((ownChanges before after o).belt = true ↔ ∃ p, o.beltChanged.get p = true)
    ∧ (ownChanges before after o).latch = o.latchEvent)
  ∧ (∀ (s : State) (c : OwnChanges) (changed tests : Prop) (ends : Record → Prop) (gone : TxEntry → Bool),
    s.modeCtl.mode = .active → (changed ↔ c.cls = true ∨ c.belt = true) →
    (tests ↔ (changed ∧ s.modeCtl.idle ≠ .stopped) ∨ c.latch = .changed .opened ∨ c.latch = .firstSet .opened) →
    (∀ r, ends r ↔ r.alert.isActive = true ∧ r.cls ≠ .small ∧ r.cls ≠ .csOccupied) →
    (∀ x, gone x = true ↔ ∃ p r, s.recordAt p = some r ∧ ends r ∧ x.alertsFor p = true) →
    ∃ u v : State,
      u = { s with
        table := { s.table with seats := u.table.seats }, link := s.link.without gone
        modeCtl := { s.modeCtl with idle := u.modeCtl.idle } }
      ∧ (changed → u.modeCtl.idle = s.modeCtl.idle.restart) ∧ (¬ changed → u.modeCtl.idle = s.modeCtl.idle)
      ∧ (∀ p, (u.table.seats.get p).cls = (s.table.seats.get p).cls
          ∧ (u.table.seats.get p).securing = (s.table.seats.get p).securing
          ∧ (s.recordAt p = none → u.recordAt p = none)
          ∧ ∀ r, s.recordAt p = some r →
            (ends r → u.recordAt p = some { r with alert := .none }) ∧ (¬ ends r → u.recordAt p = some r))
      ∧ s.modeStep c = { v with modeCtl := { v.modeCtl with
          leftBehindMs := if u.table.anyQualifies then s.modeCtl.leftBehindMs else 0 } }
      ∧ (¬ tests ∨ s.modeCtl.window = none ∨ u.refusalReason = none → v = u)
      ∧ ∀ w, s.modeCtl.window = some w →
        (w.refusedHere = true → v = u)
        ∧ ∀ reason, w.refusedHere = false → tests → u.refusalReason = some reason →
          v = { u with link := v.link, diag := v.diag, modeCtl := v.modeCtl }
          ∧ v.modeCtl = { u.modeCtl with window := some { w with refusedHere := true }, idle := u.modeCtl.idle.restart }
          ∧ v.link = (u.offerTx (newEntry .sleepRefuse [toByte reason.code] none)).link
          ∧ v.diag.meas = s.diag.meas ∧ v.diag.link = s.diag.link)
  ∧ ∀ (s : State) (r : SweepReadings) (number : Word16) (test : Bool) (tagAt : Option Pos) (ms : Nat),
    s.powered = true → s.sweep.flight = some (.periodic number test tagAt ms) → s.modeCtl.mode = .active →
    ∃ (t : State) (changed : Prop), exec (.sweepCompletion r) s = .next t
      ∧ (changed ↔ ∃ p, (t.table.seats.get p).cls ≠ (s.table.seats.get p).cls
          ∨ (t.sfe.positions.get p).belt ≠ (s.sfe.positions.get p).belt)
      ∧ t.modeCtl = { s.modeCtl with
          idle := t.modeCtl.idle, window := t.modeCtl.window, leftBehindMs := t.modeCtl.leftBehindMs }
      ∧ (changed → t.modeCtl.idle = s.modeCtl.idle.restart)
      ∧ (¬ changed → s.modeCtl.window = none → t.modeCtl.idle = s.modeCtl.idle)
      ∧ (s.modeCtl.window = none → t.modeCtl.window = none)
      ∧ t.modeCtl.leftBehindMs ≤ s.modeCtl.leftBehindMs
      ∧ ((∀ p r, t.recordAt p = some r → r.qualifies = false) → t.modeCtl.leftBehindMs = 0)
      ∧ ∀ p r', t.recordAt p = some r' → r'.cls ≠ .small → r'.cls ≠ .csOccupied →
        ∀ n timer, r'.alert ≠ .active n timer

/-! ### Diagnosis -/

/-- R204, R205: the read items answer with their data in every part, or with BAD_ITEM where the argument lies outside
the item: the captures, a position, the roster, the configuration. An item code that is not defined is BAD_ITEM. That a
roster station is the whole argument, 16 to 255 being BAD_ITEM too, is the model's choice (log entry 34). -/
def Obligations.ReadQueriesAnswer : Prop :=
  ∀ (s : State) (f : RxFrame) (arg : Nat),
    (s.Asked f 1 arg →
      (arg.testBit 4 = false → arg % 4 = 3 →
        exec .readCapture s = .next ((s.took f).reply 1 .badItem []))
      ∧ (arg.testBit 4 = true → 2 ≤ arg % 4 →
        exec .readCapture s = .next ((s.took f).reply 1 .badItem []))
      ∧ (arg.testBit 4 = false → arg % 4 < 3 → s.diag.meas = .empty →
        exec .readCapture s = .next ((s.took f).reply 1 .ok [0, 0, 0, 0]))
      ∧ (arg.testBit 4 = true → arg % 4 < 2 → s.diag.link = .empty →
        exec .readCapture s = .next ((s.took f).reply 1 .ok [0, 0, 0, 0]))
      ∧ (∀ (r : MeasReport) (code : Byte), arg.testBit 4 = false →
        (s.diag.meas = .softHeld r ∧ code = 1) ∨ (s.diag.meas = .locked r false ∧ code = 2)
          ∨ (s.diag.meas = .locked r true ∧ code = 130) →
        (arg % 4 = 0 → exec .readCapture s = .next ((s.took f).reply 1 .ok
          [code, toByte r.pos.val, toByte r.kind.code, toByte r.severity.code]))
        ∧ (arg % 4 = 1 → exec .readCapture s = .next ((s.took f).reply 1 .ok
          (twoBytes r.main ++ twoBytes r.check)))
        ∧ (arg % 4 = 2 → exec .readCapture s = .next ((s.took f).reply 1 .ok (twoBytes r.stamp.toNat))))
      ∧ (∀ (r : LinkReport) (code : Byte), arg.testBit 4 = true →
        (s.diag.link = .softHeld r ∧ code = 1) ∨ (s.diag.link = .locked r false ∧ code = 2)
          ∨ (s.diag.link = .locked r true ∧ code = 130) →
        (arg % 4 = 0 → exec .readCapture s = .next ((s.took f).reply 1 .ok
          [code, toByte r.kind.code, toByte r.severity.code, r.header]))
        ∧ (arg % 4 = 1 → exec .readCapture s = .next ((s.took f).reply 1 .ok
          [r.first, r.second, toByte (r.stamp.toNat / 256), toByte (r.stamp.toNat % 256)]))))
    ∧ (∀ p : Pos, s.Asked f 4 arg → arg % 4 = p.val →
      ((s.table.seats.get p).cls = .absent →
        exec .readPosition s = .next ((s.took f).reply 4 .badItem []))
      ∧ ((s.table.seats.get p).cls ≠ .absent → arg / 4 % 4 = 0 →
        exec .readPosition s = .next ((s.took f).reply 4 .ok
          (twoBytes ((s.classes.get p).lf / 4) ++ twoBytes ((s.classes.get p).shift % 65536).toNat)))
      ∧ ((s.table.seats.get p).cls ≠ .absent → arg / 4 % 4 = 1 →
        ((s.sfe.positions.get p).tagView = .none →
          exec .readPosition s = .next ((s.took f).reply 4 .ok [0, 0, 0, 0]))
        ∧ ((s.sfe.positions.get p).tagView = .unclear →
          exec .readPosition s = .next ((s.took f).reply 4 .ok [0, 0, 2, 0]))
        ∧ (∀ g, (s.sfe.positions.get p).tagView = .present g →
          exec .readPosition s = .next ((s.took f).reply 4 .ok (twoBytes g.serial.toNat ++ [1]))))
      ∧ (∀ r, (s.table.seats.get p).cls ≠ .absent → arg / 4 % 4 = 3 → s.recordAt p = some r →
        (∀ tag, r.origin = .moved tag ∨ (∃ e, r.origin = .claiming e ∧ e.tag = tag) →
          exec .readPosition s = .next ((s.took f).reply 4 .ok (tagBytes tag)))
        ∧ (r.origin = .boarded ∨ r.origin = .restored ∨ r.origin = .untraced →
          exec .readPosition s = .next ((s.took f).reply 4 .ok [0, 0, 0, 0])))
      ∧ (∀ r, (s.table.seats.get p).cls ≠ .absent → arg / 4 % 4 = 2 → s.recordAt p = some r →
        exec .readPosition s = .next ((s.took f).reply 4 .ok
          (toByte r.origin.code :: (twoBytes r.seated ++ [toByte r.alert.code]))))
      ∧ ((s.table.seats.get p).cls ≠ .absent → 2 ≤ arg / 4 % 4 → s.recordAt p = none →
        exec .readPosition s = .next ((s.took f).reply 4 .ok [0, 0, 0, 0])))
    ∧ (s.Asked f 6 arg →
      (1 ≤ arg → arg ≤ 13 → arg ≠ s.station.toNat →
        exec .readRoster s = .next ((s.took f).reply 6 .ok
          (toByte (s.duty.slot (BitVec.ofNat 4 arg)).state.code
            :: twoBytes (s.duty.slot (BitVec.ofNat 4 arg)).ms)))
      ∧ (1 ≤ arg → arg = s.station.toNat → exec .readRoster s = .next ((s.took f).reply 6 .ok [0, 0, 0]))
      ∧ (arg = 0 ∨ 13 < arg → exec .readRoster s = .next ((s.took f).reply 6 .badItem [])))
    ∧ (s.Asked f 7 arg →
      (arg = 0 → exec .readConfig s = .next ((s.took f).reply 7 .ok
        (toByte (if s.config.defaulted then 1 else 0) :: twoBytes s.config.store.sum.toNat)))
      ∧ (∀ i : Item, arg = i.code → exec .readConfig s = .next ((s.took f).reply 7 .ok
        (twoBytes (s.config.working.value i))))
      ∧ (arg ≠ 0 → (∀ i : Item, arg ≠ i.code) →
        exec .readConfig s = .next ((s.took f).reply 7 .badItem [])))
    ∧ ∀ item, s.Asked f item arg → item = 0 ∨ 10 < item →
        exec .diagQueryItemNotDefined s = .next ((s.took f).reply item .badItem [])

/-- R202, R203, R204: CLEAR_CAPTURE empties the named capture. READ_COUNTERS answers a group of 0 to 8 with its two
counters, and with clear sets them to 0 (before the reply is offered, log entry 19); group 9 answers the high-water mark
and the frames held, and returns the mark to them; a group above 9 is BAD_ITEM. -/
def Obligations.CountersAndCapturesClear : Prop :=
  ∀ (s : State) (f : RxFrame) (arg : Nat),
    (s.Asked f 2 arg →
      (arg.testBit 4 = false →
        exec .clearCapture s = .next
          ({ s.took f with diag := { (s.took f).diag with meas := .empty } }.reply 2 .ok []))
      ∧ (arg.testBit 4 = true →
        exec .clearCapture s = .next
          ({ s.took f with diag := { (s.took f).diag with link := .empty } }.reply 2 .ok [])))
    ∧ (s.Asked f 3 arg →
      (∀ a b, s.diag.counters.group (arg % 16) = some (a, b) → arg % 16 < 9 → arg.testBit 7 = false →
        exec .readCounters s = .next ((s.took f).reply 3 .ok (twoBytes a ++ twoBytes b)))
      ∧ (∀ a b, s.diag.counters.group (arg % 16) = some (a, b) → arg % 16 < 9 → arg.testBit 7 = true →
        ∃ k : Counters, k.group (arg % 16) = some (0, 0)
          ∧ (∀ g, g ≠ arg % 16 → k.group g = s.diag.counters.group g)
          ∧ exec .readCounters s = .next
              ({ s.took f with diag := { (s.took f).diag with counters := k } }.reply 3 .ok
                (twoBytes a ++ twoBytes b)))
      ∧ (arg % 16 < 9 → ∃ a b, s.diag.counters.group (arg % 16) = some (a, b))
      ∧ (arg % 16 = 9 →
        exec .readCounters s = .next
          ({ s.took f with link := { (s.took f).link with highWater := (s.took f).link.held } }.reply 3 .ok
            (twoBytes s.link.highWater ++ twoBytes (s.took f).link.held)))
      ∧ (9 < arg % 16 → exec .readCounters s = .next ((s.took f).reply 3 .badItem [])))

/-- R204, R206, R209, R83, R121, R183, R193: ENTER_SERVICE refuses a moving van, and else ends every record, withdraws or
voids their CLAIMs and withdraws their ALERTs and an own proposal, empties the list, starts SERVICE with the working copy
as the running one and the service timer at 0, places a STATE with SERVICE set, and answers OK; the position numbers stay
those of the running configuration. LEAVE_SERVICE and the service timer at 300 s, restarted by every query handled, make
the service exit (R209, R62, R61): the working copy runs and gives the position numbers and the baselines, the queues are
emptied (before the reply is placed), the station starts ACTIVE. The model's choices: a nonzero argument is BAD_ITEM (log entry 10), and a station already in
SERVICE is asked for the moving van first (log entry 11). -/
def Obligations.ServiceEntryAndExit : Prop :=
  (∀ (s : State) (f : RxFrame) (arg : Nat),
    (s.Asked f 8 arg →
      (arg ≠ 0 → exec .enterService s = .next ((s.took f).reply 8 .badItem []))
      ∧ (arg = 0 → s.vehicle.ignition = .on ∨ 0 < s.effSpeed →
        exec .enterService s = .next ((s.took f).reply 8 .moving []))
      ∧ (arg = 0 → s.vehicle.ignition ≠ .on → s.effSpeed = 0 → s.modeCtl.mode = .service →
        exec .enterService s = .next ((s.took f).reply 8 .ok []))
      ∧ (arg = 0 → s.vehicle.ignition ≠ .on → s.effSpeed = 0 → s.modeCtl.mode ≠ .service →
        ∃ (t u v : State) (owned : ClaimRef → Bool) (gone : TxEntry → Bool),
          exec .enterService s = .next t ∧ t = u.reply 8 .ok []
          ∧ (∀ c, owned c = true ↔ ∃ p r, s.recordAt p = some r ∧ r.owns c = true)
          ∧ (∀ x, gone x = true ↔ x.kind = .sleepPropose
              ∨ ∃ p r, s.recordAt p = some r ∧ r.alert.isActive = true ∧ x.alertsFor p = true)
          ∧ v = { s.took f with link := ((s.took f).link.claimsEnded owned).without gone }
          ∧ u.link = (v.place .state u.emission.report).link
          ∧ u.diag = { (v.place .state u.emission.report).diag with service := .running 0 }
          ∧ u.emission.placedMark = true ∧ u.emission.report = t.emission.report
          ∧ t.modeCtl.mode = .service ∧ t.modeCtl.idle = .stopped
          ∧ t.modeCtl.alone = .stopped ∧ t.modeCtl.window = none ∧ t.modeCtl.leftBehindMs = 0
          ∧ (∀ p, t.table.seats.get p
              = ⟨if isPosition s.config.running p then .unscanned else .absent, none, none⟩)
          ∧ t.departures = [] ∧ t.sweep.period = .stopped ∧ t.lamps = Four.const .off
          ∧ t.duty.chime = false ∧ t.duty.pattern = .off ∧ t.diag.service = .running 0
          ∧ t.config = { s.config with working := s.config.running } ∧ t.classes = s.classes
          ∧ t.sfe = s.sfe ∧ t.vehicle = s.vehicle ∧ t.straps = s.straps ∧ t.link.rxq = s.link.rxq.erase f
          ∧ t.table.departureSeq = s.table.departureSeq ∧ t.emission.timer = .running 0
          ∧ (byteAt t.emission.report 5).getLsbD 0 = true))
    ∧ (s.Asked f 9 arg →
      (arg ≠ 0 → exec .leaveService s = .next ((s.took f).reply 9 .badItem []))
      ∧ (arg = 0 → s.modeCtl.mode ≠ .service →
        exec .leaveService s = .next ((s.took f).reply 9 .notService []))
      ∧ (arg = 0 → s.modeCtl.mode = .service → s.diag.commit ≠ .stopped →
        exec .leaveService s = .next ((s.took f).reply 9 .busy []))
      ∧ (arg = 0 → s.modeCtl.mode = .service → s.diag.commit = .stopped →
        ∃ t u : State, exec .leaveService s = .next t ∧ t = u.reply 9 .ok [] ∧ u.LeftService s)))
  ∧ ∀ s : State, s.powered = true → s.modeCtl.mode = .service → s.diag.commit = .stopped →
      (s.diag.service.Reached 300000 → ∃ t, exec .serviceTimerExpiry s = .next t ∧ t.LeftService s)
      ∧ (¬ s.diag.service.Reached 300000 → exec .serviceTimerExpiry s = .next s)

/-- R204, R34, R208: MEASURE and STORE are refused by the first result that applies; else MEASURE starts the one-shot
sweep, and STORE the commit. Its completion writes the working copy and its sum, clears CONFIG_DEFAULTED and answers
with the sum; a HALT that waited then takes the station to STANDBY with its queues emptied. The model's choices: a nonzero
argument of STORE is BAD_ITEM (log entry 10), and the store is written only at the completion (log entry 20). -/
def Obligations.MeasureAndStore : Prop :=
  (∀ (s : State) (f : RxFrame) (arg : Nat),
    (∀ p : Pos, s.Asked f 5 arg → arg % 4 = p.val →
      (arg / 4 % 4 = 3 ∨ (s.table.seats.get p).cls = .absent →
        exec .measure s = .next ((s.took f).reply 5 .badItem []))
      ∧ (arg / 4 % 4 ≠ 3 → (s.table.seats.get p).cls ≠ .absent →
        (s.modeCtl.mode ≠ .service → exec .measure s = .next ((s.took f).reply 5 .notService []))
        ∧ (s.modeCtl.mode = .service → s.diag.commit ≠ .stopped →
          exec .measure s = .next ((s.took f).reply 5 .busy []))
        ∧ (s.modeCtl.mode = .service → s.diag.commit = .stopped →
          ∃ part, exec .measure s = .next
              { s.took f with sweep := { s.sweep with flight := some (.oneShot p part 0) } }
            ∧ (part = .mat ↔ arg / 4 % 4 = 0) ∧ (part = .presence ↔ arg / 4 % 4 = 1)
            ∧ (part = .tag ↔ arg / 4 % 4 = 2))))
    ∧ (s.Asked f 10 arg →
      (arg ≠ 0 → exec .storeConfig s = .next ((s.took f).reply 10 .badItem []))
      ∧ (arg = 0 → s.modeCtl.mode ≠ .service →
        exec .storeConfig s = .next ((s.took f).reply 10 .notService []))
      ∧ (arg = 0 → s.modeCtl.mode = .service → s.diag.commit ≠ .stopped →
        exec .storeConfig s = .next ((s.took f).reply 10 .busy []))
      ∧ (arg = 0 → s.modeCtl.mode = .service → s.diag.commit = .stopped →
        exec .storeConfig s = .next { s.took f with diag := { (s.took f).diag with commit := .running 0 } })))
  ∧ ∀ (s : State) (stored : Configuration), s.powered = true → s.diag.commit ≠ .stopped →
      stored = { s.config with
        store := { contents := s.config.working, sum := s.config.working.sum }, defaulted := false } →
      (s.diag.haltWaiting = false →
        exec .commitCompletion s = .next
          ({ s with config := stored, diag := { s.diag with commit := .stopped } }.reply 10 .ok
            [toByte (s.config.working.sum.toNat / 256), toByte (s.config.working.sum.toNat % 256)]))
      ∧ (s.diag.haltWaiting = true →
        ∃ t, exec .commitCompletion s = .next t ∧ t.modeCtl.mode = .standby
          ∧ t.config = { stored with running := s.config.working } ∧ t.link.txq = [] ∧ t.link.rxq = []
          ∧ t.diag.commit = .stopped ∧ t.diag.haltWaiting = false)

/-- R207, R57: a CONFIG frame is answered by the first result that applies, and writes the working copy: a join map or
fitted mask that breaks a pair is BAD_JOIN, a mask loses its high bits, a value is clamped into its range, and an _off
item never stands above its _on item. -/
def Obligations.ConfigWritesWorkingCopy : Prop :=
  ∀ (s : State) (f : RxFrame) (value : Nat), s.Handles f → f.kind = .config →
    value = (byteAt f.payload 2).toNat * 256 + (byteAt f.payload 3).toNat →
    (s.modeCtl.mode ≠ .service →
      exec .configWrite s = .next ((s.took f).reply ((byteAt f.payload 1).toNat ||| 128) .notService []))
    ∧ (s.modeCtl.mode = .service → s.diag.commit ≠ .stopped →
      exec .configWrite s = .next ((s.took f).reply ((byteAt f.payload 1).toNat ||| 128) .busy []))
    ∧ (s.modeCtl.mode = .service → s.diag.commit = .stopped →
      ((∀ i : Item, (byteAt f.payload 1).toNat ≠ i.code) →
        exec .configWrite s = .next ((s.took f).reply ((byteAt f.payload 1).toNat ||| 128) .badItem []))
      ∧ ∀ i : Item, (byteAt f.payload 1).toNat = i.code →
        (i = .joins → 8 ≤ value ∨ joinsGood s.config.working.fittedMask value = false →
          exec .configWrite s = .next ((s.took f).reply (i.code ||| 128) .badJoin []))
        ∧ (i = .fitted → joinsGood value s.config.working.joinMap = false →
          exec .configWrite s = .next ((s.took f).reply (i.code ||| 128) .badJoin []))
        ∧ (∀ (written : Nat) (result : Result),
            (i = .joins ∧ value < 8 ∧ joinsGood s.config.working.fittedMask value = true
                ∧ written = value ∧ result = .ok)
              ∨ (i = .fitted ∧ joinsGood value s.config.working.joinMap = true ∧ written = value % 16
                ∧ result = if value < 16 then .ok else .clamped)
              ∨ ((i = .buckles ∨ i = .tags) ∧ written = value % 16
                ∧ result = if value < 16 then .ok else .clamped)
              ∨ (i ≠ .joins ∧ i ≠ .fitted ∧ i ≠ .buckles ∧ i ≠ .tags ∧ i.onOf = none ∧ i.offOf = none
                ∧ written = max i.range.1 (min i.range.2 value)
                ∧ result = if i.range.1 ≤ value ∧ value ≤ i.range.2 then .ok else .clamped)
              ∨ (∃ on, i.onOf = some on ∧ written = min (min 2000 value) (s.config.working.value on)
                ∧ result = if value ≤ 2000 ∧ value ≤ s.config.working.value on then .ok else .clamped)
              ∨ (∃ off, i.offOf = some off ∧ s.config.working.value off ≤ min 2000 value
                ∧ written = min 2000 value ∧ result = if value ≤ 2000 then .ok else .clamped) →
            exec .configWrite s = .next
              ({ s.took f with config := { s.config with working := s.config.working.put written i } }.reply
                (i.code ||| 128) result (twoBytes written)))
        ∧ ∀ off, i.offOf = some off → min 2000 value < s.config.working.value off →
            exec .configWrite s = .next
              ({ s.took f with config := { s.config with
                  working := (s.config.working.put (min 2000 value) i).put (min 2000 value) off } }.reply
                (i.code ||| 128) .clamped (twoBytes (min 2000 value))))

/-! ### What every step keeps -/

/-- The state after reset meets every property below, and is what POWER_ON makes of it. -/
def Obligations.ResetMeetsInvariants : Prop :=
  State.reset.link.TxBounded ∧ State.reset.link.RxBounded ∧ ListBounded State.reset.departures ∧ State.reset.TagsOnce
    ∧ State.reset.RecordsFit ∧ State.reset.ChimeWithin ∧ State.reset.LaddersDue ∧ State.reset.LampsShow
    ∧ State.reset.ChimeJustified ∧ State.reset.ViewKept ∧ State.reset.diag.counters.Bounded
    ∧ State.reset.sweep.InStep ∧ State.reset.IdleRuns ∧ State.reset.StandbyQuiet
    ∧ State.reset.ClassifierIn
    ∧ exec (.powerOn State.reset.straps) State.reset = .next State.reset

/-- R164, R161: the transmit queue stays within 6 frames and one STATE, and the receive queue within its places, at every
step. -/
def Obligations.LinkQueuesStayBounded : Prop :=
  ∀ s t : State, step s = .next t →
    (s.link.TxBounded → t.link.TxBounded) ∧ (s.link.RxBounded → t.link.RxBounded)

/-- R107, R109, R110, R111: the Departure List stays within 8 entries, and every departure tag stays listed once or held
by one record and never both, at every step. -/
def Obligations.DepartureTagsStayUnique : Prop :=
  ∀ s t : State, ListBounded s.departures ∧ s.TagsOnce → step s = .next t → ListBounded t.departures ∧ t.TagsOnce

/-- R64: a record stands exactly where the class is an occupant class, and has that class, at every step. -/
def Obligations.RecordsStayFitting : Prop :=
  ∀ s t : State, s.RecordsFit → step s = .next t → t.RecordsFit

/-- R94, R87: chime time used never exceeds the chime limit; a level other than QUIET stands only while its reminder is
due, and each ladder timer only at its level, at every step. -/
def Obligations.LaddersStayWithin : Prop :=
  ∀ s t : State, step s = .next t → (s.ChimeWithin → t.ChimeWithin) ∧ (s.LaddersDue → t.LaddersDue)

/-- R102, R140, R127: the lamps show the levels in ACTIVE and are off otherwise; the chime output sounds only at a station
holding duty, in ACTIVE with the ignition ON and a LEVEL_2 in view; and a station without duty keeps no view, at every
step. -/
def Obligations.OutputsStayJustified : Prop :=
  ∀ s t : State, step s = .next t →
    (s.LampsShow → t.LampsShow) ∧ (s.ChimeJustified ∧ s.ViewKept → t.ChimeJustified ∧ t.ViewKept)

/-- R43, R45, R48, R56: filtered load and baselines stay within their ranges; R203, R28: every counter stays within 65535,
and the test-sweep counter in step with the sweep count, at every step. -/
def Obligations.CountersAndBaselinesStayBounded : Prop :=
  ∀ s t : State, step s = .next t →
    (s.ClassifierIn → t.ClassifierIn) ∧ (s.diag.counters.Bounded → t.diag.counters.Bounded)
      ∧ (s.sweep.InStep → t.sweep.InStep)

/-- R182, R187, R194: the idle and alone timers run exactly in ACTIVE with the ignition not ON, and STANDBY stays quiet,
at every step. -/
def Obligations.ModeTimersStayInMode : Prop :=
  ∀ s t : State, s.IdleRuns ∧ s.StandbyQuiet → step s = .next t → t.IdleRuns ∧ t.StandbyQuiet

end
end

