-- ==== Sys2Proof/Laws/Four.lean ====
section
/-! SUPPORT. Reading and writing the four values of a Four. -/

namespace Sys2Proof

variable {α β : Type}

@[simp] theorem Four.get_set_self (q : Four α) (p : Pos) (x : α) : (q.set p x).get p = x := by
  fin_cases p <;> rfl

theorem Four.get_set_other (q : Four α) (p r : Pos) (x : α) (h : r ≠ p) : (q.set p x).get r = q.get r := by
  fin_cases p <;> fin_cases r <;> first | rfl | exact absurd rfl h

theorem Four.get_set (q : Four α) (p r : Pos) (x : α) : (q.set p x).get r = if r = p then x else q.get r := by
  by_cases h : r = p
  · subst h; simp
  · simp [h, Four.get_set_other q p r x h]

@[simp] theorem Four.get_ofFn (f : Pos → α) (p : Pos) : (Four.ofFn f).get p = f p := by
  fin_cases p <;> rfl

@[simp] theorem Four.get_map (f : α → β) (q : Four α) (p : Pos) : (q.map f).get p = f (q.get p) := by
  fin_cases p <;> rfl

@[simp] theorem Four.get_const (x : α) (p : Pos) : (Four.const x).get p = x := by
  fin_cases p <;> rfl

/-- Two Fours are equal when they agree at every position. -/
theorem Four.eq_of_get (q r : Four α) (h : ∀ p, q.get p = r.get p) : q = r := by
  cases q; cases r
  have h0 := h 0; have h1 := h 1; have h2 := h 2; have h3 := h 3
  simp only [Four.get] at h0 h1 h2 h3
  simp [h0, h1, h2, h3]

theorem Four.any_iff (q : Four α) (c : α → Bool) : q.any c = true ↔ ∃ p, c (q.get p) = true := by
  constructor
  · intro h
    simp only [Four.any, Bool.or_eq_true] at h
    rcases h with ((h | h) | h) | h
    · exact ⟨0, h⟩
    · exact ⟨1, h⟩
    · exact ⟨2, h⟩
    · exact ⟨3, h⟩
  · rintro ⟨p, h⟩
    fin_cases p <;> simp_all [Four.any, Four.get]

theorem mem_positionsInOrder (p : Pos) : p ∈ positionsInOrder := by fin_cases p <;> decide

end Sys2Proof
end

