-- ==== Sys2Proof/Laws/State.lean ====
section
/-! SUPPORT. One lemma per field per setter of State, so that no proof unfolds a record update. -/

namespace Sys2Proof.Machine

variable (s : State)

/-! ### setPending -/

@[simp] theorem setPending_pending (x : List Instr) : (s.setPending x).pending = x := rfl
@[simp] theorem setPending_powered (x : List Instr) : (s.setPending x).powered = s.powered := rfl
@[simp] theorem setPending_freeCount (x : List Instr) : (s.setPending x).freeCount = s.freeCount := rfl
@[simp] theorem setPending_straps (x : List Instr) : (s.setPending x).straps = s.straps := rfl
@[simp] theorem setPending_config (x : List Instr) : (s.setPending x).config = s.config := rfl
@[simp] theorem setPending_sfe (x : List Instr) : (s.setPending x).sfe = s.sfe := rfl
@[simp] theorem setPending_sweep (x : List Instr) : (s.setPending x).sweep = s.sweep := rfl
@[simp] theorem setPending_classes (x : List Instr) : (s.setPending x).classes = s.classes := rfl
@[simp] theorem setPending_table (x : List Instr) : (s.setPending x).table = s.table := rfl
@[simp] theorem setPending_lamps (x : List Instr) : (s.setPending x).lamps = s.lamps := rfl
@[simp] theorem setPending_departures (x : List Instr) : (s.setPending x).departures = s.departures := rfl
@[simp] theorem setPending_duty (x : List Instr) : (s.setPending x).duty = s.duty := rfl
@[simp] theorem setPending_link (x : List Instr) : (s.setPending x).link = s.link := rfl
@[simp] theorem setPending_emission (x : List Instr) : (s.setPending x).emission = s.emission := rfl
@[simp] theorem setPending_vehicle (x : List Instr) : (s.setPending x).vehicle = s.vehicle := rfl
@[simp] theorem setPending_modeCtl (x : List Instr) : (s.setPending x).modeCtl = s.modeCtl := rfl
@[simp] theorem setPending_diag (x : List Instr) : (s.setPending x).diag = s.diag := rfl

/-! ### setPowered -/

@[simp] theorem setPowered_pending (x : Bool) : (s.setPowered x).pending = s.pending := rfl
@[simp] theorem setPowered_powered (x : Bool) : (s.setPowered x).powered = x := rfl
@[simp] theorem setPowered_freeCount (x : Bool) : (s.setPowered x).freeCount = s.freeCount := rfl
@[simp] theorem setPowered_straps (x : Bool) : (s.setPowered x).straps = s.straps := rfl
@[simp] theorem setPowered_config (x : Bool) : (s.setPowered x).config = s.config := rfl
@[simp] theorem setPowered_sfe (x : Bool) : (s.setPowered x).sfe = s.sfe := rfl
@[simp] theorem setPowered_sweep (x : Bool) : (s.setPowered x).sweep = s.sweep := rfl
@[simp] theorem setPowered_classes (x : Bool) : (s.setPowered x).classes = s.classes := rfl
@[simp] theorem setPowered_table (x : Bool) : (s.setPowered x).table = s.table := rfl
@[simp] theorem setPowered_lamps (x : Bool) : (s.setPowered x).lamps = s.lamps := rfl
@[simp] theorem setPowered_departures (x : Bool) : (s.setPowered x).departures = s.departures := rfl
@[simp] theorem setPowered_duty (x : Bool) : (s.setPowered x).duty = s.duty := rfl
@[simp] theorem setPowered_link (x : Bool) : (s.setPowered x).link = s.link := rfl
@[simp] theorem setPowered_emission (x : Bool) : (s.setPowered x).emission = s.emission := rfl
@[simp] theorem setPowered_vehicle (x : Bool) : (s.setPowered x).vehicle = s.vehicle := rfl
@[simp] theorem setPowered_modeCtl (x : Bool) : (s.setPowered x).modeCtl = s.modeCtl := rfl
@[simp] theorem setPowered_diag (x : Bool) : (s.setPowered x).diag = s.diag := rfl

/-! ### setFreeCount -/

@[simp] theorem setFreeCount_pending (x : Nat) : (s.setFreeCount x).pending = s.pending := rfl
@[simp] theorem setFreeCount_powered (x : Nat) : (s.setFreeCount x).powered = s.powered := rfl
@[simp] theorem setFreeCount_freeCount (x : Nat) : (s.setFreeCount x).freeCount = x := rfl
@[simp] theorem setFreeCount_straps (x : Nat) : (s.setFreeCount x).straps = s.straps := rfl
@[simp] theorem setFreeCount_config (x : Nat) : (s.setFreeCount x).config = s.config := rfl
@[simp] theorem setFreeCount_sfe (x : Nat) : (s.setFreeCount x).sfe = s.sfe := rfl
@[simp] theorem setFreeCount_sweep (x : Nat) : (s.setFreeCount x).sweep = s.sweep := rfl
@[simp] theorem setFreeCount_classes (x : Nat) : (s.setFreeCount x).classes = s.classes := rfl
@[simp] theorem setFreeCount_table (x : Nat) : (s.setFreeCount x).table = s.table := rfl
@[simp] theorem setFreeCount_lamps (x : Nat) : (s.setFreeCount x).lamps = s.lamps := rfl
@[simp] theorem setFreeCount_departures (x : Nat) : (s.setFreeCount x).departures = s.departures := rfl
@[simp] theorem setFreeCount_duty (x : Nat) : (s.setFreeCount x).duty = s.duty := rfl
@[simp] theorem setFreeCount_link (x : Nat) : (s.setFreeCount x).link = s.link := rfl
@[simp] theorem setFreeCount_emission (x : Nat) : (s.setFreeCount x).emission = s.emission := rfl
@[simp] theorem setFreeCount_vehicle (x : Nat) : (s.setFreeCount x).vehicle = s.vehicle := rfl
@[simp] theorem setFreeCount_modeCtl (x : Nat) : (s.setFreeCount x).modeCtl = s.modeCtl := rfl
@[simp] theorem setFreeCount_diag (x : Nat) : (s.setFreeCount x).diag = s.diag := rfl

/-! ### setStraps -/

@[simp] theorem setStraps_pending (x : BitVec 5) : (s.setStraps x).pending = s.pending := rfl
@[simp] theorem setStraps_powered (x : BitVec 5) : (s.setStraps x).powered = s.powered := rfl
@[simp] theorem setStraps_freeCount (x : BitVec 5) : (s.setStraps x).freeCount = s.freeCount := rfl
@[simp] theorem setStraps_straps (x : BitVec 5) : (s.setStraps x).straps = x := rfl
@[simp] theorem setStraps_config (x : BitVec 5) : (s.setStraps x).config = s.config := rfl
@[simp] theorem setStraps_sfe (x : BitVec 5) : (s.setStraps x).sfe = s.sfe := rfl
@[simp] theorem setStraps_sweep (x : BitVec 5) : (s.setStraps x).sweep = s.sweep := rfl
@[simp] theorem setStraps_classes (x : BitVec 5) : (s.setStraps x).classes = s.classes := rfl
@[simp] theorem setStraps_table (x : BitVec 5) : (s.setStraps x).table = s.table := rfl
@[simp] theorem setStraps_lamps (x : BitVec 5) : (s.setStraps x).lamps = s.lamps := rfl
@[simp] theorem setStraps_departures (x : BitVec 5) : (s.setStraps x).departures = s.departures := rfl
@[simp] theorem setStraps_duty (x : BitVec 5) : (s.setStraps x).duty = s.duty := rfl
@[simp] theorem setStraps_link (x : BitVec 5) : (s.setStraps x).link = s.link := rfl
@[simp] theorem setStraps_emission (x : BitVec 5) : (s.setStraps x).emission = s.emission := rfl
@[simp] theorem setStraps_vehicle (x : BitVec 5) : (s.setStraps x).vehicle = s.vehicle := rfl
@[simp] theorem setStraps_modeCtl (x : BitVec 5) : (s.setStraps x).modeCtl = s.modeCtl := rfl
@[simp] theorem setStraps_diag (x : BitVec 5) : (s.setStraps x).diag = s.diag := rfl

/-! ### setConfig -/

@[simp] theorem setConfig_pending (x : Configuration) : (s.setConfig x).pending = s.pending := rfl
@[simp] theorem setConfig_powered (x : Configuration) : (s.setConfig x).powered = s.powered := rfl
@[simp] theorem setConfig_freeCount (x : Configuration) : (s.setConfig x).freeCount = s.freeCount := rfl
@[simp] theorem setConfig_straps (x : Configuration) : (s.setConfig x).straps = s.straps := rfl
@[simp] theorem setConfig_config (x : Configuration) : (s.setConfig x).config = x := rfl
@[simp] theorem setConfig_sfe (x : Configuration) : (s.setConfig x).sfe = s.sfe := rfl
@[simp] theorem setConfig_sweep (x : Configuration) : (s.setConfig x).sweep = s.sweep := rfl
@[simp] theorem setConfig_classes (x : Configuration) : (s.setConfig x).classes = s.classes := rfl
@[simp] theorem setConfig_table (x : Configuration) : (s.setConfig x).table = s.table := rfl
@[simp] theorem setConfig_lamps (x : Configuration) : (s.setConfig x).lamps = s.lamps := rfl
@[simp] theorem setConfig_departures (x : Configuration) : (s.setConfig x).departures = s.departures := rfl
@[simp] theorem setConfig_duty (x : Configuration) : (s.setConfig x).duty = s.duty := rfl
@[simp] theorem setConfig_link (x : Configuration) : (s.setConfig x).link = s.link := rfl
@[simp] theorem setConfig_emission (x : Configuration) : (s.setConfig x).emission = s.emission := rfl
@[simp] theorem setConfig_vehicle (x : Configuration) : (s.setConfig x).vehicle = s.vehicle := rfl
@[simp] theorem setConfig_modeCtl (x : Configuration) : (s.setConfig x).modeCtl = s.modeCtl := rfl
@[simp] theorem setConfig_diag (x : Configuration) : (s.setConfig x).diag = s.diag := rfl

/-! ### setSfe -/

@[simp] theorem setSfe_pending (x : Sfe) : (s.setSfe x).pending = s.pending := rfl
@[simp] theorem setSfe_powered (x : Sfe) : (s.setSfe x).powered = s.powered := rfl
@[simp] theorem setSfe_freeCount (x : Sfe) : (s.setSfe x).freeCount = s.freeCount := rfl
@[simp] theorem setSfe_straps (x : Sfe) : (s.setSfe x).straps = s.straps := rfl
@[simp] theorem setSfe_config (x : Sfe) : (s.setSfe x).config = s.config := rfl
@[simp] theorem setSfe_sfe (x : Sfe) : (s.setSfe x).sfe = x := rfl
@[simp] theorem setSfe_sweep (x : Sfe) : (s.setSfe x).sweep = s.sweep := rfl
@[simp] theorem setSfe_classes (x : Sfe) : (s.setSfe x).classes = s.classes := rfl
@[simp] theorem setSfe_table (x : Sfe) : (s.setSfe x).table = s.table := rfl
@[simp] theorem setSfe_lamps (x : Sfe) : (s.setSfe x).lamps = s.lamps := rfl
@[simp] theorem setSfe_departures (x : Sfe) : (s.setSfe x).departures = s.departures := rfl
@[simp] theorem setSfe_duty (x : Sfe) : (s.setSfe x).duty = s.duty := rfl
@[simp] theorem setSfe_link (x : Sfe) : (s.setSfe x).link = s.link := rfl
@[simp] theorem setSfe_emission (x : Sfe) : (s.setSfe x).emission = s.emission := rfl
@[simp] theorem setSfe_vehicle (x : Sfe) : (s.setSfe x).vehicle = s.vehicle := rfl
@[simp] theorem setSfe_modeCtl (x : Sfe) : (s.setSfe x).modeCtl = s.modeCtl := rfl
@[simp] theorem setSfe_diag (x : Sfe) : (s.setSfe x).diag = s.diag := rfl

/-! ### setSweep -/

@[simp] theorem setSweep_pending (x : SweepCtl) : (s.setSweep x).pending = s.pending := rfl
@[simp] theorem setSweep_powered (x : SweepCtl) : (s.setSweep x).powered = s.powered := rfl
@[simp] theorem setSweep_freeCount (x : SweepCtl) : (s.setSweep x).freeCount = s.freeCount := rfl
@[simp] theorem setSweep_straps (x : SweepCtl) : (s.setSweep x).straps = s.straps := rfl
@[simp] theorem setSweep_config (x : SweepCtl) : (s.setSweep x).config = s.config := rfl
@[simp] theorem setSweep_sfe (x : SweepCtl) : (s.setSweep x).sfe = s.sfe := rfl
@[simp] theorem setSweep_sweep (x : SweepCtl) : (s.setSweep x).sweep = x := rfl
@[simp] theorem setSweep_classes (x : SweepCtl) : (s.setSweep x).classes = s.classes := rfl
@[simp] theorem setSweep_table (x : SweepCtl) : (s.setSweep x).table = s.table := rfl
@[simp] theorem setSweep_lamps (x : SweepCtl) : (s.setSweep x).lamps = s.lamps := rfl
@[simp] theorem setSweep_departures (x : SweepCtl) : (s.setSweep x).departures = s.departures := rfl
@[simp] theorem setSweep_duty (x : SweepCtl) : (s.setSweep x).duty = s.duty := rfl
@[simp] theorem setSweep_link (x : SweepCtl) : (s.setSweep x).link = s.link := rfl
@[simp] theorem setSweep_emission (x : SweepCtl) : (s.setSweep x).emission = s.emission := rfl
@[simp] theorem setSweep_vehicle (x : SweepCtl) : (s.setSweep x).vehicle = s.vehicle := rfl
@[simp] theorem setSweep_modeCtl (x : SweepCtl) : (s.setSweep x).modeCtl = s.modeCtl := rfl
@[simp] theorem setSweep_diag (x : SweepCtl) : (s.setSweep x).diag = s.diag := rfl

/-! ### setClasses -/

@[simp] theorem setClasses_pending (x : Four ClsState) : (s.setClasses x).pending = s.pending := rfl
@[simp] theorem setClasses_powered (x : Four ClsState) : (s.setClasses x).powered = s.powered := rfl
@[simp] theorem setClasses_freeCount (x : Four ClsState) : (s.setClasses x).freeCount = s.freeCount := rfl
@[simp] theorem setClasses_straps (x : Four ClsState) : (s.setClasses x).straps = s.straps := rfl
@[simp] theorem setClasses_config (x : Four ClsState) : (s.setClasses x).config = s.config := rfl
@[simp] theorem setClasses_sfe (x : Four ClsState) : (s.setClasses x).sfe = s.sfe := rfl
@[simp] theorem setClasses_sweep (x : Four ClsState) : (s.setClasses x).sweep = s.sweep := rfl
@[simp] theorem setClasses_classes (x : Four ClsState) : (s.setClasses x).classes = x := rfl
@[simp] theorem setClasses_table (x : Four ClsState) : (s.setClasses x).table = s.table := rfl
@[simp] theorem setClasses_lamps (x : Four ClsState) : (s.setClasses x).lamps = s.lamps := rfl
@[simp] theorem setClasses_departures (x : Four ClsState) : (s.setClasses x).departures = s.departures := rfl
@[simp] theorem setClasses_duty (x : Four ClsState) : (s.setClasses x).duty = s.duty := rfl
@[simp] theorem setClasses_link (x : Four ClsState) : (s.setClasses x).link = s.link := rfl
@[simp] theorem setClasses_emission (x : Four ClsState) : (s.setClasses x).emission = s.emission := rfl
@[simp] theorem setClasses_vehicle (x : Four ClsState) : (s.setClasses x).vehicle = s.vehicle := rfl
@[simp] theorem setClasses_modeCtl (x : Four ClsState) : (s.setClasses x).modeCtl = s.modeCtl := rfl
@[simp] theorem setClasses_diag (x : Four ClsState) : (s.setClasses x).diag = s.diag := rfl

/-! ### setTable -/

@[simp] theorem setTable_pending (x : Positions) : (s.setTable x).pending = s.pending := rfl
@[simp] theorem setTable_powered (x : Positions) : (s.setTable x).powered = s.powered := rfl
@[simp] theorem setTable_freeCount (x : Positions) : (s.setTable x).freeCount = s.freeCount := rfl
@[simp] theorem setTable_straps (x : Positions) : (s.setTable x).straps = s.straps := rfl
@[simp] theorem setTable_config (x : Positions) : (s.setTable x).config = s.config := rfl
@[simp] theorem setTable_sfe (x : Positions) : (s.setTable x).sfe = s.sfe := rfl
@[simp] theorem setTable_sweep (x : Positions) : (s.setTable x).sweep = s.sweep := rfl
@[simp] theorem setTable_classes (x : Positions) : (s.setTable x).classes = s.classes := rfl
@[simp] theorem setTable_table (x : Positions) : (s.setTable x).table = x := rfl
@[simp] theorem setTable_lamps (x : Positions) : (s.setTable x).lamps = s.lamps := rfl
@[simp] theorem setTable_departures (x : Positions) : (s.setTable x).departures = s.departures := rfl
@[simp] theorem setTable_duty (x : Positions) : (s.setTable x).duty = s.duty := rfl
@[simp] theorem setTable_link (x : Positions) : (s.setTable x).link = s.link := rfl
@[simp] theorem setTable_emission (x : Positions) : (s.setTable x).emission = s.emission := rfl
@[simp] theorem setTable_vehicle (x : Positions) : (s.setTable x).vehicle = s.vehicle := rfl
@[simp] theorem setTable_modeCtl (x : Positions) : (s.setTable x).modeCtl = s.modeCtl := rfl
@[simp] theorem setTable_diag (x : Positions) : (s.setTable x).diag = s.diag := rfl

/-! ### setLamps -/

@[simp] theorem setLamps_pending (x : Four Lamp) : (s.setLamps x).pending = s.pending := rfl
@[simp] theorem setLamps_powered (x : Four Lamp) : (s.setLamps x).powered = s.powered := rfl
@[simp] theorem setLamps_freeCount (x : Four Lamp) : (s.setLamps x).freeCount = s.freeCount := rfl
@[simp] theorem setLamps_straps (x : Four Lamp) : (s.setLamps x).straps = s.straps := rfl
@[simp] theorem setLamps_config (x : Four Lamp) : (s.setLamps x).config = s.config := rfl
@[simp] theorem setLamps_sfe (x : Four Lamp) : (s.setLamps x).sfe = s.sfe := rfl
@[simp] theorem setLamps_sweep (x : Four Lamp) : (s.setLamps x).sweep = s.sweep := rfl
@[simp] theorem setLamps_classes (x : Four Lamp) : (s.setLamps x).classes = s.classes := rfl
@[simp] theorem setLamps_table (x : Four Lamp) : (s.setLamps x).table = s.table := rfl
@[simp] theorem setLamps_lamps (x : Four Lamp) : (s.setLamps x).lamps = x := rfl
@[simp] theorem setLamps_departures (x : Four Lamp) : (s.setLamps x).departures = s.departures := rfl
@[simp] theorem setLamps_duty (x : Four Lamp) : (s.setLamps x).duty = s.duty := rfl
@[simp] theorem setLamps_link (x : Four Lamp) : (s.setLamps x).link = s.link := rfl
@[simp] theorem setLamps_emission (x : Four Lamp) : (s.setLamps x).emission = s.emission := rfl
@[simp] theorem setLamps_vehicle (x : Four Lamp) : (s.setLamps x).vehicle = s.vehicle := rfl
@[simp] theorem setLamps_modeCtl (x : Four Lamp) : (s.setLamps x).modeCtl = s.modeCtl := rfl
@[simp] theorem setLamps_diag (x : Four Lamp) : (s.setLamps x).diag = s.diag := rfl

/-! ### setDepartures -/

@[simp] theorem setDepartures_pending (x : List DepEntry) : (s.setDepartures x).pending = s.pending := rfl
@[simp] theorem setDepartures_powered (x : List DepEntry) : (s.setDepartures x).powered = s.powered := rfl
@[simp] theorem setDepartures_freeCount (x : List DepEntry) : (s.setDepartures x).freeCount = s.freeCount := rfl
@[simp] theorem setDepartures_straps (x : List DepEntry) : (s.setDepartures x).straps = s.straps := rfl
@[simp] theorem setDepartures_config (x : List DepEntry) : (s.setDepartures x).config = s.config := rfl
@[simp] theorem setDepartures_sfe (x : List DepEntry) : (s.setDepartures x).sfe = s.sfe := rfl
@[simp] theorem setDepartures_sweep (x : List DepEntry) : (s.setDepartures x).sweep = s.sweep := rfl
@[simp] theorem setDepartures_classes (x : List DepEntry) : (s.setDepartures x).classes = s.classes := rfl
@[simp] theorem setDepartures_table (x : List DepEntry) : (s.setDepartures x).table = s.table := rfl
@[simp] theorem setDepartures_lamps (x : List DepEntry) : (s.setDepartures x).lamps = s.lamps := rfl
@[simp] theorem setDepartures_departures (x : List DepEntry) : (s.setDepartures x).departures = x := rfl
@[simp] theorem setDepartures_duty (x : List DepEntry) : (s.setDepartures x).duty = s.duty := rfl
@[simp] theorem setDepartures_link (x : List DepEntry) : (s.setDepartures x).link = s.link := rfl
@[simp] theorem setDepartures_emission (x : List DepEntry) : (s.setDepartures x).emission = s.emission := rfl
@[simp] theorem setDepartures_vehicle (x : List DepEntry) : (s.setDepartures x).vehicle = s.vehicle := rfl
@[simp] theorem setDepartures_modeCtl (x : List DepEntry) : (s.setDepartures x).modeCtl = s.modeCtl := rfl
@[simp] theorem setDepartures_diag (x : List DepEntry) : (s.setDepartures x).diag = s.diag := rfl

/-! ### setDuty -/

@[simp] theorem setDuty_pending (x : Duty) : (s.setDuty x).pending = s.pending := rfl
@[simp] theorem setDuty_powered (x : Duty) : (s.setDuty x).powered = s.powered := rfl
@[simp] theorem setDuty_freeCount (x : Duty) : (s.setDuty x).freeCount = s.freeCount := rfl
@[simp] theorem setDuty_straps (x : Duty) : (s.setDuty x).straps = s.straps := rfl
@[simp] theorem setDuty_config (x : Duty) : (s.setDuty x).config = s.config := rfl
@[simp] theorem setDuty_sfe (x : Duty) : (s.setDuty x).sfe = s.sfe := rfl
@[simp] theorem setDuty_sweep (x : Duty) : (s.setDuty x).sweep = s.sweep := rfl
@[simp] theorem setDuty_classes (x : Duty) : (s.setDuty x).classes = s.classes := rfl
@[simp] theorem setDuty_table (x : Duty) : (s.setDuty x).table = s.table := rfl
@[simp] theorem setDuty_lamps (x : Duty) : (s.setDuty x).lamps = s.lamps := rfl
@[simp] theorem setDuty_departures (x : Duty) : (s.setDuty x).departures = s.departures := rfl
@[simp] theorem setDuty_duty (x : Duty) : (s.setDuty x).duty = x := rfl
@[simp] theorem setDuty_link (x : Duty) : (s.setDuty x).link = s.link := rfl
@[simp] theorem setDuty_emission (x : Duty) : (s.setDuty x).emission = s.emission := rfl
@[simp] theorem setDuty_vehicle (x : Duty) : (s.setDuty x).vehicle = s.vehicle := rfl
@[simp] theorem setDuty_modeCtl (x : Duty) : (s.setDuty x).modeCtl = s.modeCtl := rfl
@[simp] theorem setDuty_diag (x : Duty) : (s.setDuty x).diag = s.diag := rfl

/-! ### setLink -/

@[simp] theorem setLink_pending (x : Link) : (s.setLink x).pending = s.pending := rfl
@[simp] theorem setLink_powered (x : Link) : (s.setLink x).powered = s.powered := rfl
@[simp] theorem setLink_freeCount (x : Link) : (s.setLink x).freeCount = s.freeCount := rfl
@[simp] theorem setLink_straps (x : Link) : (s.setLink x).straps = s.straps := rfl
@[simp] theorem setLink_config (x : Link) : (s.setLink x).config = s.config := rfl
@[simp] theorem setLink_sfe (x : Link) : (s.setLink x).sfe = s.sfe := rfl
@[simp] theorem setLink_sweep (x : Link) : (s.setLink x).sweep = s.sweep := rfl
@[simp] theorem setLink_classes (x : Link) : (s.setLink x).classes = s.classes := rfl
@[simp] theorem setLink_table (x : Link) : (s.setLink x).table = s.table := rfl
@[simp] theorem setLink_lamps (x : Link) : (s.setLink x).lamps = s.lamps := rfl
@[simp] theorem setLink_departures (x : Link) : (s.setLink x).departures = s.departures := rfl
@[simp] theorem setLink_duty (x : Link) : (s.setLink x).duty = s.duty := rfl
@[simp] theorem setLink_link (x : Link) : (s.setLink x).link = x := rfl
@[simp] theorem setLink_emission (x : Link) : (s.setLink x).emission = s.emission := rfl
@[simp] theorem setLink_vehicle (x : Link) : (s.setLink x).vehicle = s.vehicle := rfl
@[simp] theorem setLink_modeCtl (x : Link) : (s.setLink x).modeCtl = s.modeCtl := rfl
@[simp] theorem setLink_diag (x : Link) : (s.setLink x).diag = s.diag := rfl

/-! ### setEmission -/

@[simp] theorem setEmission_pending (x : Emission) : (s.setEmission x).pending = s.pending := rfl
@[simp] theorem setEmission_powered (x : Emission) : (s.setEmission x).powered = s.powered := rfl
@[simp] theorem setEmission_freeCount (x : Emission) : (s.setEmission x).freeCount = s.freeCount := rfl
@[simp] theorem setEmission_straps (x : Emission) : (s.setEmission x).straps = s.straps := rfl
@[simp] theorem setEmission_config (x : Emission) : (s.setEmission x).config = s.config := rfl
@[simp] theorem setEmission_sfe (x : Emission) : (s.setEmission x).sfe = s.sfe := rfl
@[simp] theorem setEmission_sweep (x : Emission) : (s.setEmission x).sweep = s.sweep := rfl
@[simp] theorem setEmission_classes (x : Emission) : (s.setEmission x).classes = s.classes := rfl
@[simp] theorem setEmission_table (x : Emission) : (s.setEmission x).table = s.table := rfl
@[simp] theorem setEmission_lamps (x : Emission) : (s.setEmission x).lamps = s.lamps := rfl
@[simp] theorem setEmission_departures (x : Emission) : (s.setEmission x).departures = s.departures := rfl
@[simp] theorem setEmission_duty (x : Emission) : (s.setEmission x).duty = s.duty := rfl
@[simp] theorem setEmission_link (x : Emission) : (s.setEmission x).link = s.link := rfl
@[simp] theorem setEmission_emission (x : Emission) : (s.setEmission x).emission = x := rfl
@[simp] theorem setEmission_vehicle (x : Emission) : (s.setEmission x).vehicle = s.vehicle := rfl
@[simp] theorem setEmission_modeCtl (x : Emission) : (s.setEmission x).modeCtl = s.modeCtl := rfl
@[simp] theorem setEmission_diag (x : Emission) : (s.setEmission x).diag = s.diag := rfl

/-! ### setVehicle -/

@[simp] theorem setVehicle_pending (x : Vehicle) : (s.setVehicle x).pending = s.pending := rfl
@[simp] theorem setVehicle_powered (x : Vehicle) : (s.setVehicle x).powered = s.powered := rfl
@[simp] theorem setVehicle_freeCount (x : Vehicle) : (s.setVehicle x).freeCount = s.freeCount := rfl
@[simp] theorem setVehicle_straps (x : Vehicle) : (s.setVehicle x).straps = s.straps := rfl
@[simp] theorem setVehicle_config (x : Vehicle) : (s.setVehicle x).config = s.config := rfl
@[simp] theorem setVehicle_sfe (x : Vehicle) : (s.setVehicle x).sfe = s.sfe := rfl
@[simp] theorem setVehicle_sweep (x : Vehicle) : (s.setVehicle x).sweep = s.sweep := rfl
@[simp] theorem setVehicle_classes (x : Vehicle) : (s.setVehicle x).classes = s.classes := rfl
@[simp] theorem setVehicle_table (x : Vehicle) : (s.setVehicle x).table = s.table := rfl
@[simp] theorem setVehicle_lamps (x : Vehicle) : (s.setVehicle x).lamps = s.lamps := rfl
@[simp] theorem setVehicle_departures (x : Vehicle) : (s.setVehicle x).departures = s.departures := rfl
@[simp] theorem setVehicle_duty (x : Vehicle) : (s.setVehicle x).duty = s.duty := rfl
@[simp] theorem setVehicle_link (x : Vehicle) : (s.setVehicle x).link = s.link := rfl
@[simp] theorem setVehicle_emission (x : Vehicle) : (s.setVehicle x).emission = s.emission := rfl
@[simp] theorem setVehicle_vehicle (x : Vehicle) : (s.setVehicle x).vehicle = x := rfl
@[simp] theorem setVehicle_modeCtl (x : Vehicle) : (s.setVehicle x).modeCtl = s.modeCtl := rfl
@[simp] theorem setVehicle_diag (x : Vehicle) : (s.setVehicle x).diag = s.diag := rfl

/-! ### setModeCtl -/

@[simp] theorem setModeCtl_pending (x : ModeCtl) : (s.setModeCtl x).pending = s.pending := rfl
@[simp] theorem setModeCtl_powered (x : ModeCtl) : (s.setModeCtl x).powered = s.powered := rfl
@[simp] theorem setModeCtl_freeCount (x : ModeCtl) : (s.setModeCtl x).freeCount = s.freeCount := rfl
@[simp] theorem setModeCtl_straps (x : ModeCtl) : (s.setModeCtl x).straps = s.straps := rfl
@[simp] theorem setModeCtl_config (x : ModeCtl) : (s.setModeCtl x).config = s.config := rfl
@[simp] theorem setModeCtl_sfe (x : ModeCtl) : (s.setModeCtl x).sfe = s.sfe := rfl
@[simp] theorem setModeCtl_sweep (x : ModeCtl) : (s.setModeCtl x).sweep = s.sweep := rfl
@[simp] theorem setModeCtl_classes (x : ModeCtl) : (s.setModeCtl x).classes = s.classes := rfl
@[simp] theorem setModeCtl_table (x : ModeCtl) : (s.setModeCtl x).table = s.table := rfl
@[simp] theorem setModeCtl_lamps (x : ModeCtl) : (s.setModeCtl x).lamps = s.lamps := rfl
@[simp] theorem setModeCtl_departures (x : ModeCtl) : (s.setModeCtl x).departures = s.departures := rfl
@[simp] theorem setModeCtl_duty (x : ModeCtl) : (s.setModeCtl x).duty = s.duty := rfl
@[simp] theorem setModeCtl_link (x : ModeCtl) : (s.setModeCtl x).link = s.link := rfl
@[simp] theorem setModeCtl_emission (x : ModeCtl) : (s.setModeCtl x).emission = s.emission := rfl
@[simp] theorem setModeCtl_vehicle (x : ModeCtl) : (s.setModeCtl x).vehicle = s.vehicle := rfl
@[simp] theorem setModeCtl_modeCtl (x : ModeCtl) : (s.setModeCtl x).modeCtl = x := rfl
@[simp] theorem setModeCtl_diag (x : ModeCtl) : (s.setModeCtl x).diag = s.diag := rfl

/-! ### setDiag -/

@[simp] theorem setDiag_pending (x : Diag) : (s.setDiag x).pending = s.pending := rfl
@[simp] theorem setDiag_powered (x : Diag) : (s.setDiag x).powered = s.powered := rfl
@[simp] theorem setDiag_freeCount (x : Diag) : (s.setDiag x).freeCount = s.freeCount := rfl
@[simp] theorem setDiag_straps (x : Diag) : (s.setDiag x).straps = s.straps := rfl
@[simp] theorem setDiag_config (x : Diag) : (s.setDiag x).config = s.config := rfl
@[simp] theorem setDiag_sfe (x : Diag) : (s.setDiag x).sfe = s.sfe := rfl
@[simp] theorem setDiag_sweep (x : Diag) : (s.setDiag x).sweep = s.sweep := rfl
@[simp] theorem setDiag_classes (x : Diag) : (s.setDiag x).classes = s.classes := rfl
@[simp] theorem setDiag_table (x : Diag) : (s.setDiag x).table = s.table := rfl
@[simp] theorem setDiag_lamps (x : Diag) : (s.setDiag x).lamps = s.lamps := rfl
@[simp] theorem setDiag_departures (x : Diag) : (s.setDiag x).departures = s.departures := rfl
@[simp] theorem setDiag_duty (x : Diag) : (s.setDiag x).duty = s.duty := rfl
@[simp] theorem setDiag_link (x : Diag) : (s.setDiag x).link = s.link := rfl
@[simp] theorem setDiag_emission (x : Diag) : (s.setDiag x).emission = s.emission := rfl
@[simp] theorem setDiag_vehicle (x : Diag) : (s.setDiag x).vehicle = s.vehicle := rfl
@[simp] theorem setDiag_modeCtl (x : Diag) : (s.setDiag x).modeCtl = s.modeCtl := rfl
@[simp] theorem setDiag_diag (x : Diag) : (s.setDiag x).diag = x := rfl

end Sys2Proof.Machine
end

