-- ==== Sys2Proof/Laws/Keeps.lean ====
section
/-! SUPPORT. For each shared operation, the blocks of the state it leaves as they are, in one lemma that simp reads
field by field: a proof about one block passes every operation that does not touch it. -/

namespace Sys2Proof.Machine

variable (s : State)

/-! ### Reports, counters, queues -/

@[simp] theorem reportLink_keeps (kind : LinkFault) (header : Byte) (payload : List Byte) :
    (s.reportLink kind header payload).pending = s.pending
      ∧ (s.reportLink kind header payload).powered = s.powered
      ∧ (s.reportLink kind header payload).freeCount = s.freeCount
      ∧ (s.reportLink kind header payload).straps = s.straps
      ∧ (s.reportLink kind header payload).config = s.config ∧ (s.reportLink kind header payload).sfe = s.sfe
      ∧ (s.reportLink kind header payload).sweep = s.sweep
      ∧ (s.reportLink kind header payload).classes = s.classes
      ∧ (s.reportLink kind header payload).table = s.table ∧ (s.reportLink kind header payload).lamps = s.lamps
      ∧ (s.reportLink kind header payload).departures = s.departures
      ∧ (s.reportLink kind header payload).duty = s.duty ∧ (s.reportLink kind header payload).link = s.link
      ∧ (s.reportLink kind header payload).emission = s.emission
      ∧ (s.reportLink kind header payload).vehicle = s.vehicle
      ∧ (s.reportLink kind header payload).modeCtl = s.modeCtl := by
  refine ⟨rfl, rfl, rfl, rfl, rfl, rfl, rfl, rfl, rfl, rfl, rfl, rfl, rfl, rfl, rfl, rfl⟩

@[simp] theorem count_keeps (f : Counters → Counters) :
    (s.count f).pending = s.pending ∧ (s.count f).powered = s.powered ∧ (s.count f).freeCount = s.freeCount
      ∧ (s.count f).straps = s.straps ∧ (s.count f).config = s.config ∧ (s.count f).sfe = s.sfe
      ∧ (s.count f).sweep = s.sweep ∧ (s.count f).classes = s.classes ∧ (s.count f).table = s.table
      ∧ (s.count f).lamps = s.lamps ∧ (s.count f).departures = s.departures ∧ (s.count f).duty = s.duty
      ∧ (s.count f).link = s.link ∧ (s.count f).emission = s.emission ∧ (s.count f).vehicle = s.vehicle
      ∧ (s.count f).modeCtl = s.modeCtl := by
  refine ⟨rfl, rfl, rfl, rfl, rfl, rfl, rfl, rfl, rfl, rfl, rfl, rfl, rfl, rfl, rfl, rfl⟩

@[simp] theorem offerTx_keeps (e : TxEntry) :
    (s.offerTx e).pending = s.pending ∧ (s.offerTx e).powered = s.powered
      ∧ (s.offerTx e).freeCount = s.freeCount ∧ (s.offerTx e).straps = s.straps
      ∧ (s.offerTx e).config = s.config ∧ (s.offerTx e).sfe = s.sfe ∧ (s.offerTx e).sweep = s.sweep
      ∧ (s.offerTx e).classes = s.classes ∧ (s.offerTx e).table = s.table ∧ (s.offerTx e).lamps = s.lamps
      ∧ (s.offerTx e).departures = s.departures ∧ (s.offerTx e).duty = s.duty
      ∧ (s.offerTx e).emission = s.emission ∧ (s.offerTx e).vehicle = s.vehicle
      ∧ (s.offerTx e).modeCtl = s.modeCtl := by
  refine ⟨rfl, rfl, rfl, rfl, rfl, rfl, rfl, rfl, rfl, rfl, rfl, rfl, rfl, rfl, rfl⟩

@[simp] theorem place_keeps (kind : FrameKind) (payload : List Byte) :
    (s.place kind payload).pending = s.pending ∧ (s.place kind payload).powered = s.powered
      ∧ (s.place kind payload).freeCount = s.freeCount ∧ (s.place kind payload).straps = s.straps
      ∧ (s.place kind payload).config = s.config ∧ (s.place kind payload).sfe = s.sfe
      ∧ (s.place kind payload).sweep = s.sweep ∧ (s.place kind payload).classes = s.classes
      ∧ (s.place kind payload).table = s.table ∧ (s.place kind payload).lamps = s.lamps
      ∧ (s.place kind payload).departures = s.departures ∧ (s.place kind payload).duty = s.duty
      ∧ (s.place kind payload).emission = s.emission ∧ (s.place kind payload).vehicle = s.vehicle
      ∧ (s.place kind payload).modeCtl = s.modeCtl := by
  refine ⟨rfl, rfl, rfl, rfl, rfl, rfl, rfl, rfl, rfl, rfl, rfl, rfl, rfl, rfl, rfl⟩

@[simp] theorem withdraw_keeps (c : TxEntry → Bool) :
    (s.withdraw c).pending = s.pending ∧ (s.withdraw c).powered = s.powered
      ∧ (s.withdraw c).freeCount = s.freeCount ∧ (s.withdraw c).straps = s.straps
      ∧ (s.withdraw c).config = s.config ∧ (s.withdraw c).sfe = s.sfe ∧ (s.withdraw c).sweep = s.sweep
      ∧ (s.withdraw c).classes = s.classes ∧ (s.withdraw c).table = s.table ∧ (s.withdraw c).lamps = s.lamps
      ∧ (s.withdraw c).departures = s.departures ∧ (s.withdraw c).duty = s.duty
      ∧ (s.withdraw c).emission = s.emission ∧ (s.withdraw c).vehicle = s.vehicle
      ∧ (s.withdraw c).modeCtl = s.modeCtl ∧ (s.withdraw c).diag = s.diag := by
  refine ⟨rfl, rfl, rfl, rfl, rfl, rfl, rfl, rfl, rfl, rfl, rfl, rfl, rfl, rfl, rfl, rfl⟩

@[simp] theorem withdrawProposals_keeps :
    s.withdrawProposals.pending = s.pending ∧ s.withdrawProposals.powered = s.powered
      ∧ s.withdrawProposals.freeCount = s.freeCount ∧ s.withdrawProposals.straps = s.straps
      ∧ s.withdrawProposals.config = s.config ∧ s.withdrawProposals.sfe = s.sfe
      ∧ s.withdrawProposals.sweep = s.sweep ∧ s.withdrawProposals.classes = s.classes
      ∧ s.withdrawProposals.table = s.table ∧ s.withdrawProposals.lamps = s.lamps
      ∧ s.withdrawProposals.departures = s.departures ∧ s.withdrawProposals.duty = s.duty
      ∧ s.withdrawProposals.emission = s.emission ∧ s.withdrawProposals.vehicle = s.vehicle
      ∧ s.withdrawProposals.modeCtl = s.modeCtl ∧ s.withdrawProposals.diag = s.diag := by
  refine ⟨rfl, rfl, rfl, rfl, rfl, rfl, rfl, rfl, rfl, rfl, rfl, rfl, rfl, rfl, rfl, rfl⟩

@[simp] theorem withdrawAlerts_keeps (p : Pos) :
    (s.withdrawAlerts p).pending = s.pending ∧ (s.withdrawAlerts p).powered = s.powered
      ∧ (s.withdrawAlerts p).freeCount = s.freeCount ∧ (s.withdrawAlerts p).straps = s.straps
      ∧ (s.withdrawAlerts p).config = s.config ∧ (s.withdrawAlerts p).sfe = s.sfe
      ∧ (s.withdrawAlerts p).sweep = s.sweep ∧ (s.withdrawAlerts p).classes = s.classes
      ∧ (s.withdrawAlerts p).table = s.table ∧ (s.withdrawAlerts p).lamps = s.lamps
      ∧ (s.withdrawAlerts p).departures = s.departures ∧ (s.withdrawAlerts p).duty = s.duty
      ∧ (s.withdrawAlerts p).emission = s.emission ∧ (s.withdrawAlerts p).vehicle = s.vehicle
      ∧ (s.withdrawAlerts p).modeCtl = s.modeCtl ∧ (s.withdrawAlerts p).diag = s.diag := by
  refine ⟨rfl, rfl, rfl, rfl, rfl, rfl, rfl, rfl, rfl, rfl, rfl, rfl, rfl, rfl, rfl, rfl⟩

@[simp] theorem offerRx_keeps (f : RxFrame) :
    (s.offerRx f).pending = s.pending ∧ (s.offerRx f).powered = s.powered
      ∧ (s.offerRx f).freeCount = s.freeCount ∧ (s.offerRx f).straps = s.straps
      ∧ (s.offerRx f).config = s.config ∧ (s.offerRx f).sfe = s.sfe ∧ (s.offerRx f).sweep = s.sweep
      ∧ (s.offerRx f).classes = s.classes ∧ (s.offerRx f).table = s.table ∧ (s.offerRx f).lamps = s.lamps
      ∧ (s.offerRx f).departures = s.departures ∧ (s.offerRx f).duty = s.duty
      ∧ (s.offerRx f).emission = s.emission ∧ (s.offerRx f).vehicle = s.vehicle
      ∧ (s.offerRx f).modeCtl = s.modeCtl := by
  unfold State.offerRx
  repeat' split
  all_goals simp

@[simp] theorem takeFrame_keeps (f : RxFrame) :
    (s.takeFrame f).pending = s.pending ∧ (s.takeFrame f).powered = s.powered
      ∧ (s.takeFrame f).freeCount = s.freeCount ∧ (s.takeFrame f).straps = s.straps
      ∧ (s.takeFrame f).config = s.config ∧ (s.takeFrame f).sfe = s.sfe ∧ (s.takeFrame f).sweep = s.sweep
      ∧ (s.takeFrame f).classes = s.classes ∧ (s.takeFrame f).table = s.table ∧ (s.takeFrame f).lamps = s.lamps
      ∧ (s.takeFrame f).departures = s.departures ∧ (s.takeFrame f).duty = s.duty
      ∧ (s.takeFrame f).emission = s.emission ∧ (s.takeFrame f).vehicle = s.vehicle
      ∧ (s.takeFrame f).modeCtl = s.modeCtl ∧ (s.takeFrame f).diag = s.diag := by
  refine ⟨rfl, rfl, rfl, rfl, rfl, rfl, rfl, rfl, rfl, rfl, rfl, rfl, rfl, rfl, rfl, rfl⟩

/-! ### Seats, list, claims -/

@[simp] theorem updateSeat_keeps (p : Pos) (f : Seat → Seat) :
    (s.updateSeat p f).pending = s.pending ∧ (s.updateSeat p f).powered = s.powered
      ∧ (s.updateSeat p f).freeCount = s.freeCount ∧ (s.updateSeat p f).straps = s.straps
      ∧ (s.updateSeat p f).config = s.config ∧ (s.updateSeat p f).sfe = s.sfe
      ∧ (s.updateSeat p f).sweep = s.sweep ∧ (s.updateSeat p f).classes = s.classes
      ∧ (s.updateSeat p f).lamps = s.lamps ∧ (s.updateSeat p f).departures = s.departures
      ∧ (s.updateSeat p f).duty = s.duty ∧ (s.updateSeat p f).link = s.link
      ∧ (s.updateSeat p f).emission = s.emission ∧ (s.updateSeat p f).vehicle = s.vehicle
      ∧ (s.updateSeat p f).modeCtl = s.modeCtl ∧ (s.updateSeat p f).diag = s.diag := by
  refine ⟨rfl, rfl, rfl, rfl, rfl, rfl, rfl, rfl, rfl, rfl, rfl, rfl, rfl, rfl, rfl, rfl⟩

@[simp] theorem updateRecord_keeps (p : Pos) (f : Record → Record) :
    (s.updateRecord p f).pending = s.pending ∧ (s.updateRecord p f).powered = s.powered
      ∧ (s.updateRecord p f).freeCount = s.freeCount ∧ (s.updateRecord p f).straps = s.straps
      ∧ (s.updateRecord p f).config = s.config ∧ (s.updateRecord p f).sfe = s.sfe
      ∧ (s.updateRecord p f).sweep = s.sweep ∧ (s.updateRecord p f).classes = s.classes
      ∧ (s.updateRecord p f).lamps = s.lamps ∧ (s.updateRecord p f).departures = s.departures
      ∧ (s.updateRecord p f).duty = s.duty ∧ (s.updateRecord p f).link = s.link
      ∧ (s.updateRecord p f).emission = s.emission ∧ (s.updateRecord p f).vehicle = s.vehicle
      ∧ (s.updateRecord p f).modeCtl = s.modeCtl ∧ (s.updateRecord p f).diag = s.diag := by
  refine ⟨rfl, rfl, rfl, rfl, rfl, rfl, rfl, rfl, rfl, rfl, rfl, rfl, rfl, rfl, rfl, rfl⟩

@[simp] theorem mapSeats_keeps (f : Pos → Seat → Seat) :
    (s.mapSeats f).pending = s.pending ∧ (s.mapSeats f).powered = s.powered
      ∧ (s.mapSeats f).freeCount = s.freeCount ∧ (s.mapSeats f).straps = s.straps
      ∧ (s.mapSeats f).config = s.config ∧ (s.mapSeats f).sfe = s.sfe ∧ (s.mapSeats f).sweep = s.sweep
      ∧ (s.mapSeats f).classes = s.classes ∧ (s.mapSeats f).lamps = s.lamps
      ∧ (s.mapSeats f).departures = s.departures ∧ (s.mapSeats f).duty = s.duty ∧ (s.mapSeats f).link = s.link
      ∧ (s.mapSeats f).emission = s.emission ∧ (s.mapSeats f).vehicle = s.vehicle
      ∧ (s.mapSeats f).modeCtl = s.modeCtl ∧ (s.mapSeats f).diag = s.diag := by
  refine ⟨rfl, rfl, rfl, rfl, rfl, rfl, rfl, rfl, rfl, rfl, rfl, rfl, rfl, rfl, rfl, rfl⟩

@[simp] theorem joinEntry_keeps (e : DepEntry) :
    (s.joinEntry e).pending = s.pending ∧ (s.joinEntry e).powered = s.powered
      ∧ (s.joinEntry e).freeCount = s.freeCount ∧ (s.joinEntry e).straps = s.straps
      ∧ (s.joinEntry e).config = s.config ∧ (s.joinEntry e).sfe = s.sfe ∧ (s.joinEntry e).sweep = s.sweep
      ∧ (s.joinEntry e).classes = s.classes ∧ (s.joinEntry e).table = s.table ∧ (s.joinEntry e).lamps = s.lamps
      ∧ (s.joinEntry e).duty = s.duty ∧ (s.joinEntry e).link = s.link ∧ (s.joinEntry e).emission = s.emission
      ∧ (s.joinEntry e).vehicle = s.vehicle ∧ (s.joinEntry e).modeCtl = s.modeCtl := by
  unfold State.joinEntry
  split <;> simp

@[simp] theorem endClaim_keeps (id : OccupantId) (tag : DepTag) :
    (s.endClaim id tag).pending = s.pending ∧ (s.endClaim id tag).powered = s.powered
      ∧ (s.endClaim id tag).freeCount = s.freeCount ∧ (s.endClaim id tag).straps = s.straps
      ∧ (s.endClaim id tag).config = s.config ∧ (s.endClaim id tag).sfe = s.sfe
      ∧ (s.endClaim id tag).sweep = s.sweep ∧ (s.endClaim id tag).classes = s.classes
      ∧ (s.endClaim id tag).table = s.table ∧ (s.endClaim id tag).lamps = s.lamps
      ∧ (s.endClaim id tag).departures = s.departures ∧ (s.endClaim id tag).duty = s.duty
      ∧ (s.endClaim id tag).emission = s.emission ∧ (s.endClaim id tag).vehicle = s.vehicle
      ∧ (s.endClaim id tag).modeCtl = s.modeCtl ∧ (s.endClaim id tag).diag = s.diag := by
  refine ⟨rfl, rfl, rfl, rfl, rfl, rfl, rfl, rfl, rfl, rfl, rfl, rfl, rfl, rfl, rfl, rfl⟩

@[simp] theorem endClaimOf_keeps (r : Record) :
    (s.endClaimOf r).pending = s.pending ∧ (s.endClaimOf r).powered = s.powered
      ∧ (s.endClaimOf r).freeCount = s.freeCount ∧ (s.endClaimOf r).straps = s.straps
      ∧ (s.endClaimOf r).config = s.config ∧ (s.endClaimOf r).sfe = s.sfe ∧ (s.endClaimOf r).sweep = s.sweep
      ∧ (s.endClaimOf r).classes = s.classes ∧ (s.endClaimOf r).table = s.table
      ∧ (s.endClaimOf r).lamps = s.lamps ∧ (s.endClaimOf r).departures = s.departures
      ∧ (s.endClaimOf r).duty = s.duty ∧ (s.endClaimOf r).emission = s.emission
      ∧ (s.endClaimOf r).vehicle = s.vehicle ∧ (s.endClaimOf r).modeCtl = s.modeCtl
      ∧ (s.endClaimOf r).diag = s.diag := by
  unfold State.endClaimOf
  split <;> simp

@[simp] theorem testLeftBehind_keeps :
    s.testLeftBehind.pending = s.pending ∧ s.testLeftBehind.powered = s.powered
      ∧ s.testLeftBehind.freeCount = s.freeCount ∧ s.testLeftBehind.straps = s.straps
      ∧ s.testLeftBehind.config = s.config ∧ s.testLeftBehind.sfe = s.sfe ∧ s.testLeftBehind.sweep = s.sweep
      ∧ s.testLeftBehind.classes = s.classes ∧ s.testLeftBehind.table = s.table
      ∧ s.testLeftBehind.lamps = s.lamps ∧ s.testLeftBehind.departures = s.departures
      ∧ s.testLeftBehind.duty = s.duty ∧ s.testLeftBehind.link = s.link ∧ s.testLeftBehind.emission = s.emission
      ∧ s.testLeftBehind.vehicle = s.vehicle ∧ s.testLeftBehind.diag = s.diag := by
  refine ⟨rfl, rfl, rfl, rfl, rfl, rfl, rfl, rfl, rfl, rfl, rfl, rfl, rfl, rfl, rfl, rfl⟩

@[simp] theorem endAlert_keeps (p : Pos) (after : Alert) :
    (s.endAlert p after).pending = s.pending ∧ (s.endAlert p after).powered = s.powered
      ∧ (s.endAlert p after).freeCount = s.freeCount ∧ (s.endAlert p after).straps = s.straps
      ∧ (s.endAlert p after).config = s.config ∧ (s.endAlert p after).sfe = s.sfe
      ∧ (s.endAlert p after).sweep = s.sweep ∧ (s.endAlert p after).classes = s.classes
      ∧ (s.endAlert p after).lamps = s.lamps ∧ (s.endAlert p after).departures = s.departures
      ∧ (s.endAlert p after).duty = s.duty ∧ (s.endAlert p after).emission = s.emission
      ∧ (s.endAlert p after).vehicle = s.vehicle ∧ (s.endAlert p after).modeCtl = s.modeCtl
      ∧ (s.endAlert p after).diag = s.diag := by
  unfold State.endAlert
  split
  · split <;> simp
  · simp

@[simp] theorem acknowledgeAlerts_keeps :
    s.acknowledgeAlerts.pending = s.pending ∧ s.acknowledgeAlerts.powered = s.powered
      ∧ s.acknowledgeAlerts.freeCount = s.freeCount ∧ s.acknowledgeAlerts.straps = s.straps
      ∧ s.acknowledgeAlerts.config = s.config ∧ s.acknowledgeAlerts.sfe = s.sfe
      ∧ s.acknowledgeAlerts.sweep = s.sweep ∧ s.acknowledgeAlerts.classes = s.classes
      ∧ s.acknowledgeAlerts.lamps = s.lamps ∧ s.acknowledgeAlerts.departures = s.departures
      ∧ s.acknowledgeAlerts.duty = s.duty ∧ s.acknowledgeAlerts.emission = s.emission
      ∧ s.acknowledgeAlerts.vehicle = s.vehicle ∧ s.acknowledgeAlerts.modeCtl = s.modeCtl
      ∧ s.acknowledgeAlerts.diag = s.diag := by
  simp [State.acknowledgeAlerts, positionsInOrder]

@[simp] theorem withdrawAlertsOf_keeps (p : Pos) (r : Record) :
    (s.withdrawAlertsOf p r).pending = s.pending ∧ (s.withdrawAlertsOf p r).powered = s.powered
      ∧ (s.withdrawAlertsOf p r).freeCount = s.freeCount ∧ (s.withdrawAlertsOf p r).straps = s.straps
      ∧ (s.withdrawAlertsOf p r).config = s.config ∧ (s.withdrawAlertsOf p r).sfe = s.sfe
      ∧ (s.withdrawAlertsOf p r).sweep = s.sweep ∧ (s.withdrawAlertsOf p r).classes = s.classes
      ∧ (s.withdrawAlertsOf p r).table = s.table ∧ (s.withdrawAlertsOf p r).lamps = s.lamps
      ∧ (s.withdrawAlertsOf p r).departures = s.departures ∧ (s.withdrawAlertsOf p r).duty = s.duty
      ∧ (s.withdrawAlertsOf p r).emission = s.emission ∧ (s.withdrawAlertsOf p r).vehicle = s.vehicle
      ∧ (s.withdrawAlertsOf p r).modeCtl = s.modeCtl ∧ (s.withdrawAlertsOf p r).diag = s.diag := by
  unfold State.withdrawAlertsOf
  split <;> simp

/-! ### Outputs and STATE -/

@[simp] theorem refreshLamps_keeps :
    s.refreshLamps.pending = s.pending ∧ s.refreshLamps.powered = s.powered
      ∧ s.refreshLamps.freeCount = s.freeCount ∧ s.refreshLamps.straps = s.straps
      ∧ s.refreshLamps.config = s.config ∧ s.refreshLamps.sfe = s.sfe ∧ s.refreshLamps.sweep = s.sweep
      ∧ s.refreshLamps.classes = s.classes ∧ s.refreshLamps.table = s.table
      ∧ s.refreshLamps.departures = s.departures ∧ s.refreshLamps.duty = s.duty ∧ s.refreshLamps.link = s.link
      ∧ s.refreshLamps.emission = s.emission ∧ s.refreshLamps.vehicle = s.vehicle
      ∧ s.refreshLamps.modeCtl = s.modeCtl ∧ s.refreshLamps.diag = s.diag := by
  refine ⟨rfl, rfl, rfl, rfl, rfl, rfl, rfl, rfl, rfl, rfl, rfl, rfl, rfl, rfl, rfl, rfl⟩

@[simp] theorem refreshDuty_keeps :
    s.refreshDuty.pending = s.pending ∧ s.refreshDuty.powered = s.powered
      ∧ s.refreshDuty.freeCount = s.freeCount ∧ s.refreshDuty.straps = s.straps
      ∧ s.refreshDuty.config = s.config ∧ s.refreshDuty.sfe = s.sfe ∧ s.refreshDuty.sweep = s.sweep
      ∧ s.refreshDuty.classes = s.classes ∧ s.refreshDuty.table = s.table ∧ s.refreshDuty.lamps = s.lamps
      ∧ s.refreshDuty.departures = s.departures ∧ s.refreshDuty.link = s.link
      ∧ s.refreshDuty.emission = s.emission ∧ s.refreshDuty.vehicle = s.vehicle
      ∧ s.refreshDuty.modeCtl = s.modeCtl ∧ s.refreshDuty.diag = s.diag := by
  refine ⟨rfl, rfl, rfl, rfl, rfl, rfl, rfl, rfl, rfl, rfl, rfl, rfl, rfl, rfl, rfl, rfl⟩

@[simp] theorem refreshOutputs_keeps :
    s.refreshOutputs.pending = s.pending ∧ s.refreshOutputs.powered = s.powered
      ∧ s.refreshOutputs.freeCount = s.freeCount ∧ s.refreshOutputs.straps = s.straps
      ∧ s.refreshOutputs.config = s.config ∧ s.refreshOutputs.sfe = s.sfe ∧ s.refreshOutputs.sweep = s.sweep
      ∧ s.refreshOutputs.classes = s.classes ∧ s.refreshOutputs.table = s.table
      ∧ s.refreshOutputs.departures = s.departures ∧ s.refreshOutputs.link = s.link
      ∧ s.refreshOutputs.emission = s.emission ∧ s.refreshOutputs.vehicle = s.vehicle
      ∧ s.refreshOutputs.modeCtl = s.modeCtl ∧ s.refreshOutputs.diag = s.diag := by
  simp [State.refreshOutputs]

@[simp] theorem placeState_keeps :
    s.placeState.pending = s.pending ∧ s.placeState.powered = s.powered ∧ s.placeState.freeCount = s.freeCount
      ∧ s.placeState.straps = s.straps ∧ s.placeState.config = s.config ∧ s.placeState.sfe = s.sfe
      ∧ s.placeState.sweep = s.sweep ∧ s.placeState.classes = s.classes ∧ s.placeState.table = s.table
      ∧ s.placeState.lamps = s.lamps ∧ s.placeState.departures = s.departures ∧ s.placeState.duty = s.duty
      ∧ s.placeState.vehicle = s.vehicle ∧ s.placeState.modeCtl = s.modeCtl := by
  simp [State.placeState]

@[simp] theorem rebuildReport_keeps :
    s.rebuildReport.pending = s.pending ∧ s.rebuildReport.powered = s.powered
      ∧ s.rebuildReport.freeCount = s.freeCount ∧ s.rebuildReport.straps = s.straps
      ∧ s.rebuildReport.config = s.config ∧ s.rebuildReport.sfe = s.sfe ∧ s.rebuildReport.sweep = s.sweep
      ∧ s.rebuildReport.classes = s.classes ∧ s.rebuildReport.table = s.table ∧ s.rebuildReport.lamps = s.lamps
      ∧ s.rebuildReport.departures = s.departures ∧ s.rebuildReport.duty = s.duty
      ∧ s.rebuildReport.link = s.link ∧ s.rebuildReport.vehicle = s.vehicle
      ∧ s.rebuildReport.modeCtl = s.modeCtl ∧ s.rebuildReport.diag = s.diag := by
  refine ⟨rfl, rfl, rfl, rfl, rfl, rfl, rfl, rfl, rfl, rfl, rfl, rfl, rfl, rfl, rfl, rfl⟩

/-! ### Sleep agreement -/

@[simp] theorem placeRefusal_keeps (w : Window) (r : Reason) :
    (s.placeRefusal w r).pending = s.pending ∧ (s.placeRefusal w r).powered = s.powered
      ∧ (s.placeRefusal w r).freeCount = s.freeCount ∧ (s.placeRefusal w r).straps = s.straps
      ∧ (s.placeRefusal w r).config = s.config ∧ (s.placeRefusal w r).sfe = s.sfe
      ∧ (s.placeRefusal w r).sweep = s.sweep ∧ (s.placeRefusal w r).classes = s.classes
      ∧ (s.placeRefusal w r).table = s.table ∧ (s.placeRefusal w r).lamps = s.lamps
      ∧ (s.placeRefusal w r).departures = s.departures ∧ (s.placeRefusal w r).duty = s.duty
      ∧ (s.placeRefusal w r).emission = s.emission ∧ (s.placeRefusal w r).vehicle = s.vehicle := by
  simp [State.placeRefusal]

@[simp] theorem testReasons_keeps :
    s.testReasons.pending = s.pending ∧ s.testReasons.powered = s.powered
      ∧ s.testReasons.freeCount = s.freeCount ∧ s.testReasons.straps = s.straps
      ∧ s.testReasons.config = s.config ∧ s.testReasons.sfe = s.sfe ∧ s.testReasons.sweep = s.sweep
      ∧ s.testReasons.classes = s.classes ∧ s.testReasons.table = s.table ∧ s.testReasons.lamps = s.lamps
      ∧ s.testReasons.departures = s.departures ∧ s.testReasons.duty = s.duty
      ∧ s.testReasons.emission = s.emission ∧ s.testReasons.vehicle = s.vehicle := by
  unfold State.testReasons
  repeat' split
  all_goals simp

@[simp] theorem restartIdle_keeps :
    s.restartIdle.pending = s.pending ∧ s.restartIdle.powered = s.powered
      ∧ s.restartIdle.freeCount = s.freeCount ∧ s.restartIdle.straps = s.straps
      ∧ s.restartIdle.config = s.config ∧ s.restartIdle.sfe = s.sfe ∧ s.restartIdle.sweep = s.sweep
      ∧ s.restartIdle.classes = s.classes ∧ s.restartIdle.table = s.table ∧ s.restartIdle.lamps = s.lamps
      ∧ s.restartIdle.departures = s.departures ∧ s.restartIdle.duty = s.duty
      ∧ s.restartIdle.emission = s.emission ∧ s.restartIdle.vehicle = s.vehicle := by
  unfold State.restartIdle
  split <;> simp

@[simp] theorem closeWindow_keeps :
    s.closeWindow.pending = s.pending ∧ s.closeWindow.powered = s.powered
      ∧ s.closeWindow.freeCount = s.freeCount ∧ s.closeWindow.straps = s.straps
      ∧ s.closeWindow.config = s.config ∧ s.closeWindow.sfe = s.sfe ∧ s.closeWindow.sweep = s.sweep
      ∧ s.closeWindow.classes = s.classes ∧ s.closeWindow.table = s.table ∧ s.closeWindow.lamps = s.lamps
      ∧ s.closeWindow.departures = s.departures ∧ s.closeWindow.duty = s.duty ∧ s.closeWindow.link = s.link
      ∧ s.closeWindow.emission = s.emission ∧ s.closeWindow.vehicle = s.vehicle ∧ s.closeWindow.diag = s.diag := by
  refine ⟨rfl, rfl, rfl, rfl, rfl, rfl, rfl, rfl, rfl, rfl, rfl, rfl, rfl, rfl, rfl, rfl⟩

@[simp] theorem openWindow_keeps :
    s.openWindow.pending = s.pending ∧ s.openWindow.powered = s.powered ∧ s.openWindow.freeCount = s.freeCount
      ∧ s.openWindow.straps = s.straps ∧ s.openWindow.config = s.config ∧ s.openWindow.sfe = s.sfe
      ∧ s.openWindow.sweep = s.sweep ∧ s.openWindow.classes = s.classes ∧ s.openWindow.table = s.table
      ∧ s.openWindow.lamps = s.lamps ∧ s.openWindow.departures = s.departures ∧ s.openWindow.duty = s.duty
      ∧ s.openWindow.emission = s.emission ∧ s.openWindow.vehicle = s.vehicle := by
  unfold State.openWindow
  split <;> simp

@[simp] theorem requestWake_keeps :
    s.requestWake.pending = s.pending ∧ s.requestWake.powered = s.powered
      ∧ s.requestWake.freeCount = s.freeCount ∧ s.requestWake.straps = s.straps
      ∧ s.requestWake.config = s.config ∧ s.requestWake.sfe = s.sfe ∧ s.requestWake.sweep = s.sweep
      ∧ s.requestWake.classes = s.classes ∧ s.requestWake.table = s.table ∧ s.requestWake.lamps = s.lamps
      ∧ s.requestWake.departures = s.departures ∧ s.requestWake.duty = s.duty
      ∧ s.requestWake.emission = s.emission ∧ s.requestWake.vehicle = s.vehicle
      ∧ s.requestWake.modeCtl = s.modeCtl ∧ s.requestWake.diag = s.diag := by
  refine ⟨rfl, rfl, rfl, rfl, rfl, rfl, rfl, rfl, rfl, rfl, rfl, rfl, rfl, rfl, rfl, rfl⟩

/-! ### Changes of mode -/

@[simp] theorem enterWatch_keeps :
    s.enterWatch.pending = s.pending ∧ s.enterWatch.powered = s.powered ∧ s.enterWatch.freeCount = s.freeCount
      ∧ s.enterWatch.straps = s.straps ∧ s.enterWatch.config = s.config ∧ s.enterWatch.sfe = s.sfe
      ∧ s.enterWatch.classes = s.classes ∧ s.enterWatch.table = s.table ∧ s.enterWatch.departures = s.departures
      ∧ s.enterWatch.vehicle = s.vehicle ∧ s.enterWatch.diag = s.diag := by
  simp [State.enterWatch]

@[simp] theorem leaveWatch_keeps :
    s.leaveWatch.pending = s.pending ∧ s.leaveWatch.powered = s.powered ∧ s.leaveWatch.freeCount = s.freeCount
      ∧ s.leaveWatch.straps = s.straps ∧ s.leaveWatch.config = s.config ∧ s.leaveWatch.sfe = s.sfe
      ∧ s.leaveWatch.classes = s.classes ∧ s.leaveWatch.table = s.table ∧ s.leaveWatch.departures = s.departures
      ∧ s.leaveWatch.link = s.link ∧ s.leaveWatch.vehicle = s.vehicle ∧ s.leaveWatch.diag = s.diag := by
  simp [State.leaveWatch]

@[simp] theorem enterStandby_keeps :
    s.enterStandby.pending = s.pending ∧ s.enterStandby.powered = s.powered
      ∧ s.enterStandby.freeCount = s.freeCount ∧ s.enterStandby.straps = s.straps
      ∧ s.enterStandby.config = s.config ∧ s.enterStandby.classes = s.classes
      ∧ s.enterStandby.departures = s.departures ∧ s.enterStandby.vehicle = s.vehicle
      ∧ s.enterStandby.diag = s.diag := by
  simp [State.enterStandby]

@[simp] theorem haltEntry_keeps :
    s.haltEntry.pending = s.pending ∧ s.haltEntry.powered = s.powered ∧ s.haltEntry.freeCount = s.freeCount
      ∧ s.haltEntry.straps = s.straps ∧ s.haltEntry.config = s.config ∧ s.haltEntry.classes = s.classes
      ∧ s.haltEntry.departures = s.departures ∧ s.haltEntry.vehicle = s.vehicle ∧ s.haltEntry.diag = s.diag := by
  simp [State.haltEntry]

@[simp] theorem ownDecision_keeps :
    s.ownDecision.pending = s.pending ∧ s.ownDecision.powered = s.powered
      ∧ s.ownDecision.freeCount = s.freeCount ∧ s.ownDecision.straps = s.straps
      ∧ s.ownDecision.config = s.config ∧ s.ownDecision.classes = s.classes
      ∧ s.ownDecision.departures = s.departures ∧ s.ownDecision.vehicle = s.vehicle
      ∧ s.ownDecision.diag = s.diag := by
  unfold State.ownDecision
  split <;> simp

@[simp] theorem wake_keeps (pins : BitVec 5) :
    (s.wake pins).pending = s.pending ∧ (s.wake pins).powered = s.powered
      ∧ (s.wake pins).freeCount = s.freeCount ∧ (s.wake pins).config = s.config ∧ (s.wake pins).diag = s.diag := by
  refine ⟨rfl, rfl, rfl, rfl, rfl⟩

@[simp] theorem serviceExit_keeps :
    s.serviceExit.pending = s.pending ∧ s.serviceExit.powered = s.powered
      ∧ s.serviceExit.freeCount = s.freeCount ∧ s.serviceExit.straps = s.straps := by
  refine ⟨rfl, rfl, rfl, rfl⟩

@[simp] theorem haltFromService_keeps :
    s.haltFromService.pending = s.pending ∧ s.haltFromService.powered = s.powered
      ∧ s.haltFromService.freeCount = s.freeCount ∧ s.haltFromService.straps = s.straps := by
  simp [State.haltFromService]

@[simp] theorem haltInStandby_keeps :
    s.haltInStandby.pending = s.pending ∧ s.haltInStandby.powered = s.powered
      ∧ s.haltInStandby.freeCount = s.freeCount ∧ s.haltInStandby.straps = s.straps
      ∧ s.haltInStandby.config = s.config ∧ s.haltInStandby.sweep = s.sweep
      ∧ s.haltInStandby.classes = s.classes ∧ s.haltInStandby.table = s.table ∧ s.haltInStandby.lamps = s.lamps
      ∧ s.haltInStandby.departures = s.departures ∧ s.haltInStandby.duty = s.duty
      ∧ s.haltInStandby.emission = s.emission ∧ s.haltInStandby.vehicle = s.vehicle
      ∧ s.haltInStandby.diag = s.diag := by
  simp [State.haltInStandby]

@[simp] theorem heardWake_keeps (pins : BitVec 5) :
    (s.heardWake pins).pending = s.pending ∧ (s.heardWake pins).powered = s.powered
      ∧ (s.heardWake pins).freeCount = s.freeCount ∧ (s.heardWake pins).config = s.config := by
  unfold State.heardWake
  repeat' split
  all_goals simp

@[simp] theorem heardHalt_keeps :
    s.heardHalt.pending = s.pending ∧ s.heardHalt.powered = s.powered ∧ s.heardHalt.freeCount = s.freeCount
      ∧ s.heardHalt.straps = s.straps := by
  unfold State.heardHalt
  repeat' split
  all_goals simp

@[simp] theorem endRecordWork_keeps :
    s.endRecordWork.pending = s.pending ∧ s.endRecordWork.powered = s.powered
      ∧ s.endRecordWork.freeCount = s.freeCount ∧ s.endRecordWork.straps = s.straps
      ∧ s.endRecordWork.config = s.config ∧ s.endRecordWork.sfe = s.sfe ∧ s.endRecordWork.sweep = s.sweep
      ∧ s.endRecordWork.classes = s.classes ∧ s.endRecordWork.table = s.table ∧ s.endRecordWork.lamps = s.lamps
      ∧ s.endRecordWork.departures = s.departures ∧ s.endRecordWork.duty = s.duty
      ∧ s.endRecordWork.emission = s.emission ∧ s.endRecordWork.vehicle = s.vehicle
      ∧ s.endRecordWork.modeCtl = s.modeCtl ∧ s.endRecordWork.diag = s.diag := by
  simp only [State.endRecordWork, positionsInOrder, List.foldl]
  repeat' split
  all_goals simp

@[simp] theorem serviceBlocks_keeps :
    s.serviceBlocks.pending = s.pending ∧ s.serviceBlocks.powered = s.powered
      ∧ s.serviceBlocks.freeCount = s.freeCount ∧ s.serviceBlocks.straps = s.straps
      ∧ s.serviceBlocks.sfe = s.sfe ∧ s.serviceBlocks.classes = s.classes
      ∧ s.serviceBlocks.emission = s.emission ∧ s.serviceBlocks.vehicle = s.vehicle
      ∧ s.serviceBlocks.diag = s.diag := by
  simp [State.serviceBlocks]

@[simp] theorem enterServiceMode_keeps :
    s.enterServiceMode.pending = s.pending ∧ s.enterServiceMode.powered = s.powered
      ∧ s.enterServiceMode.freeCount = s.freeCount ∧ s.enterServiceMode.straps = s.straps
      ∧ s.enterServiceMode.sfe = s.sfe ∧ s.enterServiceMode.classes = s.classes
      ∧ s.enterServiceMode.vehicle = s.vehicle := by
  simp [State.enterServiceMode]

@[simp] theorem ignitionBecameOn_keeps :
    s.ignitionBecameOn.pending = s.pending ∧ s.ignitionBecameOn.powered = s.powered
      ∧ s.ignitionBecameOn.freeCount = s.freeCount ∧ s.ignitionBecameOn.straps = s.straps
      ∧ s.ignitionBecameOn.config = s.config ∧ s.ignitionBecameOn.sfe = s.sfe
      ∧ s.ignitionBecameOn.classes = s.classes ∧ s.ignitionBecameOn.departures = s.departures
      ∧ s.ignitionBecameOn.vehicle = s.vehicle ∧ s.ignitionBecameOn.diag = s.diag := by
  unfold State.ignitionBecameOn
  dsimp only
  split <;> simp

@[simp] theorem ignitionLeftOn_keeps :
    s.ignitionLeftOn.pending = s.pending ∧ s.ignitionLeftOn.powered = s.powered
      ∧ s.ignitionLeftOn.freeCount = s.freeCount ∧ s.ignitionLeftOn.straps = s.straps
      ∧ s.ignitionLeftOn.config = s.config ∧ s.ignitionLeftOn.sfe = s.sfe ∧ s.ignitionLeftOn.sweep = s.sweep
      ∧ s.ignitionLeftOn.classes = s.classes ∧ s.ignitionLeftOn.table = s.table
      ∧ s.ignitionLeftOn.lamps = s.lamps ∧ s.ignitionLeftOn.departures = s.departures
      ∧ s.ignitionLeftOn.duty = s.duty ∧ s.ignitionLeftOn.link = s.link ∧ s.ignitionLeftOn.emission = s.emission
      ∧ s.ignitionLeftOn.vehicle = s.vehicle ∧ s.ignitionLeftOn.diag = s.diag := by
  unfold State.ignitionLeftOn
  split <;> simp

@[simp] theorem takeVehicleChange_keeps (ch : VehicleChange) :
    (s.takeVehicleChange ch).pending = s.pending ∧ (s.takeVehicleChange ch).powered = s.powered
      ∧ (s.takeVehicleChange ch).freeCount = s.freeCount ∧ (s.takeVehicleChange ch).straps = s.straps
      ∧ (s.takeVehicleChange ch).config = s.config ∧ (s.takeVehicleChange ch).sfe = s.sfe
      ∧ (s.takeVehicleChange ch).classes = s.classes ∧ (s.takeVehicleChange ch).vehicle = s.vehicle
      ∧ (s.takeVehicleChange ch).diag = s.diag := by
  unfold State.takeVehicleChange
  dsimp only
  repeat' split
  all_goals simp

@[simp] theorem deriveVehicle_keeps (after : Vehicle) :
    (s.deriveVehicle after).pending = s.pending ∧ (s.deriveVehicle after).powered = s.powered
      ∧ (s.deriveVehicle after).freeCount = s.freeCount ∧ (s.deriveVehicle after).straps = s.straps
      ∧ (s.deriveVehicle after).config = s.config ∧ (s.deriveVehicle after).sfe = s.sfe
      ∧ (s.deriveVehicle after).classes = s.classes ∧ (s.deriveVehicle after).diag = s.diag := by
  simp [State.deriveVehicle]

@[simp] theorem cutCommit_keeps :
    s.cutCommit.pending = s.pending ∧ s.cutCommit.powered = s.powered ∧ s.cutCommit.straps = s.straps
      ∧ s.cutCommit.sfe = s.sfe ∧ s.cutCommit.sweep = s.sweep ∧ s.cutCommit.classes = s.classes
      ∧ s.cutCommit.table = s.table ∧ s.cutCommit.lamps = s.lamps ∧ s.cutCommit.departures = s.departures
      ∧ s.cutCommit.duty = s.duty ∧ s.cutCommit.link = s.link ∧ s.cutCommit.emission = s.emission
      ∧ s.cutCommit.vehicle = s.vehicle ∧ s.cutCommit.modeCtl = s.modeCtl ∧ s.cutCommit.diag = s.diag := by
  unfold State.cutCommit
  split <;> simp

/-! ### Sweep completion -/

@[simp] theorem sensingStep_keeps (o : SensingOutcome) :
    (s.sensingStep o).pending = s.pending ∧ (s.sensingStep o).powered = s.powered
      ∧ (s.sensingStep o).freeCount = s.freeCount ∧ (s.sensingStep o).straps = s.straps
      ∧ (s.sensingStep o).config = s.config ∧ (s.sensingStep o).sweep = s.sweep
      ∧ (s.sensingStep o).classes = s.classes ∧ (s.sensingStep o).table = s.table
      ∧ (s.sensingStep o).lamps = s.lamps ∧ (s.sensingStep o).departures = s.departures
      ∧ (s.sensingStep o).duty = s.duty ∧ (s.sensingStep o).link = s.link
      ∧ (s.sensingStep o).emission = s.emission ∧ (s.sensingStep o).vehicle = s.vehicle
      ∧ (s.sensingStep o).modeCtl = s.modeCtl := by
  refine ⟨rfl, rfl, rfl, rfl, rfl, rfl, rfl, rfl, rfl, rfl, rfl, rfl, rfl, rfl, rfl⟩

@[simp] theorem classifierStep_keeps (o : SensingOutcome) (r : SweepReadings) (test : Bool) :
    (s.classifierStep o r test).pending = s.pending ∧ (s.classifierStep o r test).powered = s.powered
      ∧ (s.classifierStep o r test).freeCount = s.freeCount ∧ (s.classifierStep o r test).straps = s.straps
      ∧ (s.classifierStep o r test).config = s.config ∧ (s.classifierStep o r test).sfe = s.sfe
      ∧ (s.classifierStep o r test).sweep = s.sweep ∧ (s.classifierStep o r test).lamps = s.lamps
      ∧ (s.classifierStep o r test).departures = s.departures ∧ (s.classifierStep o r test).duty = s.duty
      ∧ (s.classifierStep o r test).link = s.link ∧ (s.classifierStep o r test).emission = s.emission
      ∧ (s.classifierStep o r test).vehicle = s.vehicle ∧ (s.classifierStep o r test).modeCtl = s.modeCtl
      ∧ (s.classifierStep o r test).diag = s.diag := by
  unfold State.classifierStep
  split <;> simp

@[simp] theorem takeMatch_keeps (p : Pos) (id : OccupantId) (m : Match) :
    (s.takeMatch p id m).pending = s.pending ∧ (s.takeMatch p id m).powered = s.powered
      ∧ (s.takeMatch p id m).freeCount = s.freeCount ∧ (s.takeMatch p id m).straps = s.straps
      ∧ (s.takeMatch p id m).config = s.config ∧ (s.takeMatch p id m).sfe = s.sfe
      ∧ (s.takeMatch p id m).sweep = s.sweep ∧ (s.takeMatch p id m).classes = s.classes
      ∧ (s.takeMatch p id m).lamps = s.lamps ∧ (s.takeMatch p id m).duty = s.duty
      ∧ (s.takeMatch p id m).emission = s.emission ∧ (s.takeMatch p id m).vehicle = s.vehicle
      ∧ (s.takeMatch p id m).modeCtl = s.modeCtl := by
  simp [State.takeMatch]

@[simp] theorem searchOrSettle_keeps (p : Pos) :
    (s.searchOrSettle p).pending = s.pending ∧ (s.searchOrSettle p).powered = s.powered
      ∧ (s.searchOrSettle p).freeCount = s.freeCount ∧ (s.searchOrSettle p).straps = s.straps
      ∧ (s.searchOrSettle p).config = s.config ∧ (s.searchOrSettle p).sfe = s.sfe
      ∧ (s.searchOrSettle p).sweep = s.sweep ∧ (s.searchOrSettle p).classes = s.classes
      ∧ (s.searchOrSettle p).lamps = s.lamps ∧ (s.searchOrSettle p).duty = s.duty
      ∧ (s.searchOrSettle p).emission = s.emission ∧ (s.searchOrSettle p).vehicle = s.vehicle
      ∧ (s.searchOrSettle p).modeCtl = s.modeCtl := by
  unfold State.searchOrSettle
  repeat' split
  all_goals simp

@[simp] theorem yieldCutOff_keeps (p : Pos) :
    (s.yieldCutOff p).pending = s.pending ∧ (s.yieldCutOff p).powered = s.powered
      ∧ (s.yieldCutOff p).freeCount = s.freeCount ∧ (s.yieldCutOff p).straps = s.straps
      ∧ (s.yieldCutOff p).config = s.config ∧ (s.yieldCutOff p).sfe = s.sfe ∧ (s.yieldCutOff p).sweep = s.sweep
      ∧ (s.yieldCutOff p).classes = s.classes ∧ (s.yieldCutOff p).lamps = s.lamps
      ∧ (s.yieldCutOff p).duty = s.duty ∧ (s.yieldCutOff p).emission = s.emission
      ∧ (s.yieldCutOff p).vehicle = s.vehicle ∧ (s.yieldCutOff p).modeCtl = s.modeCtl := by
  simp [State.yieldCutOff]

@[simp] theorem yieldToRival_keeps (p : Pos) :
    (s.yieldToRival p).pending = s.pending ∧ (s.yieldToRival p).powered = s.powered
      ∧ (s.yieldToRival p).freeCount = s.freeCount ∧ (s.yieldToRival p).straps = s.straps
      ∧ (s.yieldToRival p).config = s.config ∧ (s.yieldToRival p).sfe = s.sfe
      ∧ (s.yieldToRival p).sweep = s.sweep ∧ (s.yieldToRival p).classes = s.classes
      ∧ (s.yieldToRival p).lamps = s.lamps ∧ (s.yieldToRival p).duty = s.duty
      ∧ (s.yieldToRival p).emission = s.emission ∧ (s.yieldToRival p).vehicle = s.vehicle
      ∧ (s.yieldToRival p).modeCtl = s.modeCtl := by
  unfold State.yieldToRival
  split <;> simp

@[simp] theorem claimCutOff_keeps (c : ClaimRef) :
    (s.claimCutOff c).pending = s.pending ∧ (s.claimCutOff c).powered = s.powered
      ∧ (s.claimCutOff c).freeCount = s.freeCount ∧ (s.claimCutOff c).straps = s.straps
      ∧ (s.claimCutOff c).config = s.config ∧ (s.claimCutOff c).sfe = s.sfe ∧ (s.claimCutOff c).sweep = s.sweep
      ∧ (s.claimCutOff c).classes = s.classes ∧ (s.claimCutOff c).lamps = s.lamps
      ∧ (s.claimCutOff c).duty = s.duty ∧ (s.claimCutOff c).emission = s.emission
      ∧ (s.claimCutOff c).vehicle = s.vehicle ∧ (s.claimCutOff c).modeCtl = s.modeCtl := by
  unfold State.claimCutOff
  repeat' split
  all_goals simp

@[simp] theorem settleClaim_keeps (p : Pos) (tag : DepTag) :
    (s.settleClaim p tag).pending = s.pending ∧ (s.settleClaim p tag).powered = s.powered
      ∧ (s.settleClaim p tag).freeCount = s.freeCount ∧ (s.settleClaim p tag).straps = s.straps
      ∧ (s.settleClaim p tag).config = s.config ∧ (s.settleClaim p tag).sfe = s.sfe
      ∧ (s.settleClaim p tag).sweep = s.sweep ∧ (s.settleClaim p tag).classes = s.classes
      ∧ (s.settleClaim p tag).duty = s.duty ∧ (s.settleClaim p tag).link = s.link
      ∧ (s.settleClaim p tag).emission = s.emission ∧ (s.settleClaim p tag).vehicle = s.vehicle
      ∧ (s.settleClaim p tag).modeCtl = s.modeCtl := by
  simp [State.settleClaim]

@[simp] theorem lapseClaim_keeps (p : Pos) :
    (s.lapseClaim p).pending = s.pending ∧ (s.lapseClaim p).powered = s.powered
      ∧ (s.lapseClaim p).freeCount = s.freeCount ∧ (s.lapseClaim p).straps = s.straps
      ∧ (s.lapseClaim p).config = s.config ∧ (s.lapseClaim p).sfe = s.sfe ∧ (s.lapseClaim p).sweep = s.sweep
      ∧ (s.lapseClaim p).classes = s.classes ∧ (s.lapseClaim p).lamps = s.lamps
      ∧ (s.lapseClaim p).departures = s.departures ∧ (s.lapseClaim p).duty = s.duty
      ∧ (s.lapseClaim p).link = s.link ∧ (s.lapseClaim p).emission = s.emission
      ∧ (s.lapseClaim p).vehicle = s.vehicle ∧ (s.lapseClaim p).modeCtl = s.modeCtl
      ∧ (s.lapseClaim p).diag = s.diag := by
  refine ⟨rfl, rfl, rfl, rfl, rfl, rfl, rfl, rfl, rfl, rfl, rfl, rfl, rfl, rfl, rfl, rfl⟩

@[simp] theorem ownClaim_keeps (c : ClaimRef) :
    (s.ownClaim c).pending = s.pending ∧ (s.ownClaim c).powered = s.powered
      ∧ (s.ownClaim c).freeCount = s.freeCount ∧ (s.ownClaim c).straps = s.straps
      ∧ (s.ownClaim c).config = s.config ∧ (s.ownClaim c).sfe = s.sfe ∧ (s.ownClaim c).sweep = s.sweep
      ∧ (s.ownClaim c).classes = s.classes ∧ (s.ownClaim c).duty = s.duty ∧ (s.ownClaim c).link = s.link
      ∧ (s.ownClaim c).emission = s.emission ∧ (s.ownClaim c).vehicle = s.vehicle
      ∧ (s.ownClaim c).modeCtl = s.modeCtl := by
  unfold State.ownClaim
  repeat' split
  all_goals simp

@[simp] theorem claimElsewhere_keeps (tag : DepTag) (listed : Bool) :
    (s.claimElsewhere tag listed).pending = s.pending ∧ (s.claimElsewhere tag listed).powered = s.powered
      ∧ (s.claimElsewhere tag listed).freeCount = s.freeCount ∧ (s.claimElsewhere tag listed).straps = s.straps
      ∧ (s.claimElsewhere tag listed).config = s.config ∧ (s.claimElsewhere tag listed).sfe = s.sfe
      ∧ (s.claimElsewhere tag listed).sweep = s.sweep ∧ (s.claimElsewhere tag listed).classes = s.classes
      ∧ (s.claimElsewhere tag listed).table = s.table ∧ (s.claimElsewhere tag listed).lamps = s.lamps
      ∧ (s.claimElsewhere tag listed).departures = s.departures ∧ (s.claimElsewhere tag listed).duty = s.duty
      ∧ (s.claimElsewhere tag listed).link = s.link ∧ (s.claimElsewhere tag listed).emission = s.emission
      ∧ (s.claimElsewhere tag listed).vehicle = s.vehicle ∧ (s.claimElsewhere tag listed).modeCtl = s.modeCtl := by
  unfold State.claimElsewhere
  split <;> simp

@[simp] theorem peerClaim_keeps (tag : DepTag) :
    (s.peerClaim tag).pending = s.pending ∧ (s.peerClaim tag).powered = s.powered
      ∧ (s.peerClaim tag).freeCount = s.freeCount ∧ (s.peerClaim tag).straps = s.straps
      ∧ (s.peerClaim tag).config = s.config ∧ (s.peerClaim tag).sfe = s.sfe ∧ (s.peerClaim tag).sweep = s.sweep
      ∧ (s.peerClaim tag).classes = s.classes ∧ (s.peerClaim tag).lamps = s.lamps
      ∧ (s.peerClaim tag).duty = s.duty ∧ (s.peerClaim tag).emission = s.emission
      ∧ (s.peerClaim tag).vehicle = s.vehicle ∧ (s.peerClaim tag).modeCtl = s.modeCtl := by
  unfold State.peerClaim
  dsimp only
  split <;> simp

@[simp] theorem peerDepart_keeps (payload : List Byte) :
    (s.peerDepart payload).pending = s.pending ∧ (s.peerDepart payload).powered = s.powered
      ∧ (s.peerDepart payload).freeCount = s.freeCount ∧ (s.peerDepart payload).straps = s.straps
      ∧ (s.peerDepart payload).config = s.config ∧ (s.peerDepart payload).sfe = s.sfe
      ∧ (s.peerDepart payload).sweep = s.sweep ∧ (s.peerDepart payload).classes = s.classes
      ∧ (s.peerDepart payload).table = s.table ∧ (s.peerDepart payload).lamps = s.lamps
      ∧ (s.peerDepart payload).duty = s.duty ∧ (s.peerDepart payload).link = s.link
      ∧ (s.peerDepart payload).emission = s.emission ∧ (s.peerDepart payload).vehicle = s.vehicle
      ∧ (s.peerDepart payload).modeCtl = s.modeCtl := by
  unfold State.peerDepart
  split <;> simp

@[simp] theorem arrive_keeps (p : Pos) (fromUnscanned : Bool) :
    (s.arrive p fromUnscanned).pending = s.pending ∧ (s.arrive p fromUnscanned).powered = s.powered
      ∧ (s.arrive p fromUnscanned).freeCount = s.freeCount ∧ (s.arrive p fromUnscanned).straps = s.straps
      ∧ (s.arrive p fromUnscanned).config = s.config ∧ (s.arrive p fromUnscanned).sfe = s.sfe
      ∧ (s.arrive p fromUnscanned).sweep = s.sweep ∧ (s.arrive p fromUnscanned).classes = s.classes
      ∧ (s.arrive p fromUnscanned).lamps = s.lamps ∧ (s.arrive p fromUnscanned).duty = s.duty
      ∧ (s.arrive p fromUnscanned).emission = s.emission ∧ (s.arrive p fromUnscanned).vehicle = s.vehicle
      ∧ (s.arrive p fromUnscanned).modeCtl = s.modeCtl := by
  unfold State.arrive
  split <;> simp

@[simp] theorem handOn_keeps (p : Pos) (r : Record) :
    (s.handOn p r).pending = s.pending ∧ (s.handOn p r).powered = s.powered
      ∧ (s.handOn p r).freeCount = s.freeCount ∧ (s.handOn p r).straps = s.straps
      ∧ (s.handOn p r).config = s.config ∧ (s.handOn p r).sfe = s.sfe ∧ (s.handOn p r).sweep = s.sweep
      ∧ (s.handOn p r).classes = s.classes ∧ (s.handOn p r).lamps = s.lamps ∧ (s.handOn p r).duty = s.duty
      ∧ (s.handOn p r).emission = s.emission ∧ (s.handOn p r).vehicle = s.vehicle
      ∧ (s.handOn p r).modeCtl = s.modeCtl := by
  simp [State.handOn]

@[simp] theorem endRecord_keeps (p : Pos) :
    (s.endRecord p).pending = s.pending ∧ (s.endRecord p).powered = s.powered
      ∧ (s.endRecord p).freeCount = s.freeCount ∧ (s.endRecord p).straps = s.straps
      ∧ (s.endRecord p).config = s.config ∧ (s.endRecord p).sfe = s.sfe ∧ (s.endRecord p).sweep = s.sweep
      ∧ (s.endRecord p).classes = s.classes ∧ (s.endRecord p).departures = s.departures
      ∧ (s.endRecord p).duty = s.duty ∧ (s.endRecord p).link = s.link ∧ (s.endRecord p).emission = s.emission
      ∧ (s.endRecord p).vehicle = s.vehicle ∧ (s.endRecord p).diag = s.diag := by
  simp [State.endRecord]

@[simp] theorem depart_keeps (p : Pos) :
    (s.depart p).pending = s.pending ∧ (s.depart p).powered = s.powered ∧ (s.depart p).freeCount = s.freeCount
      ∧ (s.depart p).straps = s.straps ∧ (s.depart p).config = s.config ∧ (s.depart p).sfe = s.sfe
      ∧ (s.depart p).sweep = s.sweep ∧ (s.depart p).classes = s.classes ∧ (s.depart p).duty = s.duty
      ∧ (s.depart p).emission = s.emission ∧ (s.depart p).vehicle = s.vehicle := by
  unfold State.depart
  dsimp only
  repeat' split
  all_goals simp

@[simp] theorem takeSeatChange_keeps (p : Pos) (change : SeatChange) :
    (s.takeSeatChange p change).pending = s.pending ∧ (s.takeSeatChange p change).powered = s.powered
      ∧ (s.takeSeatChange p change).freeCount = s.freeCount ∧ (s.takeSeatChange p change).straps = s.straps
      ∧ (s.takeSeatChange p change).config = s.config ∧ (s.takeSeatChange p change).sfe = s.sfe
      ∧ (s.takeSeatChange p change).sweep = s.sweep ∧ (s.takeSeatChange p change).classes = s.classes
      ∧ (s.takeSeatChange p change).duty = s.duty ∧ (s.takeSeatChange p change).emission = s.emission
      ∧ (s.takeSeatChange p change).vehicle = s.vehicle := by
  unfold State.takeSeatChange
  split <;> simp

@[simp] theorem takeClasses_keeps (before : Four Cls) (test : Bool) :
    (s.takeClasses before test).pending = s.pending ∧ (s.takeClasses before test).powered = s.powered
      ∧ (s.takeClasses before test).freeCount = s.freeCount ∧ (s.takeClasses before test).straps = s.straps
      ∧ (s.takeClasses before test).config = s.config ∧ (s.takeClasses before test).sfe = s.sfe
      ∧ (s.takeClasses before test).sweep = s.sweep ∧ (s.takeClasses before test).classes = s.classes
      ∧ (s.takeClasses before test).duty = s.duty ∧ (s.takeClasses before test).emission = s.emission
      ∧ (s.takeClasses before test).vehicle = s.vehicle := by
  simp [State.takeClasses, positionsInOrder]

@[simp] theorem takeBelts_keeps (changed : Four Bool) :
    (s.takeBelts changed).pending = s.pending ∧ (s.takeBelts changed).powered = s.powered
      ∧ (s.takeBelts changed).freeCount = s.freeCount ∧ (s.takeBelts changed).straps = s.straps
      ∧ (s.takeBelts changed).config = s.config ∧ (s.takeBelts changed).sfe = s.sfe
      ∧ (s.takeBelts changed).sweep = s.sweep ∧ (s.takeBelts changed).classes = s.classes
      ∧ (s.takeBelts changed).lamps = s.lamps ∧ (s.takeBelts changed).departures = s.departures
      ∧ (s.takeBelts changed).duty = s.duty ∧ (s.takeBelts changed).link = s.link
      ∧ (s.takeBelts changed).emission = s.emission ∧ (s.takeBelts changed).vehicle = s.vehicle
      ∧ (s.takeBelts changed).modeCtl = s.modeCtl ∧ (s.takeBelts changed).diag = s.diag := by
  refine ⟨rfl, rfl, rfl, rfl, rfl, rfl, rfl, rfl, rfl, rfl, rfl, rfl, rfl, rfl, rfl, rfl⟩

@[simp] theorem latchOpened_keeps :
    s.latchOpened.pending = s.pending ∧ s.latchOpened.powered = s.powered
      ∧ s.latchOpened.freeCount = s.freeCount ∧ s.latchOpened.straps = s.straps
      ∧ s.latchOpened.config = s.config ∧ s.latchOpened.sfe = s.sfe ∧ s.latchOpened.sweep = s.sweep
      ∧ s.latchOpened.classes = s.classes ∧ s.latchOpened.lamps = s.lamps
      ∧ s.latchOpened.departures = s.departures ∧ s.latchOpened.duty = s.duty
      ∧ s.latchOpened.emission = s.emission ∧ s.latchOpened.vehicle = s.vehicle
      ∧ s.latchOpened.modeCtl = s.modeCtl := by
  unfold State.latchOpened
  split <;> simp

@[simp] theorem latchClosed_keeps :
    s.latchClosed.pending = s.pending ∧ s.latchClosed.powered = s.powered
      ∧ s.latchClosed.freeCount = s.freeCount ∧ s.latchClosed.straps = s.straps
      ∧ s.latchClosed.config = s.config ∧ s.latchClosed.sfe = s.sfe ∧ s.latchClosed.sweep = s.sweep
      ∧ s.latchClosed.classes = s.classes ∧ s.latchClosed.lamps = s.lamps
      ∧ s.latchClosed.departures = s.departures ∧ s.latchClosed.duty = s.duty ∧ s.latchClosed.link = s.link
      ∧ s.latchClosed.emission = s.emission ∧ s.latchClosed.vehicle = s.vehicle
      ∧ s.latchClosed.modeCtl = s.modeCtl ∧ s.latchClosed.diag = s.diag := by
  refine ⟨rfl, rfl, rfl, rfl, rfl, rfl, rfl, rfl, rfl, rfl, rfl, rfl, rfl, rfl, rfl, rfl⟩

@[simp] theorem takeLatch_keeps (event : LatchEvent) :
    (s.takeLatch event).pending = s.pending ∧ (s.takeLatch event).powered = s.powered
      ∧ (s.takeLatch event).freeCount = s.freeCount ∧ (s.takeLatch event).straps = s.straps
      ∧ (s.takeLatch event).config = s.config ∧ (s.takeLatch event).sfe = s.sfe
      ∧ (s.takeLatch event).sweep = s.sweep ∧ (s.takeLatch event).classes = s.classes
      ∧ (s.takeLatch event).lamps = s.lamps ∧ (s.takeLatch event).departures = s.departures
      ∧ (s.takeLatch event).duty = s.duty ∧ (s.takeLatch event).emission = s.emission
      ∧ (s.takeLatch event).vehicle = s.vehicle ∧ (s.takeLatch event).modeCtl = s.modeCtl := by
  unfold State.takeLatch
  split <;> simp

@[simp] theorem sendPendingRelease_keeps :
    s.sendPendingRelease.pending = s.pending ∧ s.sendPendingRelease.powered = s.powered
      ∧ s.sendPendingRelease.freeCount = s.freeCount ∧ s.sendPendingRelease.straps = s.straps
      ∧ s.sendPendingRelease.config = s.config ∧ s.sendPendingRelease.sfe = s.sfe
      ∧ s.sendPendingRelease.sweep = s.sweep ∧ s.sendPendingRelease.classes = s.classes
      ∧ s.sendPendingRelease.lamps = s.lamps ∧ s.sendPendingRelease.departures = s.departures
      ∧ s.sendPendingRelease.duty = s.duty ∧ s.sendPendingRelease.emission = s.emission
      ∧ s.sendPendingRelease.vehicle = s.vehicle ∧ s.sendPendingRelease.modeCtl = s.modeCtl := by
  unfold State.sendPendingRelease
  split <;> simp

@[simp] theorem tableStep_keeps (before : Four Cls) (test : Bool) (o : SensingOutcome) :
    (s.tableStep before test o).pending = s.pending ∧ (s.tableStep before test o).powered = s.powered
      ∧ (s.tableStep before test o).freeCount = s.freeCount ∧ (s.tableStep before test o).straps = s.straps
      ∧ (s.tableStep before test o).config = s.config ∧ (s.tableStep before test o).sfe = s.sfe
      ∧ (s.tableStep before test o).sweep = s.sweep ∧ (s.tableStep before test o).classes = s.classes
      ∧ (s.tableStep before test o).duty = s.duty ∧ (s.tableStep before test o).emission = s.emission
      ∧ (s.tableStep before test o).vehicle = s.vehicle := by
  simp [State.tableStep]

@[simp] theorem ladderStep_keeps :
    s.ladderStep.pending = s.pending ∧ s.ladderStep.powered = s.powered ∧ s.ladderStep.freeCount = s.freeCount
      ∧ s.ladderStep.straps = s.straps ∧ s.ladderStep.config = s.config ∧ s.ladderStep.sfe = s.sfe
      ∧ s.ladderStep.sweep = s.sweep ∧ s.ladderStep.classes = s.classes ∧ s.ladderStep.departures = s.departures
      ∧ s.ladderStep.duty = s.duty ∧ s.ladderStep.link = s.link ∧ s.ladderStep.emission = s.emission
      ∧ s.ladderStep.vehicle = s.vehicle ∧ s.ladderStep.modeCtl = s.modeCtl ∧ s.ladderStep.diag = s.diag := by
  simp [State.ladderStep]

@[simp] theorem placeIfCalled_keeps :
    s.placeIfCalled.pending = s.pending ∧ s.placeIfCalled.powered = s.powered
      ∧ s.placeIfCalled.freeCount = s.freeCount ∧ s.placeIfCalled.straps = s.straps
      ∧ s.placeIfCalled.config = s.config ∧ s.placeIfCalled.sfe = s.sfe ∧ s.placeIfCalled.sweep = s.sweep
      ∧ s.placeIfCalled.classes = s.classes ∧ s.placeIfCalled.table = s.table ∧ s.placeIfCalled.lamps = s.lamps
      ∧ s.placeIfCalled.departures = s.departures ∧ s.placeIfCalled.duty = s.duty
      ∧ s.placeIfCalled.vehicle = s.vehicle ∧ s.placeIfCalled.modeCtl = s.modeCtl := by
  unfold State.placeIfCalled
  split <;> simp

@[simp] theorem fillOwnRow_keeps :
    s.fillOwnRow.pending = s.pending ∧ s.fillOwnRow.powered = s.powered ∧ s.fillOwnRow.freeCount = s.freeCount
      ∧ s.fillOwnRow.straps = s.straps ∧ s.fillOwnRow.config = s.config ∧ s.fillOwnRow.sfe = s.sfe
      ∧ s.fillOwnRow.sweep = s.sweep ∧ s.fillOwnRow.classes = s.classes ∧ s.fillOwnRow.table = s.table
      ∧ s.fillOwnRow.lamps = s.lamps ∧ s.fillOwnRow.departures = s.departures ∧ s.fillOwnRow.link = s.link
      ∧ s.fillOwnRow.emission = s.emission ∧ s.fillOwnRow.vehicle = s.vehicle ∧ s.fillOwnRow.modeCtl = s.modeCtl
      ∧ s.fillOwnRow.diag = s.diag := by
  unfold State.fillOwnRow
  split <;> simp

@[simp] theorem reportStep_keeps :
    s.reportStep.pending = s.pending ∧ s.reportStep.powered = s.powered ∧ s.reportStep.freeCount = s.freeCount
      ∧ s.reportStep.straps = s.straps ∧ s.reportStep.config = s.config ∧ s.reportStep.sfe = s.sfe
      ∧ s.reportStep.sweep = s.sweep ∧ s.reportStep.classes = s.classes ∧ s.reportStep.table = s.table
      ∧ s.reportStep.lamps = s.lamps ∧ s.reportStep.departures = s.departures ∧ s.reportStep.vehicle = s.vehicle
      ∧ s.reportStep.modeCtl = s.modeCtl := by
  simp [State.reportStep]

@[simp] theorem endAlertsByClass_keeps :
    s.endAlertsByClass.pending = s.pending ∧ s.endAlertsByClass.powered = s.powered
      ∧ s.endAlertsByClass.freeCount = s.freeCount ∧ s.endAlertsByClass.straps = s.straps
      ∧ s.endAlertsByClass.config = s.config ∧ s.endAlertsByClass.sfe = s.sfe
      ∧ s.endAlertsByClass.sweep = s.sweep ∧ s.endAlertsByClass.classes = s.classes
      ∧ s.endAlertsByClass.lamps = s.lamps ∧ s.endAlertsByClass.departures = s.departures
      ∧ s.endAlertsByClass.duty = s.duty ∧ s.endAlertsByClass.emission = s.emission
      ∧ s.endAlertsByClass.vehicle = s.vehicle ∧ s.endAlertsByClass.modeCtl = s.modeCtl
      ∧ s.endAlertsByClass.diag = s.diag := by
  simp only [State.endAlertsByClass, positionsInOrder, List.foldl]
  repeat' split
  all_goals simp

@[simp] theorem idleStep_keeps (changed : Bool) :
    (s.idleStep changed).pending = s.pending ∧ (s.idleStep changed).powered = s.powered
      ∧ (s.idleStep changed).freeCount = s.freeCount ∧ (s.idleStep changed).straps = s.straps
      ∧ (s.idleStep changed).config = s.config ∧ (s.idleStep changed).sfe = s.sfe
      ∧ (s.idleStep changed).sweep = s.sweep ∧ (s.idleStep changed).classes = s.classes
      ∧ (s.idleStep changed).table = s.table ∧ (s.idleStep changed).lamps = s.lamps
      ∧ (s.idleStep changed).departures = s.departures ∧ (s.idleStep changed).duty = s.duty
      ∧ (s.idleStep changed).emission = s.emission ∧ (s.idleStep changed).vehicle = s.vehicle := by
  unfold State.idleStep
  split <;> simp

@[simp] theorem latchReason_keeps (event : LatchEvent) :
    (s.latchReason event).pending = s.pending ∧ (s.latchReason event).powered = s.powered
      ∧ (s.latchReason event).freeCount = s.freeCount ∧ (s.latchReason event).straps = s.straps
      ∧ (s.latchReason event).config = s.config ∧ (s.latchReason event).sfe = s.sfe
      ∧ (s.latchReason event).sweep = s.sweep ∧ (s.latchReason event).classes = s.classes
      ∧ (s.latchReason event).table = s.table ∧ (s.latchReason event).lamps = s.lamps
      ∧ (s.latchReason event).departures = s.departures ∧ (s.latchReason event).duty = s.duty
      ∧ (s.latchReason event).emission = s.emission ∧ (s.latchReason event).vehicle = s.vehicle := by
  unfold State.latchReason
  split <;> simp

@[simp] theorem vacantStep_keeps :
    s.vacantStep.pending = s.pending ∧ s.vacantStep.powered = s.powered ∧ s.vacantStep.freeCount = s.freeCount
      ∧ s.vacantStep.straps = s.straps ∧ s.vacantStep.config = s.config ∧ s.vacantStep.classes = s.classes
      ∧ s.vacantStep.departures = s.departures ∧ s.vacantStep.vehicle = s.vehicle ∧ s.vacantStep.diag = s.diag := by
  unfold State.vacantStep
  repeat' split
  all_goals simp

@[simp] theorem wakeOthers_keeps (ownChange : Bool) :
    (s.wakeOthers ownChange).pending = s.pending ∧ (s.wakeOthers ownChange).powered = s.powered
      ∧ (s.wakeOthers ownChange).freeCount = s.freeCount ∧ (s.wakeOthers ownChange).straps = s.straps
      ∧ (s.wakeOthers ownChange).config = s.config ∧ (s.wakeOthers ownChange).sfe = s.sfe
      ∧ (s.wakeOthers ownChange).classes = s.classes ∧ (s.wakeOthers ownChange).table = s.table
      ∧ (s.wakeOthers ownChange).departures = s.departures ∧ (s.wakeOthers ownChange).vehicle = s.vehicle
      ∧ (s.wakeOthers ownChange).diag = s.diag := by
  unfold State.wakeOthers
  split <;> simp

@[simp] theorem watchStep_keeps (ownChange : Bool) :
    (s.watchStep ownChange).pending = s.pending ∧ (s.watchStep ownChange).powered = s.powered
      ∧ (s.watchStep ownChange).freeCount = s.freeCount ∧ (s.watchStep ownChange).straps = s.straps
      ∧ (s.watchStep ownChange).config = s.config ∧ (s.watchStep ownChange).classes = s.classes
      ∧ (s.watchStep ownChange).departures = s.departures ∧ (s.watchStep ownChange).vehicle = s.vehicle
      ∧ (s.watchStep ownChange).diag = s.diag := by
  unfold State.watchStep
  split <;> simp

@[simp] theorem modeStep_keeps (c : OwnChanges) :
    (s.modeStep c).pending = s.pending ∧ (s.modeStep c).powered = s.powered
      ∧ (s.modeStep c).freeCount = s.freeCount ∧ (s.modeStep c).straps = s.straps
      ∧ (s.modeStep c).config = s.config ∧ (s.modeStep c).classes = s.classes
      ∧ (s.modeStep c).departures = s.departures ∧ (s.modeStep c).vehicle = s.vehicle := by
  simp [State.modeStep]

@[simp] theorem endFlight_keeps :
    s.endFlight.pending = s.pending ∧ s.endFlight.powered = s.powered ∧ s.endFlight.freeCount = s.freeCount
      ∧ s.endFlight.straps = s.straps ∧ s.endFlight.config = s.config ∧ s.endFlight.sfe = s.sfe
      ∧ s.endFlight.classes = s.classes ∧ s.endFlight.table = s.table ∧ s.endFlight.lamps = s.lamps
      ∧ s.endFlight.departures = s.departures ∧ s.endFlight.duty = s.duty ∧ s.endFlight.link = s.link
      ∧ s.endFlight.emission = s.emission ∧ s.endFlight.vehicle = s.vehicle ∧ s.endFlight.modeCtl = s.modeCtl
      ∧ s.endFlight.diag = s.diag := by
  refine ⟨rfl, rfl, rfl, rfl, rfl, rfl, rfl, rfl, rfl, rfl, rfl, rfl, rfl, rfl, rfl, rfl⟩

@[simp] theorem completeSweep_keeps (number : Word16) (test : Bool) (tagAt : Option Pos) (r : SweepReadings) :
    (s.completeSweep number test tagAt r).pending = s.pending
      ∧ (s.completeSweep number test tagAt r).powered = s.powered
      ∧ (s.completeSweep number test tagAt r).freeCount = s.freeCount
      ∧ (s.completeSweep number test tagAt r).straps = s.straps
      ∧ (s.completeSweep number test tagAt r).config = s.config
      ∧ (s.completeSweep number test tagAt r).vehicle = s.vehicle := by
  simp [State.completeSweep]

@[simp] theorem localWakeCause_keeps (pins : BitVec 5) :
    (s.localWakeCause pins).pending = s.pending ∧ (s.localWakeCause pins).powered = s.powered
      ∧ (s.localWakeCause pins).freeCount = s.freeCount ∧ (s.localWakeCause pins).config = s.config
      ∧ (s.localWakeCause pins).diag = s.diag := by
  unfold State.localWakeCause
  split <;> simp

/-! ### Duty unit -/

@[simp] theorem emit_keeps :
    s.emit.pending = s.pending ∧ s.emit.powered = s.powered ∧ s.emit.freeCount = s.freeCount
      ∧ s.emit.straps = s.straps ∧ s.emit.config = s.config ∧ s.emit.sfe = s.sfe ∧ s.emit.sweep = s.sweep
      ∧ s.emit.classes = s.classes ∧ s.emit.table = s.table ∧ s.emit.lamps = s.lamps
      ∧ s.emit.departures = s.departures ∧ s.emit.duty = s.duty ∧ s.emit.vehicle = s.vehicle
      ∧ s.emit.modeCtl = s.modeCtl := by
  unfold State.emit
  split <;> simp

@[simp] theorem hear_keeps (n : StationNo) :
    (s.hear n).pending = s.pending ∧ (s.hear n).powered = s.powered ∧ (s.hear n).freeCount = s.freeCount
      ∧ (s.hear n).straps = s.straps ∧ (s.hear n).config = s.config ∧ (s.hear n).sfe = s.sfe
      ∧ (s.hear n).sweep = s.sweep ∧ (s.hear n).classes = s.classes ∧ (s.hear n).table = s.table
      ∧ (s.hear n).lamps = s.lamps ∧ (s.hear n).departures = s.departures ∧ (s.hear n).link = s.link
      ∧ (s.hear n).emission = s.emission ∧ (s.hear n).vehicle = s.vehicle ∧ (s.hear n).modeCtl = s.modeCtl
      ∧ (s.hear n).diag = s.diag := by
  unfold State.hear
  split <;> simp

@[simp] theorem release_keeps (n : StationNo) :
    (s.release n).pending = s.pending ∧ (s.release n).powered = s.powered
      ∧ (s.release n).freeCount = s.freeCount ∧ (s.release n).straps = s.straps
      ∧ (s.release n).config = s.config ∧ (s.release n).sfe = s.sfe ∧ (s.release n).sweep = s.sweep
      ∧ (s.release n).classes = s.classes ∧ (s.release n).table = s.table ∧ (s.release n).lamps = s.lamps
      ∧ (s.release n).departures = s.departures ∧ (s.release n).link = s.link
      ∧ (s.release n).emission = s.emission ∧ (s.release n).vehicle = s.vehicle
      ∧ (s.release n).modeCtl = s.modeCtl ∧ (s.release n).diag = s.diag := by
  unfold State.release
  split <;> simp

@[simp] theorem yieldDuty_keeps :
    s.yieldDuty.pending = s.pending ∧ s.yieldDuty.powered = s.powered ∧ s.yieldDuty.freeCount = s.freeCount
      ∧ s.yieldDuty.straps = s.straps ∧ s.yieldDuty.config = s.config ∧ s.yieldDuty.sfe = s.sfe
      ∧ s.yieldDuty.sweep = s.sweep ∧ s.yieldDuty.classes = s.classes ∧ s.yieldDuty.table = s.table
      ∧ s.yieldDuty.lamps = s.lamps ∧ s.yieldDuty.departures = s.departures ∧ s.yieldDuty.link = s.link
      ∧ s.yieldDuty.emission = s.emission ∧ s.yieldDuty.vehicle = s.vehicle ∧ s.yieldDuty.modeCtl = s.modeCtl
      ∧ s.yieldDuty.diag = s.diag := by
  simp [State.yieldDuty]

@[simp] theorem peerState_keeps (n : StationNo) (payload : List Byte) :
    (s.peerState n payload).pending = s.pending ∧ (s.peerState n payload).powered = s.powered
      ∧ (s.peerState n payload).freeCount = s.freeCount ∧ (s.peerState n payload).straps = s.straps
      ∧ (s.peerState n payload).config = s.config ∧ (s.peerState n payload).sfe = s.sfe
      ∧ (s.peerState n payload).sweep = s.sweep ∧ (s.peerState n payload).classes = s.classes
      ∧ (s.peerState n payload).table = s.table ∧ (s.peerState n payload).lamps = s.lamps
      ∧ (s.peerState n payload).departures = s.departures ∧ (s.peerState n payload).link = s.link
      ∧ (s.peerState n payload).emission = s.emission ∧ (s.peerState n payload).vehicle = s.vehicle
      ∧ (s.peerState n payload).modeCtl = s.modeCtl ∧ (s.peerState n payload).diag = s.diag := by
  unfold State.peerState
  repeat' split
  all_goals simp

/-! ### Row link -/

@[simp] theorem stuckLine_keeps :
    s.stuckLine.pending = s.pending ∧ s.stuckLine.powered = s.powered ∧ s.stuckLine.freeCount = s.freeCount
      ∧ s.stuckLine.straps = s.straps ∧ s.stuckLine.config = s.config ∧ s.stuckLine.sfe = s.sfe
      ∧ s.stuckLine.sweep = s.sweep ∧ s.stuckLine.classes = s.classes ∧ s.stuckLine.table = s.table
      ∧ s.stuckLine.lamps = s.lamps ∧ s.stuckLine.departures = s.departures ∧ s.stuckLine.duty = s.duty
      ∧ s.stuckLine.emission = s.emission ∧ s.stuckLine.vehicle = s.vehicle ∧ s.stuckLine.modeCtl = s.modeCtl := by
  simp [State.stuckLine]

@[simp] theorem edge_keeps :
    s.edge.pending = s.pending ∧ s.edge.powered = s.powered ∧ s.edge.freeCount = s.freeCount
      ∧ s.edge.straps = s.straps ∧ s.edge.config = s.config ∧ s.edge.sfe = s.sfe ∧ s.edge.sweep = s.sweep
      ∧ s.edge.classes = s.classes ∧ s.edge.table = s.table ∧ s.edge.lamps = s.lamps
      ∧ s.edge.departures = s.departures ∧ s.edge.duty = s.duty ∧ s.edge.emission = s.emission
      ∧ s.edge.vehicle = s.vehicle ∧ s.edge.modeCtl = s.modeCtl ∧ s.edge.diag = s.diag := by
  refine ⟨rfl, rfl, rfl, rfl, rfl, rfl, rfl, rfl, rfl, rfl, rfl, rfl, rfl, rfl, rfl, rfl⟩

@[simp] theorem startFrame_keeps :
    s.startFrame.pending = s.pending ∧ s.startFrame.powered = s.powered ∧ s.startFrame.freeCount = s.freeCount
      ∧ s.startFrame.straps = s.straps ∧ s.startFrame.config = s.config ∧ s.startFrame.sfe = s.sfe
      ∧ s.startFrame.sweep = s.sweep ∧ s.startFrame.classes = s.classes ∧ s.startFrame.table = s.table
      ∧ s.startFrame.lamps = s.lamps ∧ s.startFrame.departures = s.departures ∧ s.startFrame.duty = s.duty
      ∧ s.startFrame.emission = s.emission ∧ s.startFrame.vehicle = s.vehicle ∧ s.startFrame.modeCtl = s.modeCtl
      ∧ s.startFrame.diag = s.diag := by
  unfold State.startFrame
  split <;> simp

@[simp] theorem reportFence_keeps (entered : Bool) (header : Byte) (payload : List Byte) :
    (s.reportFence entered header payload).pending = s.pending
      ∧ (s.reportFence entered header payload).powered = s.powered
      ∧ (s.reportFence entered header payload).freeCount = s.freeCount
      ∧ (s.reportFence entered header payload).straps = s.straps
      ∧ (s.reportFence entered header payload).config = s.config
      ∧ (s.reportFence entered header payload).sfe = s.sfe
      ∧ (s.reportFence entered header payload).sweep = s.sweep
      ∧ (s.reportFence entered header payload).classes = s.classes
      ∧ (s.reportFence entered header payload).table = s.table
      ∧ (s.reportFence entered header payload).lamps = s.lamps
      ∧ (s.reportFence entered header payload).departures = s.departures
      ∧ (s.reportFence entered header payload).duty = s.duty
      ∧ (s.reportFence entered header payload).link = s.link
      ∧ (s.reportFence entered header payload).emission = s.emission
      ∧ (s.reportFence entered header payload).vehicle = s.vehicle
      ∧ (s.reportFence entered header payload).modeCtl = s.modeCtl := by
  unfold State.reportFence
  split <;> simp

@[simp] theorem frameCutOff_keeps (e : TxEntry) :
    (s.frameCutOff e).pending = s.pending ∧ (s.frameCutOff e).powered = s.powered
      ∧ (s.frameCutOff e).freeCount = s.freeCount ∧ (s.frameCutOff e).straps = s.straps
      ∧ (s.frameCutOff e).config = s.config ∧ (s.frameCutOff e).sfe = s.sfe ∧ (s.frameCutOff e).sweep = s.sweep
      ∧ (s.frameCutOff e).classes = s.classes ∧ (s.frameCutOff e).lamps = s.lamps
      ∧ (s.frameCutOff e).duty = s.duty ∧ (s.frameCutOff e).emission = s.emission
      ∧ (s.frameCutOff e).vehicle = s.vehicle := by
  unfold State.frameCutOff
  split <;> simp

@[simp] theorem cutOff_keeps (e : TxEntry) :
    (s.cutOff e).pending = s.pending ∧ (s.cutOff e).powered = s.powered ∧ (s.cutOff e).freeCount = s.freeCount
      ∧ (s.cutOff e).straps = s.straps ∧ (s.cutOff e).config = s.config ∧ (s.cutOff e).sfe = s.sfe
      ∧ (s.cutOff e).sweep = s.sweep ∧ (s.cutOff e).classes = s.classes ∧ (s.cutOff e).lamps = s.lamps
      ∧ (s.cutOff e).duty = s.duty ∧ (s.cutOff e).emission = s.emission ∧ (s.cutOff e).vehicle = s.vehicle := by
  simp [State.cutOff]

@[simp] theorem reportEcho_keeps (e : TxEntry) (echoed : Bool) :
    (s.reportEcho e echoed).pending = s.pending ∧ (s.reportEcho e echoed).powered = s.powered
      ∧ (s.reportEcho e echoed).freeCount = s.freeCount ∧ (s.reportEcho e echoed).straps = s.straps
      ∧ (s.reportEcho e echoed).config = s.config ∧ (s.reportEcho e echoed).sfe = s.sfe
      ∧ (s.reportEcho e echoed).sweep = s.sweep ∧ (s.reportEcho e echoed).classes = s.classes
      ∧ (s.reportEcho e echoed).table = s.table ∧ (s.reportEcho e echoed).lamps = s.lamps
      ∧ (s.reportEcho e echoed).departures = s.departures ∧ (s.reportEcho e echoed).duty = s.duty
      ∧ (s.reportEcho e echoed).link = s.link ∧ (s.reportEcho e echoed).emission = s.emission
      ∧ (s.reportEcho e echoed).vehicle = s.vehicle ∧ (s.reportEcho e echoed).modeCtl = s.modeCtl := by
  unfold State.reportEcho
  split <;> simp

@[simp] theorem alertSent_keeps (payload : List Byte) :
    (s.alertSent payload).pending = s.pending ∧ (s.alertSent payload).powered = s.powered
      ∧ (s.alertSent payload).freeCount = s.freeCount ∧ (s.alertSent payload).straps = s.straps
      ∧ (s.alertSent payload).config = s.config ∧ (s.alertSent payload).sfe = s.sfe
      ∧ (s.alertSent payload).sweep = s.sweep ∧ (s.alertSent payload).classes = s.classes
      ∧ (s.alertSent payload).lamps = s.lamps ∧ (s.alertSent payload).departures = s.departures
      ∧ (s.alertSent payload).duty = s.duty ∧ (s.alertSent payload).emission = s.emission
      ∧ (s.alertSent payload).vehicle = s.vehicle ∧ (s.alertSent payload).modeCtl = s.modeCtl
      ∧ (s.alertSent payload).diag = s.diag := by
  unfold State.alertSent
  split <;> simp

@[simp] theorem sentReport_keeps (e : TxEntry) :
    (s.sentReport e).pending = s.pending ∧ (s.sentReport e).powered = s.powered
      ∧ (s.sentReport e).freeCount = s.freeCount ∧ (s.sentReport e).straps = s.straps
      ∧ (s.sentReport e).config = s.config ∧ (s.sentReport e).sfe = s.sfe ∧ (s.sentReport e).sweep = s.sweep
      ∧ (s.sentReport e).classes = s.classes ∧ (s.sentReport e).lamps = s.lamps
      ∧ (s.sentReport e).departures = s.departures ∧ (s.sentReport e).duty = s.duty
      ∧ (s.sentReport e).emission = s.emission ∧ (s.sentReport e).vehicle = s.vehicle := by
  unfold State.sentReport
  split <;> simp

@[simp] theorem frameSent_keeps (e : TxEntry) (echoed : Bool) :
    (s.frameSent e echoed).pending = s.pending ∧ (s.frameSent e echoed).powered = s.powered
      ∧ (s.frameSent e echoed).freeCount = s.freeCount ∧ (s.frameSent e echoed).straps = s.straps
      ∧ (s.frameSent e echoed).config = s.config ∧ (s.frameSent e echoed).sfe = s.sfe
      ∧ (s.frameSent e echoed).sweep = s.sweep ∧ (s.frameSent e echoed).classes = s.classes
      ∧ (s.frameSent e echoed).lamps = s.lamps ∧ (s.frameSent e echoed).departures = s.departures
      ∧ (s.frameSent e echoed).duty = s.duty ∧ (s.frameSent e echoed).emission = s.emission
      ∧ (s.frameSent e echoed).vehicle = s.vehicle := by
  simp [State.frameSent]

@[simp] theorem numberAndEcho_keeps :
    s.numberAndEcho.pending = s.pending ∧ s.numberAndEcho.powered = s.powered
      ∧ s.numberAndEcho.freeCount = s.freeCount ∧ s.numberAndEcho.straps = s.straps
      ∧ s.numberAndEcho.config = s.config ∧ s.numberAndEcho.sfe = s.sfe ∧ s.numberAndEcho.sweep = s.sweep
      ∧ s.numberAndEcho.classes = s.classes ∧ s.numberAndEcho.table = s.table ∧ s.numberAndEcho.lamps = s.lamps
      ∧ s.numberAndEcho.departures = s.departures ∧ s.numberAndEcho.duty = s.duty
      ∧ s.numberAndEcho.emission = s.emission ∧ s.numberAndEcho.vehicle = s.vehicle
      ∧ s.numberAndEcho.modeCtl = s.modeCtl ∧ s.numberAndEcho.diag = s.diag := by
  refine ⟨rfl, rfl, rfl, rfl, rfl, rfl, rfl, rfl, rfl, rfl, rfl, rfl, rfl, rfl, rfl, rfl⟩

@[simp] theorem restartAlone_keeps :
    s.restartAlone.pending = s.pending ∧ s.restartAlone.powered = s.powered
      ∧ s.restartAlone.freeCount = s.freeCount ∧ s.restartAlone.straps = s.straps
      ∧ s.restartAlone.config = s.config ∧ s.restartAlone.sfe = s.sfe ∧ s.restartAlone.sweep = s.sweep
      ∧ s.restartAlone.classes = s.classes ∧ s.restartAlone.table = s.table ∧ s.restartAlone.lamps = s.lamps
      ∧ s.restartAlone.departures = s.departures ∧ s.restartAlone.duty = s.duty ∧ s.restartAlone.link = s.link
      ∧ s.restartAlone.emission = s.emission ∧ s.restartAlone.vehicle = s.vehicle ∧ s.restartAlone.diag = s.diag := by
  refine ⟨rfl, rfl, rfl, rfl, rfl, rfl, rfl, rfl, rfl, rfl, rfl, rfl, rfl, rfl, rfl, rfl⟩

@[simp] theorem hearProposal_keeps (kind : FrameKind) :
    (s.hearProposal kind).pending = s.pending ∧ (s.hearProposal kind).powered = s.powered
      ∧ (s.hearProposal kind).freeCount = s.freeCount ∧ (s.hearProposal kind).straps = s.straps
      ∧ (s.hearProposal kind).config = s.config ∧ (s.hearProposal kind).sfe = s.sfe
      ∧ (s.hearProposal kind).sweep = s.sweep ∧ (s.hearProposal kind).classes = s.classes
      ∧ (s.hearProposal kind).table = s.table ∧ (s.hearProposal kind).lamps = s.lamps
      ∧ (s.hearProposal kind).departures = s.departures ∧ (s.hearProposal kind).duty = s.duty
      ∧ (s.hearProposal kind).emission = s.emission ∧ (s.hearProposal kind).vehicle = s.vehicle := by
  unfold State.hearProposal
  split <;> simp

@[simp] theorem accept_keeps (kind : FrameKind) (n : StationNo) (payload : List Byte) :
    (s.accept kind n payload).pending = s.pending ∧ (s.accept kind n payload).powered = s.powered
      ∧ (s.accept kind n payload).freeCount = s.freeCount ∧ (s.accept kind n payload).straps = s.straps
      ∧ (s.accept kind n payload).config = s.config ∧ (s.accept kind n payload).sfe = s.sfe
      ∧ (s.accept kind n payload).sweep = s.sweep ∧ (s.accept kind n payload).classes = s.classes
      ∧ (s.accept kind n payload).table = s.table ∧ (s.accept kind n payload).lamps = s.lamps
      ∧ (s.accept kind n payload).departures = s.departures ∧ (s.accept kind n payload).emission = s.emission
      ∧ (s.accept kind n payload).vehicle = s.vehicle := by
  simp [State.accept]

@[simp] theorem markClash_keeps :
    s.markClash.pending = s.pending ∧ s.markClash.powered = s.powered ∧ s.markClash.freeCount = s.freeCount
      ∧ s.markClash.straps = s.straps ∧ s.markClash.config = s.config ∧ s.markClash.sfe = s.sfe
      ∧ s.markClash.sweep = s.sweep ∧ s.markClash.classes = s.classes ∧ s.markClash.table = s.table
      ∧ s.markClash.lamps = s.lamps ∧ s.markClash.departures = s.departures ∧ s.markClash.duty = s.duty
      ∧ s.markClash.emission = s.emission ∧ s.markClash.vehicle = s.vehicle ∧ s.markClash.modeCtl = s.modeCtl
      ∧ s.markClash.diag = s.diag := by
  refine ⟨rfl, rfl, rfl, rfl, rfl, rfl, rfl, rfl, rfl, rfl, rfl, rfl, rfl, rfl, rfl, rfl⟩

@[simp] theorem stationClash_keeps (kind : FrameKind) (header : Byte) (payload : List Byte) :
    (s.stationClash kind header payload).pending = s.pending
      ∧ (s.stationClash kind header payload).powered = s.powered
      ∧ (s.stationClash kind header payload).freeCount = s.freeCount
      ∧ (s.stationClash kind header payload).straps = s.straps
      ∧ (s.stationClash kind header payload).config = s.config
      ∧ (s.stationClash kind header payload).sfe = s.sfe ∧ (s.stationClash kind header payload).sweep = s.sweep
      ∧ (s.stationClash kind header payload).classes = s.classes
      ∧ (s.stationClash kind header payload).table = s.table
      ∧ (s.stationClash kind header payload).lamps = s.lamps
      ∧ (s.stationClash kind header payload).departures = s.departures
      ∧ (s.stationClash kind header payload).duty = s.duty
      ∧ (s.stationClash kind header payload).emission = s.emission
      ∧ (s.stationClash kind header payload).vehicle = s.vehicle := by
  simp [State.stationClash]

@[simp] theorem badCheck_keeps (header : Byte) (payload : List Byte) (echoed : Bool) :
    (s.badCheck header payload echoed).pending = s.pending
      ∧ (s.badCheck header payload echoed).powered = s.powered
      ∧ (s.badCheck header payload echoed).freeCount = s.freeCount
      ∧ (s.badCheck header payload echoed).straps = s.straps
      ∧ (s.badCheck header payload echoed).config = s.config ∧ (s.badCheck header payload echoed).sfe = s.sfe
      ∧ (s.badCheck header payload echoed).sweep = s.sweep
      ∧ (s.badCheck header payload echoed).classes = s.classes
      ∧ (s.badCheck header payload echoed).table = s.table ∧ (s.badCheck header payload echoed).lamps = s.lamps
      ∧ (s.badCheck header payload echoed).departures = s.departures
      ∧ (s.badCheck header payload echoed).duty = s.duty ∧ (s.badCheck header payload echoed).link = s.link
      ∧ (s.badCheck header payload echoed).emission = s.emission
      ∧ (s.badCheck header payload echoed).vehicle = s.vehicle
      ∧ (s.badCheck header payload echoed).modeCtl = s.modeCtl := by
  simp [State.badCheck]

@[simp] theorem wholeFrame_keeps (kind : FrameKind) (header : Byte) (payload : List Byte) (check : Byte) (echoed : Bool) :
    (s.wholeFrame kind header payload check echoed).pending = s.pending
      ∧ (s.wholeFrame kind header payload check echoed).powered = s.powered
      ∧ (s.wholeFrame kind header payload check echoed).freeCount = s.freeCount
      ∧ (s.wholeFrame kind header payload check echoed).straps = s.straps
      ∧ (s.wholeFrame kind header payload check echoed).config = s.config
      ∧ (s.wholeFrame kind header payload check echoed).sfe = s.sfe
      ∧ (s.wholeFrame kind header payload check echoed).sweep = s.sweep
      ∧ (s.wholeFrame kind header payload check echoed).classes = s.classes
      ∧ (s.wholeFrame kind header payload check echoed).table = s.table
      ∧ (s.wholeFrame kind header payload check echoed).lamps = s.lamps
      ∧ (s.wholeFrame kind header payload check echoed).departures = s.departures
      ∧ (s.wholeFrame kind header payload check echoed).emission = s.emission
      ∧ (s.wholeFrame kind header payload check echoed).vehicle = s.vehicle := by
  unfold State.wholeFrame
  repeat' split
  all_goals simp

@[simp] theorem takeReading_keeps (r : Reading) (echoed : Bool) :
    (s.takeReading r echoed).pending = s.pending ∧ (s.takeReading r echoed).powered = s.powered
      ∧ (s.takeReading r echoed).freeCount = s.freeCount ∧ (s.takeReading r echoed).straps = s.straps
      ∧ (s.takeReading r echoed).config = s.config ∧ (s.takeReading r echoed).sfe = s.sfe
      ∧ (s.takeReading r echoed).sweep = s.sweep ∧ (s.takeReading r echoed).classes = s.classes
      ∧ (s.takeReading r echoed).table = s.table ∧ (s.takeReading r echoed).lamps = s.lamps
      ∧ (s.takeReading r echoed).departures = s.departures ∧ (s.takeReading r echoed).emission = s.emission
      ∧ (s.takeReading r echoed).vehicle = s.vehicle := by
  unfold State.takeReading
  split <;> simp

@[simp] theorem hearCells_keeps (r : Reading) (echoed : Bool) :
    (s.hearCells r echoed).pending = s.pending ∧ (s.hearCells r echoed).powered = s.powered
      ∧ (s.hearCells r echoed).freeCount = s.freeCount ∧ (s.hearCells r echoed).straps = s.straps
      ∧ (s.hearCells r echoed).config = s.config ∧ (s.hearCells r echoed).sfe = s.sfe
      ∧ (s.hearCells r echoed).sweep = s.sweep ∧ (s.hearCells r echoed).classes = s.classes
      ∧ (s.hearCells r echoed).table = s.table ∧ (s.hearCells r echoed).lamps = s.lamps
      ∧ (s.hearCells r echoed).departures = s.departures ∧ (s.hearCells r echoed).emission = s.emission
      ∧ (s.hearCells r echoed).vehicle = s.vehicle := by
  unfold State.hearCells
  split <;> simp

/-! ### Vehicle data, mode controller -/

@[simp] theorem doorReport_keeps (isOpen : Bool) :
    (s.doorReport isOpen).pending = s.pending ∧ (s.doorReport isOpen).powered = s.powered
      ∧ (s.doorReport isOpen).freeCount = s.freeCount ∧ (s.doorReport isOpen).straps = s.straps
      ∧ (s.doorReport isOpen).config = s.config ∧ (s.doorReport isOpen).sfe = s.sfe
      ∧ (s.doorReport isOpen).sweep = s.sweep ∧ (s.doorReport isOpen).classes = s.classes
      ∧ (s.doorReport isOpen).table = s.table ∧ (s.doorReport isOpen).lamps = s.lamps
      ∧ (s.doorReport isOpen).duty = s.duty ∧ (s.doorReport isOpen).emission = s.emission
      ∧ (s.doorReport isOpen).vehicle = s.vehicle := by
  unfold State.doorReport
  split <;> simp

@[simp] theorem acknowledge_keeps (set : Bool) :
    (s.acknowledge set).pending = s.pending ∧ (s.acknowledge set).powered = s.powered
      ∧ (s.acknowledge set).freeCount = s.freeCount ∧ (s.acknowledge set).straps = s.straps
      ∧ (s.acknowledge set).config = s.config ∧ (s.acknowledge set).sfe = s.sfe
      ∧ (s.acknowledge set).sweep = s.sweep ∧ (s.acknowledge set).classes = s.classes
      ∧ (s.acknowledge set).lamps = s.lamps ∧ (s.acknowledge set).departures = s.departures
      ∧ (s.acknowledge set).duty = s.duty ∧ (s.acknowledge set).emission = s.emission
      ∧ (s.acknowledge set).vehicle = s.vehicle ∧ (s.acknowledge set).modeCtl = s.modeCtl
      ∧ (s.acknowledge set).diag = s.diag := by
  unfold State.acknowledge
  split <;> simp

@[simp] theorem takeVehicle_keeps (f : VehicleFrame) :
    (s.takeVehicle f).pending = s.pending ∧ (s.takeVehicle f).powered = s.powered
      ∧ (s.takeVehicle f).freeCount = s.freeCount ∧ (s.takeVehicle f).straps = s.straps
      ∧ (s.takeVehicle f).config = s.config ∧ (s.takeVehicle f).sfe = s.sfe
      ∧ (s.takeVehicle f).classes = s.classes := by
  simp [State.takeVehicle]

@[simp] theorem vehicleFrom_keeps (n : StationNo) (payload : List Byte) :
    (s.vehicleFrom n payload).pending = s.pending ∧ (s.vehicleFrom n payload).powered = s.powered
      ∧ (s.vehicleFrom n payload).freeCount = s.freeCount ∧ (s.vehicleFrom n payload).straps = s.straps
      ∧ (s.vehicleFrom n payload).config = s.config ∧ (s.vehicleFrom n payload).sfe = s.sfe
      ∧ (s.vehicleFrom n payload).classes = s.classes := by
  unfold State.vehicleFrom
  split <;> simp

@[simp] theorem propose_keeps :
    s.propose.pending = s.pending ∧ s.propose.powered = s.powered ∧ s.propose.freeCount = s.freeCount
      ∧ s.propose.straps = s.straps ∧ s.propose.config = s.config ∧ s.propose.sfe = s.sfe
      ∧ s.propose.sweep = s.sweep ∧ s.propose.classes = s.classes ∧ s.propose.table = s.table
      ∧ s.propose.lamps = s.lamps ∧ s.propose.departures = s.departures ∧ s.propose.duty = s.duty
      ∧ s.propose.emission = s.emission ∧ s.propose.vehicle = s.vehicle := by
  unfold State.propose
  split <;> simp

@[simp] theorem idleReached_keeps :
    s.idleReached.pending = s.pending ∧ s.idleReached.powered = s.powered
      ∧ s.idleReached.freeCount = s.freeCount ∧ s.idleReached.straps = s.straps
      ∧ s.idleReached.config = s.config ∧ s.idleReached.sfe = s.sfe ∧ s.idleReached.sweep = s.sweep
      ∧ s.idleReached.classes = s.classes ∧ s.idleReached.table = s.table ∧ s.idleReached.lamps = s.lamps
      ∧ s.idleReached.departures = s.departures ∧ s.idleReached.duty = s.duty
      ∧ s.idleReached.emission = s.emission ∧ s.idleReached.vehicle = s.vehicle := by
  unfold State.idleReached
  repeat' split
  all_goals simp

@[simp] theorem activeWindowEnd_keeps (w : Window) :
    (s.activeWindowEnd w).pending = s.pending ∧ (s.activeWindowEnd w).powered = s.powered
      ∧ (s.activeWindowEnd w).freeCount = s.freeCount ∧ (s.activeWindowEnd w).straps = s.straps
      ∧ (s.activeWindowEnd w).config = s.config ∧ (s.activeWindowEnd w).classes = s.classes
      ∧ (s.activeWindowEnd w).departures = s.departures ∧ (s.activeWindowEnd w).vehicle = s.vehicle := by
  unfold State.activeWindowEnd
  split <;> simp

@[simp] theorem endWindow_keeps (w : Window) :
    (s.endWindow w).pending = s.pending ∧ (s.endWindow w).powered = s.powered
      ∧ (s.endWindow w).freeCount = s.freeCount ∧ (s.endWindow w).straps = s.straps
      ∧ (s.endWindow w).config = s.config ∧ (s.endWindow w).classes = s.classes
      ∧ (s.endWindow w).departures = s.departures ∧ (s.endWindow w).vehicle = s.vehicle := by
  unfold State.endWindow
  split <;> simp

@[simp] theorem aloneReached_keeps :
    s.aloneReached.pending = s.pending ∧ s.aloneReached.powered = s.powered
      ∧ s.aloneReached.freeCount = s.freeCount ∧ s.aloneReached.straps = s.straps
      ∧ s.aloneReached.config = s.config ∧ s.aloneReached.classes = s.classes
      ∧ s.aloneReached.departures = s.departures ∧ s.aloneReached.vehicle = s.vehicle
      ∧ s.aloneReached.diag = s.diag := by
  unfold State.aloneReached
  split <;> simp

@[simp] theorem sendAlert_keeps (p : Pos) (cls : Cls) (count : Nat) :
    (s.sendAlert p cls count).pending = s.pending ∧ (s.sendAlert p cls count).powered = s.powered
      ∧ (s.sendAlert p cls count).freeCount = s.freeCount ∧ (s.sendAlert p cls count).straps = s.straps
      ∧ (s.sendAlert p cls count).config = s.config ∧ (s.sendAlert p cls count).sfe = s.sfe
      ∧ (s.sendAlert p cls count).sweep = s.sweep ∧ (s.sendAlert p cls count).classes = s.classes
      ∧ (s.sendAlert p cls count).lamps = s.lamps ∧ (s.sendAlert p cls count).departures = s.departures
      ∧ (s.sendAlert p cls count).duty = s.duty ∧ (s.sendAlert p cls count).emission = s.emission
      ∧ (s.sendAlert p cls count).vehicle = s.vehicle ∧ (s.sendAlert p cls count).modeCtl = s.modeCtl := by
  simp [State.sendAlert]

@[simp] theorem raiseAlert_keeps (p : Pos) :
    (s.raiseAlert p).pending = s.pending ∧ (s.raiseAlert p).powered = s.powered
      ∧ (s.raiseAlert p).freeCount = s.freeCount ∧ (s.raiseAlert p).straps = s.straps
      ∧ (s.raiseAlert p).config = s.config ∧ (s.raiseAlert p).sfe = s.sfe ∧ (s.raiseAlert p).sweep = s.sweep
      ∧ (s.raiseAlert p).classes = s.classes ∧ (s.raiseAlert p).lamps = s.lamps
      ∧ (s.raiseAlert p).departures = s.departures ∧ (s.raiseAlert p).duty = s.duty
      ∧ (s.raiseAlert p).emission = s.emission ∧ (s.raiseAlert p).vehicle = s.vehicle
      ∧ (s.raiseAlert p).modeCtl = s.modeCtl := by
  unfold State.raiseAlert
  repeat' split
  all_goals simp

@[simp] theorem leftBehind_keeps :
    s.leftBehind.pending = s.pending ∧ s.leftBehind.powered = s.powered ∧ s.leftBehind.freeCount = s.freeCount
      ∧ s.leftBehind.straps = s.straps ∧ s.leftBehind.config = s.config ∧ s.leftBehind.sfe = s.sfe
      ∧ s.leftBehind.classes = s.classes ∧ s.leftBehind.departures = s.departures
      ∧ s.leftBehind.vehicle = s.vehicle := by
  simp [State.leftBehind, positionsInOrder]

@[simp] theorem alertPeriod_keeps (p : Pos) :
    (s.alertPeriod p).pending = s.pending ∧ (s.alertPeriod p).powered = s.powered
      ∧ (s.alertPeriod p).freeCount = s.freeCount ∧ (s.alertPeriod p).straps = s.straps
      ∧ (s.alertPeriod p).config = s.config ∧ (s.alertPeriod p).sfe = s.sfe ∧ (s.alertPeriod p).sweep = s.sweep
      ∧ (s.alertPeriod p).classes = s.classes ∧ (s.alertPeriod p).lamps = s.lamps
      ∧ (s.alertPeriod p).departures = s.departures ∧ (s.alertPeriod p).duty = s.duty
      ∧ (s.alertPeriod p).emission = s.emission ∧ (s.alertPeriod p).vehicle = s.vehicle
      ∧ (s.alertPeriod p).modeCtl = s.modeCtl := by
  unfold State.alertPeriod
  repeat' split
  all_goals simp

/-! ### Diagnosis -/

@[simp] theorem restartService_keeps :
    s.restartService.pending = s.pending ∧ s.restartService.powered = s.powered
      ∧ s.restartService.freeCount = s.freeCount ∧ s.restartService.straps = s.straps
      ∧ s.restartService.config = s.config ∧ s.restartService.sfe = s.sfe ∧ s.restartService.sweep = s.sweep
      ∧ s.restartService.classes = s.classes ∧ s.restartService.table = s.table
      ∧ s.restartService.lamps = s.lamps ∧ s.restartService.departures = s.departures
      ∧ s.restartService.duty = s.duty ∧ s.restartService.link = s.link ∧ s.restartService.emission = s.emission
      ∧ s.restartService.vehicle = s.vehicle ∧ s.restartService.modeCtl = s.modeCtl := by
  refine ⟨rfl, rfl, rfl, rfl, rfl, rfl, rfl, rfl, rfl, rfl, rfl, rfl, rfl, rfl, rfl, rfl⟩

@[simp] theorem reply_keeps (item : Nat) (result : Result) (data : List Byte) :
    (s.reply item result data).pending = s.pending ∧ (s.reply item result data).powered = s.powered
      ∧ (s.reply item result data).freeCount = s.freeCount ∧ (s.reply item result data).straps = s.straps
      ∧ (s.reply item result data).config = s.config ∧ (s.reply item result data).sfe = s.sfe
      ∧ (s.reply item result data).sweep = s.sweep ∧ (s.reply item result data).classes = s.classes
      ∧ (s.reply item result data).table = s.table ∧ (s.reply item result data).lamps = s.lamps
      ∧ (s.reply item result data).departures = s.departures ∧ (s.reply item result data).duty = s.duty
      ∧ (s.reply item result data).emission = s.emission ∧ (s.reply item result data).vehicle = s.vehicle
      ∧ (s.reply item result data).modeCtl = s.modeCtl := by
  simp [State.reply]

@[simp] theorem refuse_keeps (item : Nat) (result : Result) :
    (s.refuse item result).pending = s.pending ∧ (s.refuse item result).powered = s.powered
      ∧ (s.refuse item result).freeCount = s.freeCount ∧ (s.refuse item result).straps = s.straps
      ∧ (s.refuse item result).config = s.config ∧ (s.refuse item result).sfe = s.sfe
      ∧ (s.refuse item result).sweep = s.sweep ∧ (s.refuse item result).classes = s.classes
      ∧ (s.refuse item result).table = s.table ∧ (s.refuse item result).lamps = s.lamps
      ∧ (s.refuse item result).departures = s.departures ∧ (s.refuse item result).duty = s.duty
      ∧ (s.refuse item result).emission = s.emission ∧ (s.refuse item result).vehicle = s.vehicle
      ∧ (s.refuse item result).modeCtl = s.modeCtl := by
  simp [State.refuse]

@[simp] theorem answerRead_keeps (item : Nat) (data : Option (List Byte)) :
    (s.answerRead item data).pending = s.pending ∧ (s.answerRead item data).powered = s.powered
      ∧ (s.answerRead item data).freeCount = s.freeCount ∧ (s.answerRead item data).straps = s.straps
      ∧ (s.answerRead item data).config = s.config ∧ (s.answerRead item data).sfe = s.sfe
      ∧ (s.answerRead item data).sweep = s.sweep ∧ (s.answerRead item data).classes = s.classes
      ∧ (s.answerRead item data).table = s.table ∧ (s.answerRead item data).lamps = s.lamps
      ∧ (s.answerRead item data).departures = s.departures ∧ (s.answerRead item data).duty = s.duty
      ∧ (s.answerRead item data).emission = s.emission ∧ (s.answerRead item data).vehicle = s.vehicle
      ∧ (s.answerRead item data).modeCtl = s.modeCtl := by
  unfold State.answerRead
  split <;> simp

@[simp] theorem afterReading_keeps (group : Nat) (clear : Bool) :
    (s.afterReading group clear).pending = s.pending ∧ (s.afterReading group clear).powered = s.powered
      ∧ (s.afterReading group clear).freeCount = s.freeCount ∧ (s.afterReading group clear).straps = s.straps
      ∧ (s.afterReading group clear).config = s.config ∧ (s.afterReading group clear).sfe = s.sfe
      ∧ (s.afterReading group clear).sweep = s.sweep ∧ (s.afterReading group clear).classes = s.classes
      ∧ (s.afterReading group clear).table = s.table ∧ (s.afterReading group clear).lamps = s.lamps
      ∧ (s.afterReading group clear).departures = s.departures ∧ (s.afterReading group clear).duty = s.duty
      ∧ (s.afterReading group clear).emission = s.emission ∧ (s.afterReading group clear).vehicle = s.vehicle
      ∧ (s.afterReading group clear).modeCtl = s.modeCtl := by
  unfold State.afterReading
  repeat' split
  all_goals simp

@[simp] theorem startOneShot_keeps (p : Pos) (part : MeasurePart) :
    (s.startOneShot p part).pending = s.pending ∧ (s.startOneShot p part).powered = s.powered
      ∧ (s.startOneShot p part).freeCount = s.freeCount ∧ (s.startOneShot p part).straps = s.straps
      ∧ (s.startOneShot p part).config = s.config ∧ (s.startOneShot p part).sfe = s.sfe
      ∧ (s.startOneShot p part).classes = s.classes ∧ (s.startOneShot p part).table = s.table
      ∧ (s.startOneShot p part).lamps = s.lamps ∧ (s.startOneShot p part).departures = s.departures
      ∧ (s.startOneShot p part).duty = s.duty ∧ (s.startOneShot p part).link = s.link
      ∧ (s.startOneShot p part).emission = s.emission ∧ (s.startOneShot p part).vehicle = s.vehicle
      ∧ (s.startOneShot p part).modeCtl = s.modeCtl ∧ (s.startOneShot p part).diag = s.diag := by
  refine ⟨rfl, rfl, rfl, rfl, rfl, rfl, rfl, rfl, rfl, rfl, rfl, rfl, rfl, rfl, rfl, rfl⟩

@[simp] theorem measure_keeps (arg : Nat) :
    (s.measure arg).pending = s.pending ∧ (s.measure arg).powered = s.powered
      ∧ (s.measure arg).freeCount = s.freeCount ∧ (s.measure arg).straps = s.straps
      ∧ (s.measure arg).config = s.config ∧ (s.measure arg).sfe = s.sfe ∧ (s.measure arg).classes = s.classes
      ∧ (s.measure arg).table = s.table ∧ (s.measure arg).lamps = s.lamps
      ∧ (s.measure arg).departures = s.departures ∧ (s.measure arg).duty = s.duty
      ∧ (s.measure arg).emission = s.emission ∧ (s.measure arg).vehicle = s.vehicle
      ∧ (s.measure arg).modeCtl = s.modeCtl := by
  unfold State.measure
  repeat' split
  all_goals simp

@[simp] theorem storeQuery_keeps (arg : Nat) :
    (s.storeQuery arg).pending = s.pending ∧ (s.storeQuery arg).powered = s.powered
      ∧ (s.storeQuery arg).freeCount = s.freeCount ∧ (s.storeQuery arg).straps = s.straps
      ∧ (s.storeQuery arg).config = s.config ∧ (s.storeQuery arg).sfe = s.sfe
      ∧ (s.storeQuery arg).sweep = s.sweep ∧ (s.storeQuery arg).classes = s.classes
      ∧ (s.storeQuery arg).table = s.table ∧ (s.storeQuery arg).lamps = s.lamps
      ∧ (s.storeQuery arg).departures = s.departures ∧ (s.storeQuery arg).duty = s.duty
      ∧ (s.storeQuery arg).emission = s.emission ∧ (s.storeQuery arg).vehicle = s.vehicle
      ∧ (s.storeQuery arg).modeCtl = s.modeCtl := by
  unfold State.storeQuery
  repeat' split
  all_goals simp

@[simp] theorem commitDone_keeps :
    s.commitDone.pending = s.pending ∧ s.commitDone.powered = s.powered ∧ s.commitDone.freeCount = s.freeCount
      ∧ s.commitDone.straps = s.straps ∧ s.commitDone.sfe = s.sfe ∧ s.commitDone.sweep = s.sweep
      ∧ s.commitDone.classes = s.classes ∧ s.commitDone.table = s.table ∧ s.commitDone.lamps = s.lamps
      ∧ s.commitDone.departures = s.departures ∧ s.commitDone.duty = s.duty ∧ s.commitDone.emission = s.emission
      ∧ s.commitDone.vehicle = s.vehicle ∧ s.commitDone.modeCtl = s.modeCtl := by
  simp [State.commitDone]

@[simp] theorem answerWrite_keeps (item : Nat) (i : Item) (w : Write) :
    (s.answerWrite item i w).pending = s.pending ∧ (s.answerWrite item i w).powered = s.powered
      ∧ (s.answerWrite item i w).freeCount = s.freeCount ∧ (s.answerWrite item i w).straps = s.straps
      ∧ (s.answerWrite item i w).sfe = s.sfe ∧ (s.answerWrite item i w).sweep = s.sweep
      ∧ (s.answerWrite item i w).classes = s.classes ∧ (s.answerWrite item i w).table = s.table
      ∧ (s.answerWrite item i w).lamps = s.lamps ∧ (s.answerWrite item i w).departures = s.departures
      ∧ (s.answerWrite item i w).duty = s.duty ∧ (s.answerWrite item i w).emission = s.emission
      ∧ (s.answerWrite item i w).vehicle = s.vehicle ∧ (s.answerWrite item i w).modeCtl = s.modeCtl := by
  unfold State.answerWrite
  split <;> simp

@[simp] theorem configFrame_keeps (item : Nat) (value : Nat) :
    (s.configFrame item value).pending = s.pending ∧ (s.configFrame item value).powered = s.powered
      ∧ (s.configFrame item value).freeCount = s.freeCount ∧ (s.configFrame item value).straps = s.straps
      ∧ (s.configFrame item value).sfe = s.sfe ∧ (s.configFrame item value).sweep = s.sweep
      ∧ (s.configFrame item value).classes = s.classes ∧ (s.configFrame item value).table = s.table
      ∧ (s.configFrame item value).lamps = s.lamps ∧ (s.configFrame item value).departures = s.departures
      ∧ (s.configFrame item value).duty = s.duty ∧ (s.configFrame item value).emission = s.emission
      ∧ (s.configFrame item value).vehicle = s.vehicle ∧ (s.configFrame item value).modeCtl = s.modeCtl := by
  unfold State.configFrame
  repeat' split
  all_goals simp

end Sys2Proof.Machine
end

