-- ==== Sys2Proof/Laws/Ops.lean ====
section
/-! SUPPORT. What a guarded command, a handled frame and a query answer. -/

namespace Sys2Proof.Machine

variable (s : State)

/-! ### Answers -/

theorem onlyIf_true (after before : State) : onlyIf true after before = .next after := rfl

theorem onlyIf_false (after before : State) : onlyIf false after before = .next before := rfl

/-- A guarded command answers a next state, whatever its guard. -/
theorem onlyIf_next (c : Bool) (after before : State) :
    onlyIf c after before = .next (if c = true then after else before) := rfl

/-! ### Timers -/

theorem isAt_running (limit ms : Nat) : (Timer.running ms).isAt limit = decide (limit ≤ ms) := rfl

theorem isAt_stopped (limit : Nat) : Timer.stopped.isAt limit = false := rfl

/-! ### Handled frames -/

/-- The next frame is taken by its owner. -/
theorem handleFrame_taken (kind : FrameKind) (owner : RxFrame → State → State) (f : RxFrame)
    (h : s.nextFrame kind = some f) : s.handleFrame kind owner = .next (owner f (s.takeFrame f)) := by
  simp [State.handleFrame, h]

/-- A query that is next is answered. -/
theorem handleQuery_taken (item : Nat) (answer : Nat → State → State) (f : RxFrame)
    (h : s.nextQuery item = some f) :
    s.handleQuery item answer = .next (answer (argumentOf f.payload) (s.takeFrame f).restartService) := by
  simp [State.handleQuery, h]

end Sys2Proof.Machine
end

