-- ==== Sys2Proof/Laws/Writes.lean ====
section
/-! SUPPORT. For each shared operation, what it writes into the blocks it touches: with the lemmas of Laws/Keeps.lean
a proof need not unfold the operation. And when the handler takes a frame or a query. -/

namespace Sys2Proof.Machine

variable (s : State)

/-! ### Limits -/

/-- A timer has reached its limit exactly where the guard of its expiry says so. -/
theorem reached_iff_isAt (limit : Nat) (timer : Timer) : timer.Reached limit ↔ timer.isAt limit = true := by
  cases timer <;> simp [Timer.Reached, Timer.isAt]

/-- An entry is due exactly where a listed one of its tag has reached T_move. -/
theorem entryDue_iff (tag : DepTag) :
    s.entryDue tag = true ↔ ∃ e ∈ s.departures, e.tag = tag ∧ 1000 * s.config.running.tMove ≤ e.ageMs := by
  simp only [State.entryDue, List.any_eq_true, Bool.and_eq_true, beq_iff_eq, decide_eq_true_eq]; rfl

/-- A record's expiry answers a next state, with its effect exactly where its timer has run out. -/
theorem expire_of_record {p : Pos} {r : Record} (h : s.recordAt p = some r) (hp : s.powered = true)
    (timer : Record → Timer) (limit : Nat) (f : Record → Record) :
    s.expire p timer limit f
      = .next (if (timer r).isAt limit = true then (s.updateRecord p f).refreshLamps else s) := by
  simp [State.expire, State.timerDue, onlyIf_next, h, hp]

/-! ### The handler -/

/-- The frame the handler takes next is the next of its kind. -/
theorem nextFrame_of_handles {f : RxFrame} (h : s.Handles f) : s.nextFrame f.kind = some f := by
  obtain ⟨hp, hf, hm, hn⟩ := h
  have hr : s.handlerRuns = true := by simp [State.handlerRuns, hp, hf]; simpa using hm
  simp [State.nextFrame, hr, hn]

/-- A handled frame is given to the owner of its kind. -/
theorem handleFrame_of_handles {f : RxFrame} {kind : FrameKind} (h : s.Handles f) (hk : f.kind = kind)
    (owner : RxFrame → State → State) : s.handleFrame kind owner = .next (owner f (s.takeFrame f)) :=
  handleFrame_taken s kind owner f (hk ▸ nextFrame_of_handles s h)

/-- A query that is asked is answered on the state that took it. -/
theorem handleQuery_of_asked {f : RxFrame} {item arg : Nat} (h : s.Asked f item arg) (answer : Nat → State → State) :
    s.handleQuery item answer = .next (answer arg (s.took f)) := by
  obtain ⟨hh, hk, hi, ha⟩ := h
  have hn : s.nextQuery item = some f := by
    have := nextFrame_of_handles s hh
    rw [hk] at this
    simp [State.nextQuery, this, hi]
  rw [handleQuery_taken s item answer f hn, ha]
  rfl

/-! ### Records -/

/-- Changing the record that stands at a position puts the changed one there. -/
theorem updateRecord_of_some {p : Pos} {r : Record} (h : s.recordAt p = some r) (f : Record → Record) :
    s.updateRecord p f = s.putRecord p (f r) := by
  unfold State.recordAt at h
  simp [State.updateRecord, State.updateSeat, State.putRecord, State.setTable, h]

theorem updateRecord_recordAt (p q : Pos) (f : Record → Record) :
    (s.updateRecord p f).recordAt q = if q = p then (s.recordAt p).map f else s.recordAt q := by
  by_cases h : q = p
  · subst h; simp [State.updateRecord, State.updateSeat, State.recordAt]
  · simp [State.updateRecord, State.updateSeat, State.recordAt, Four.get_set_other _ _ _ _ h, h]

/-- A search in position order finds the one position that meets the condition. -/
theorem find_position (c : Pos → Bool) (p : Pos) (h : c p = true) (only : ∀ q, c q = true → q = p) :
    positionsInOrder.find? c = some p := by
  cases hf : positionsInOrder.find? c with
  | none => exact absurd h (by simpa using List.find?_eq_none.mp hf p (mem_positionsInOrder p))
  | some q => rw [only q (List.find?_some hf)]

/-! ### Outputs -/

theorem refreshLamps_get (p : Pos) :
    s.refreshLamps.lamps.get p
      = lampOf (s.modeCtl.mode == .active) (s.table.seats.get p).level (s.lamps.get p) := by
  simp [State.refreshLamps]

/-- Outside ACTIVE every lamp goes off. -/
theorem refreshLamps_off (h : s.modeCtl.mode ≠ .active) : s.refreshLamps.lamps = Four.const .off := by
  simp [State.refreshLamps, lampOf, h, Four.ofFn, Four.const]

theorem refreshDuty_writes :
    s.refreshDuty.duty.pattern = s.patternWanted ∧ s.refreshDuty.duty.chime = s.chimeWanted
      ∧ s.refreshDuty.duty.roster = s.duty.roster ∧ s.refreshDuty.duty.view = s.duty.view
      ∧ s.refreshDuty.duty.yielded = s.duty.yielded := by
  simp only [State.refreshDuty, setDuty_duty]
  split <;> simp_all

/-- Where the outputs are not driven, pattern and chime request go off. -/
theorem refreshDuty_off (h : s.outputsDriven = false) :
    s.refreshDuty.duty.pattern = .off ∧ s.refreshDuty.duty.chime = false := by
  simp [refreshDuty_writes, State.patternWanted, State.chimeWanted, h]

/-- Outside ACTIVE lamps, tell-tale and chime go off. -/
theorem refreshOutputs_off (h : s.modeCtl.mode ≠ .active) :
    s.refreshOutputs.lamps = Four.const .off ∧ s.refreshOutputs.duty.pattern = .off
      ∧ s.refreshOutputs.duty.chime = false := by
  have hd : s.refreshLamps.outputsDriven = false := by simp [State.outputsDriven, h]
  refine ⟨?_, (refreshDuty_off _ hd).1, (refreshDuty_off _ hd).2⟩
  simp [State.refreshOutputs, refreshLamps_off s h]

/-! ### Idle timer -/

/-- With no window open, restarting the idle timer does no more than that. -/
theorem restartIdle_noWindow (h : s.modeCtl.window = none) :
    s.restartIdle = s.setModeCtl { s.modeCtl with idle := s.modeCtl.idle.restart } := by
  unfold State.restartIdle
  cases hi : s.modeCtl.idle with
  | stopped => simp only [Timer.isRunning, Timer.restart, ← hi]; rfl
  | running ms => simp [Timer.isRunning, Timer.restart, State.testReasons, h]

/-! ### Changes of mode -/

theorem withdrawProposals_link :
    s.withdrawProposals.link
      = { s.link with txq := s.link.txq.filter fun e => e.sending || !(e.kind == .sleepPropose) } := rfl

theorem enterWatch_writes :
    s.enterWatch.modeCtl = { s.modeCtl with
        mode := .watch, idle := .stopped, window := none, alone := .stopped, watch := .running 0, vacantRun := 0 }
      ∧ s.enterWatch.sweep = { s.sweep with period := .running 0 }
      ∧ s.enterWatch.emission = { s.emission with timer := .stopped }
      ∧ s.enterWatch.link = s.withdrawProposals.link := by
  simp [State.enterWatch]

theorem enterWatch_off :
    s.enterWatch.lamps = Four.const .off ∧ s.enterWatch.duty.pattern = .off ∧ s.enterWatch.duty.chime = false := by
  unfold State.enterWatch
  exact refreshOutputs_off _ (by simp)

theorem leaveWatch_writes :
    s.leaveWatch.modeCtl = { s.modeCtl with
        mode := .active
        idle := if s.ignitionOn then .stopped else .running 0
        alone := if s.ignitionOn then .stopped else .running 0
        watch := .stopped, vacantRun := 0 }
      ∧ s.leaveWatch.sweep = { s.sweep with period := .running 0 }
      ∧ s.leaveWatch.emission = { s.emission with lastPlaced := none, timer := .running 0 } := by
  simp [State.leaveWatch]

theorem enterStandby_writes :
    s.enterStandby.modeCtl = { s.modeCtl with
        mode := .standby, idle := .stopped, window := none, alone := .stopped, watch := .stopped, vacantRun := 0
        wakeCause := false }
      ∧ s.enterStandby.sweep = { s.sweep with flight := none, period := .stopped }
      ∧ s.enterStandby.sfe = s.sfe.armWatch s.config.running
      ∧ s.enterStandby.table = { s.table with
          seats := s.table.seats.map fun seat => { seat with record := seat.record.map Record.stopTimers } }
      ∧ s.enterStandby.emission = { s.emission with timer := .stopped, restarted := .stopped, placedMark := false }
      ∧ s.enterStandby.link = s.withdrawProposals.link.quietDown := by
  simp [State.enterStandby]

theorem enterStandby_off :
    s.enterStandby.lamps = Four.const .off ∧ s.enterStandby.duty.pattern = .off
      ∧ s.enterStandby.duty.chime = false := by
  unfold State.enterStandby
  exact refreshOutputs_off _ (by simp)

theorem haltEntry_writes :
    s.haltEntry.link = s.enterStandby.link.emptyQueues ∧ s.haltEntry.modeCtl = s.enterStandby.modeCtl
      ∧ s.haltEntry.sweep = s.enterStandby.sweep ∧ s.haltEntry.sfe = s.enterStandby.sfe
      ∧ s.haltEntry.table = s.enterStandby.table ∧ s.haltEntry.emission = s.enterStandby.emission
      ∧ s.haltEntry.lamps = s.enterStandby.lamps ∧ s.haltEntry.duty = s.enterStandby.duty := by
  refine ⟨rfl, rfl, rfl, rfl, rfl, rfl, rfl, rfl⟩

/-! ### Transmit queue -/

/-- With room and no STATE to replace, an offered frame joins behind the rest. -/
theorem offerEntry_room (q : List TxEntry) (e : TxEntry) (hk : e.kind ≠ .state) (hl : q.length < 6) :
    offerEntry q e = { txq := q ++ [e], taken := true, overflow := false } := by
  simp [offerEntry, hk, txCapacity, hl]

/-- What is displaced is one waiting entry. -/
theorem displace_length {q rest : List TxEntry} (h : displace q = some rest) : rest.length + 1 = q.length := by
  have erased : ∀ c : TxEntry → Bool, q.any c = true → (q.eraseP c).length + 1 = q.length := by
    intro c hc
    obtain ⟨x, hx, hcx⟩ := List.any_eq_true.mp hc
    have hl := List.length_eraseP_of_mem hx hcx
    have hp : 0 < q.length := List.length_pos_of_mem hx
    omega
  unfold displace at h
  split at h
  · rename_i hc; injection h with h; subst h; exact erased _ hc
  · split at h
    · rename_i hc; injection h with h; subst h; exact erased _ hc
    · contradiction

/-- The frames the handler has not taken stay: erasing one frame leaves a sublist. -/
theorem takeFrame_rxq (f : RxFrame) : (s.takeFrame f).link.rxq = s.link.rxq.erase f := rfl

/-! ### The search for a match -/

/-- R69, R114: a search is made exactly under its conditions. -/
theorem canSearch_iff : (s.ignitionOn && s.canSearch) = true ↔ s.MaySearch := by
  simp only [State.MaySearch, State.ignitionOn, Vehicle.effIgnition, State.canSearch, canTakeClaim, TxEntry.waits,
    txCapacity, Bool.and_eq_true, Bool.or_eq_true, List.any_eq_true, beq_iff_eq]
  constructor
  · rintro ⟨h1, ⟨h2, h3⟩, h4 | ⟨x, hx, h⟩⟩
    · exact ⟨h1, h2, h3, Or.inl (of_decide_eq_true h4)⟩
    · refine ⟨h1, h2, h3, Or.inr ⟨x, hx, ?_⟩⟩
      cases hs : x.sending <;> simp_all
  · rintro ⟨h1, h2, h3, h4 | ⟨x, hx, h, hk⟩⟩
    · exact ⟨h1, ⟨h2, h3⟩, Or.inl (decide_eq_true h4)⟩
    · exact ⟨h1, ⟨h2, h3⟩, Or.inr ⟨x, hx, by simpa [h] using hk⟩⟩

/-- R115: whether and how an entry matches. -/
theorem matchEntry_iff (cls : Cls) (serial : Option Word16) (e : DepEntry) (kind : MatchKind) :
    matchEntry cls serial e = some kind ↔ e.Matches cls serial kind := by
  have hc : ∀ c : Cls, c.matchesByClass = true ↔ c.FreelyMatches := by
    intro c; cases c <;> simp [Cls.matchesByClass, Cls.FreelyMatches]
  unfold matchEntry DepEntry.Matches
  cases serial with
  | none =>
    cases he : e.child with
    | some c => simp
    | none =>
      by_cases h1 : cls.FreelyMatches <;> by_cases h2 : e.cls.FreelyMatches <;>
        simp [hc, h1, h2, @eq_comm _ kind]
  | some n =>
    cases he : e.child with
    | none => simp
    | some c =>
      by_cases h : c.serial = n
      · subst h
        cases c
        simp [@eq_comm _ kind]
      · simp only [h, if_false, reduceCtorEq, false_iff, false_and, or_false, not_exists]
        rintro m type ⟨hm, hx, -⟩
        cases hm; cases hx; exact h rfl

/-- R115: of the entries that match, the first in the list is taken. -/
theorem findMatch_first {before after : List DepEntry} {e : DepEntry} {cls : Cls} {serial : Option Word16}
    {kind : MatchKind} (hb : ∀ d ∈ before, ∀ k, ¬ d.Matches cls serial k) (he : e.Matches cls serial kind) :
    findMatch (before ++ e :: after) cls serial = some { entry := e, kind } := by
  have hn : ∀ d ∈ before, matchEntry cls serial d = none := by
    intro d hd
    cases hm : matchEntry cls serial d with
    | none => rfl
    | some k => exact absurd ((matchEntry_iff _ _ _ _).1 hm) (hb d hd k)
  unfold findMatch
  rw [List.findSome?_append, List.findSome?_eq_none_iff.2 (by intro d hd; simp [hn d hd])]
  simp [(matchEntry_iff _ _ _ _).2 he]

/-- What comes of a search for the record that stands at a position. -/
theorem searchOrSettle_searched {p : Pos} {r : Record} (h : s.recordAt p = some r) :
    s.Searched (s.searchOrSettle p) p r := by
  constructor
  · intro before e after kind hm hl hb he
    have hs : s.searchFor r = some { entry := e, kind } := by
      simp only [State.searchFor, (canSearch_iff s).2 hm, if_true, hl]
      exact findMatch_first hb he
    have hq : (s.setDepartures (removeTag s.departures e.tag)).recordAt p = some r := h
    simp only [State.searchOrSettle, h, hs, State.takeMatch]
    rw [updateRecord_of_some _ hq]
    have hp : newEntry .claim (claimPayload e.tag p kind) (some { tag := e.tag, id := r.id, voided := false })
        = claimEntry e p r.id kind := by
      cases kind <;> rfl
    rw [hp]
    congr 2
    simp [State.setDepartures, removeTag]
    congr
  · intro hn
    have hs : s.searchFor r = none := by
      unfold State.searchFor
      split
      · rename_i hc
        rcases hn with hn | hn
        · exact absurd ((canSearch_iff s).1 hc) hn
        · unfold findMatch
          rw [List.findSome?_eq_none_iff]
          intro d hd
          cases hm : matchEntry r.cls (r.tag.map TagPart.serial) d with
          | none => rfl
          | some k => exact absurd ((matchEntry_iff _ _ _ _).1 hm) (hn d hd k)
      · rfl
    simp only [State.searchOrSettle, h, hs]
    rw [updateRecord_of_some _ h]
    rfl
/-! ### The end of a transmission -/

/-- R164: once the entry being sent has ended, the queue is the rest, with newer content it was given in its place. -/
theorem afterEnd_of_sends {before after : List TxEntry} {e : TxEntry} (h : s.Sends before e after) :
    afterEnd s.link.txq
      = before ++ (if e.newer = none then [] else [e.waitAgain]) ++ after := by
  obtain ⟨-, -, hq, he, hr⟩ := h
  have keep : ∀ q : List TxEntry, (∀ x ∈ q, x.sending = false) → afterEnd q = q := by
    intro q hq
    have h1 : (q.filter fun x => !(x.sending && x.newer.isNone)) = q :=
      List.filter_eq_self.2 fun x hx => by simp [hq x hx]
    have h2 : q.map (fun x => if x.sending then x.waitAgain else x) = q.map id :=
      List.map_congr_left fun x hx => by simp [hq x hx]
    rw [afterEnd, h1, h2, List.map_id]
  have app : ∀ a b : List TxEntry, afterEnd (a ++ b) = afterEnd a ++ afterEnd b := by simp [afterEnd]
  rw [hq, app, keep before fun x hx => hr x (by simp [hx]), ← List.singleton_append, app,
    keep after fun x hx => hr x (by simp [hx])]
  cases hn : e.newer <;> simp [afterEnd, he, hn]

/-- The entry on the line is the one being sent. -/
theorem onLine_of_sends {before after : List TxEntry} {e : TxEntry} (h : s.Sends before e after) :
    s.onLine = some e := by
  obtain ⟨hp, hm, hq, he, hr⟩ := h
  have hb : before.find? (fun x => x.sending) = none :=
    List.find?_eq_none.2 fun x hx => by simp [hr x (by simp [hx])]
  simp [State.onLine, hp, hm, Link.sendingEntry, hq, List.find?_append, hb, he]

/-! ### The proposal window -/

/-- R184: what opening the window leaves. -/
theorem openWindow_heard : s.ProposalHeard s.openWindow s.link.txq s.modeCtl := by
  constructor
  · rintro (h | h) <;> simp [State.openWindow, h]
  · intro h
    have hr : ∀ w : Window, (s.setModeCtl { s.modeCtl with window := some w }).refusalReason = s.refusalReason :=
      fun w => rfl
    have ho : s.openWindow
        = (s.setModeCtl { s.modeCtl with window := some { ms := 0, refusedHere := false } }).testReasons := by
      simp [State.openWindow, h]
    rw [ho]
    constructor
    · intro hn
      simp [State.testReasons, hr, hn]
    · intro reason hn
      have hv : (s.setModeCtl { s.modeCtl with window := some { ms := 0, refusedHere := false } }).validStraps
          = s.validStraps := rfl
      simp only [State.testReasons, setModeCtl_modeCtl, hr, hn, State.placeRefusal, State.offerTx, State.offerOf, hv]
      refine ⟨by simp, ?_, ?_, ?_⟩
      · intro hs; simp [hs, State.count]
      · intro hs; simp [hs, State.count, refusePayload]
      · intro hs hl
        have := offerEntry_room s.link.txq (newEntry .sleepRefuse [toByte reason.code] none) (by simp [newEntry]) hl
        simp only [hs, if_true, if_false, Bool.false_eq_true, State.count, refusePayload, this, setModeCtl_link,
          setDiag_link, setLink_link, setModeCtl_diag, setDiag_diag]
        exact ⟨trivial, by simp [saturatingSucc]⟩

/-- What a heard proposal leaves is the same said from a state with the same mode, reasons, straps and count. -/
theorem State.ProposalHeard.of_same {u t : State} {q : List TxEntry} {m : ModeCtl} (h : u.ProposalHeard t q m)
    (hm : u.modeCtl.mode = s.modeCtl.mode) (hr : u.refusalReason = s.refusalReason)
    (hv : u.validStraps = s.validStraps) (hc : u.diag.counters.refusalsSent = s.diag.counters.refusalsSent) :
    s.ProposalHeard t q m := by
  unfold State.ProposalHeard at *
  simpa only [hm, hr, hv, hc] using h

end Sys2Proof.Machine
end

