-- ==== Sys2Proof/Tests/Slice0.lean ====
section
/-! SUPPORT. The writer's own tests: an ill-formed term for each operand check, single steps against the worked
cases of the spec, and for each statement with hypotheses a state and operands that meet them, at the edges of
their ranges. -/

namespace Sys2Proof.Machine

-- One test after another: evaluated side by side they reserve the memory of a thread each.
set_option Elab.async false

/-! ### Small states -/

/-- The state after reset in this mode, with fresh vehicle data. -/
def sampleState (mode : Mode) (ignition : Ignition) (speed : Nat) : State :=
  { State.reset with
    vehicle := { ignition, speed, fresh := true, ageMs := 0, trip := false }
    modeCtl := { State.reset.modeCtl with mode } }

/-- The state after reset with this running configuration. -/
def configured (c : Conf) : State := { State.reset with config := { State.reset.config with running := c } }

/-- A record of an adult at position 0, quiet and with every timer stopped. -/
def sampleRecord : Record where
  id := ⟨1, 0, 5⟩
  cls := .adult
  origin := .boarded
  everBuckled := false
  chimeUsed := 0
  graceUsed := false
  buckledRun := .stopped
  kind := .occupant
  level := .quiet
  graceTimer := .stopped
  escalation := .stopped
  chimeTimer := .stopped
  slowTimer := .stopped
  seated := 0
  seatedMs := 0
  tag := none
  alert := .none

/-- The state with this record, and its class, at position 0. -/
def State.seating (s : State) (r : Record) : State :=
  { s with table := { s.table with seats := s.table.seats.set 0 ⟨r.cls, some r, none⟩ } }

/-- The state with this class at position 0 and no record there. -/
def State.classed (s : State) (cls : Cls) : State :=
  { s with table := { s.table with seats := s.table.seats.set 0 ⟨cls, none, none⟩ } }

/-- The state with these frames in its receive queue. -/
def State.hearing (s : State) (q : List RxFrame) : State := { s with link := { s.link with rxq := q } }

/-- The state with this transmit queue. -/
def State.queued (s : State) (q : List TxEntry) : State := { s with link := { s.link with txq := q } }

/-- The state with this Departure List. -/
def State.listing (s : State) (list : List DepEntry) : State := { s with departures := list }

/-- The state with these straps. -/
def State.strapped (s : State) (pins : BitVec 5) : State := { s with straps := pins }

/-- A received frame. -/
def heard (kind : FrameKind) (station : StationNo) (payload : List Byte) : RxFrame := ⟨kind, station, payload, 1⟩

/-- A queued frame with zero bytes. -/
def waiting (kind : FrameKind) (sending : Bool) : TxEntry :=
  ⟨kind, List.replicate kind.payloadLength 0, sending, none, none⟩

/-- A DIAG_QUERY to station 1. -/
def query (item arg : Byte) : RxFrame := heard .diagQuery 13 [1, item, arg]

/-- A CONFIG to station 1. -/
def setting (item hi lo : Byte) : RxFrame := heard .config 13 [1, item, hi, lo]

/-- A departure entry of an adult from station 2. -/
def leaver (seq : BitVec 10) : DepEntry := ⟨⟨2, 1, seq⟩, .adult, true, 7, none, 0⟩

/-- Readings of empty seats with open buckles. -/
def emptyReadings : SweepReadings where
  channels := Four.const ⟨1024, 1024, 1024, 120⟩
  tag := .silence
  latchOpen := false

/-- The state after reset with a periodic sweep in flight. -/
def sweeping (test : Bool) : State :=
  { State.reset with sweep := { State.reset.sweep with flight := some (.periodic 0 test none 10) } }

/-- SERVICE, with or without a commit. -/
def serving (commit : Timer) : State :=
  { sampleState .service .off 0 with diag := { State.reset.diag with commit, service := .running 5 } }

/-- A claim of the sample record for the tag of leaver 4. -/
def sampleClaim (voided : Bool) : ClaimRef := ⟨⟨2, 1, 4⟩, ⟨1, 0, 5⟩, voided⟩

/-- The sample record while it claims that tag. -/
def claimer : Record := { sampleRecord with origin := .claiming (leaver 4) }

/-- The outcome is this next state. -/
def becomes (o : Out) (t : State) : Bool :=
  match o with
  | .next u => u == t
  | .fault _ => false
  | .refused _ => false

/-- The next state of an outcome. -/
def after (o : Out) : State :=
  match o with
  | .next t => t
  | .fault _ => State.reset
  | .refused _ => State.reset

/-- Only position 0 has a record. -/
theorem seating_only (mode : Mode) (ignition : Ignition) (speed : Nat) (r : Record) (q : Pos) (r' : Record)
    (h : ((sampleState mode ignition speed).seating r).recordAt q = some r') : q = 0 ∧ r' = r := by
  fin_cases q
  · exact ⟨rfl, (Option.some.inj h).symm⟩
  all_goals exact absurd h (by simp [State.seating, State.recordAt, sampleState, State.reset, Four.set, Four.get,
    Four.const])

/-- A frame alone in the receive queue is the one the handler takes next. -/
theorem hearing_handles (s : State) (f : RxFrame) (hp : s.powered = true) (hf : s.sweep.flight = none)
    (hm : s.modeCtl.mode ≠ .standby) (hs : s.link.selfSlot = none) (hc : f.kind.frameClass.isSome = true) :
    (s.hearing [f]).Handles f := by
  refine ⟨hp, hf, hm, ?_⟩
  cases h : f.kind.frameClass with
  | none => simp [h] at hc
  | some c => cases c <;> simp [State.hearing, Link.nextHandled, Link.firstOf, h, hs]

/-- Such a DIAG_QUERY is asked with its item and its argument. -/
theorem hearing_asked (s : State) (item arg : Byte) (hp : s.powered = true) (hf : s.sweep.flight = none)
    (hm : s.modeCtl.mode ≠ .standby) (hs : s.link.selfSlot = none) :
    (s.hearing [query item arg]).Asked (query item arg) item.toNat arg.toNat :=
  ⟨hearing_handles s _ hp hf hm hs rfl, rfl, rfl, rfl⟩

/-! ### Operand checks -/

theorem test_wf_departureEntryExpiry :
    (Instr.departureEntryExpiry ⟨0, 0, 1⟩).wf = false ∧ (Instr.departureEntryExpiry ⟨13, 0, 1⟩).wf = false
      ∧ (Instr.departureEntryExpiry ⟨1, 0, 1⟩).wf = true ∧ (Instr.departureEntryExpiry ⟨12, 0, 1⟩).wf = true := by
  decide

theorem test_wf_rosterSilent :
    (Instr.rosterSilent 0).wf = false ∧ (Instr.rosterSilent 14).wf = false ∧ (Instr.rosterSilent 13).wf = true := by
  decide

theorem test_wf_rosterLost :
    (Instr.rosterLost 0).wf = false ∧ (Instr.rosterLost 14).wf = false ∧ (Instr.rosterLost 1).wf = true := by decide

theorem test_wf_pulseEnd : (Instr.pulseEnd 38 0).wf = false ∧ (Instr.pulseEnd 39 0).wf = true := by decide

theorem test_wf_wakePulseRelease :
    (Instr.wakePulseRelease (some 1500) 0).wf = false ∧ (Instr.wakePulseRelease (some 1501) 0).wf = true
      ∧ (Instr.wakePulseRelease none 0).wf = true := by decide

theorem test_wf_frameReceptionEnd :
    (Instr.frameReceptionEnd [] true).wf = false ∧ (Instr.frameReceptionEnd [startCell] true).wf = true := by decide

/-- An ill-formed command changes nothing. -/
theorem test_illFormed_changes_nothing :
    becomes (exec (.rosterSilent 14) State.reset) State.reset = true
      ∧ becomes (exec (.pulseEnd 38 0) State.reset) State.reset = true
      ∧ becomes (exec (.frameReceptionEnd [] true) State.reset) State.reset = true := by decide +kernel

/-! ### Words and layouts -/

/-- Section 8.2, worked case: the ROW_RELEASE of station 5 has check byte 0xDC. -/
theorem test_crc_of_rowRelease : crc [0x45] = 0xDC := by decide

/-- Section 9.1: kind and station of a header. -/
theorem test_header : headerByte .claim 5 = 0x25 ∧ headerByte .depart 2 = 0x32 ∧ headerByte .state 1 = 0x71 := by
  decide

/-- The table gives no row bits, so no word spells a command. -/
theorem test_decodeTableWord : decodeTableWord 16 0 = none ∧ State.reset.withFetchWord 16 0 = State.reset := by
  decide +kernel

/-- R156: the edges of the pulse classes. -/
theorem test_pulseClass :
    [38, 39, 999, 1000, 2000, 2001, 3999, 4000, 6000, 6001, 10000, 10001].map pulseClass
      = [.none, .form, .form, .wake, .wake, .form, .form, .halt, .halt, .form, .form, .lineStuck] := by decide

/-- R13: the edges of the buckle bands. -/
theorem test_bandOf :
    ([0, 19, 20, 99, 100, 179, 180, 219, 220, 255] : List Byte).map bandOf
      = [.short, .short, .buckled, .buckled, .unbuckled, .unbuckled, .between, .between, .open, .open] := by decide

/-- R200: stations 1 and 12, and invalid rows. -/
theorem test_stationOf :
    stationOf 0b10001 = 1 ∧ stationOf 0b01110 = 12 ∧ strapsValid 0b11000 = false ∧ strapsValid 0b11111 = false := by
  decide

/-- R51, section 3.7: one input for each row of the candidate table, in its order. -/
theorem test_candidateTable :
    ([⟨.empty, true, true, .none, false, 0⟩, ⟨.empty, false, false, .unclear, false, 0⟩,
      ⟨.empty, true, false, .present ⟨1, .booster, .belt, 45⟩, false, 0⟩,
      ⟨.csOccupied, false, false, .present ⟨1, .booster, .belt, 45⟩, false, 80⟩,
      ⟨.csEmpty, false, false, .present ⟨1, .booster, .belt, 45⟩, false, 80⟩,
      ⟨.empty, true, false, .none, true, 0⟩, ⟨.empty, true, false, .none, false, 0⟩,
      ⟨.empty, false, true, .none, false, 100⟩, ⟨.empty, false, true, .none, false, 99⟩,
      ⟨.empty, false, true, .none, false, 49⟩, ⟨.empty, false, false, .none, true, 400⟩,
      ⟨.empty, false, false, .none, true, 399⟩, ⟨.empty, false, false, .none, false, 50⟩,
      ⟨.empty, false, false, .none, true, 99⟩] : List CandidateInput).map (candidateClass Conf.default)
      = [.unknown, .unknown, .csOccupied, .csOccupied, .csEmpty, .unsized, .empty, .unsized, .object, .empty, .adult,
        .small, .object, .empty] := by decide

/-! ### Single steps -/

/-- R196: a power-on with the same pins gives the state after reset again. -/
theorem test_powerOn : becomes (exec (.powerOn resetPins) State.reset) State.reset = true := by decide +kernel

/-- R26, R28: sweep 0 is a test sweep. -/
theorem test_sweepStart :
    (after (exec .sweepStart State.reset)).sweep =
      { count := 1, testCounter := 1, pointer := 0, flight := some (.periodic 0 true none 0), period := .running 0 }
    := by decide +kernel

/-- Log entry 7: an idle step advances the running timers by 1 ms. -/
theorem test_idleStep :
    (after (step State.reset)).modeCtl.idle = .running 1 ∧ (after (step State.reset)).emission.restarted = .running 1
    := by decide +kernel

/-- R131: a frame taken first returns the slot's time to 0, so that the expiry that falls with it does not occur. -/
theorem test_frameBeforeRosterSilent :
    let s := State.reset.setDuty (State.reset.duty.setSlot 5 ⟨.live, 1000⟩)
    let t := after (exec (.frameReceptionEnd (frameCells (headerByte .rowRelease 5) []) true) s)
    (after (exec (.rosterSilent 5) s)).duty.slot 5 = ⟨.silent, 1000⟩
      ∧ (after (exec (.rosterSilent 5) t)).duty.slot 5 = ⟨.live, 0⟩ := by decide +kernel

/-- R152, R154: a SLEEP_PROPOSE with the own number is accepted: it takes the own one off the queue, opens the window,
and is refused where a reason holds; it joins no receive queue. -/
theorem test_clashingProposal :
    let s := (sampleState .active .on 0).queued [waiting .sleepPropose false]
    let t := after (exec (.frameReceptionEnd (frameCells (headerByte .sleepPropose 1) []) true) s)
    t.link.txq = [newEntry .sleepRefuse [1] none] ∧ t.modeCtl.window = some ⟨0, true⟩ ∧ t.modeCtl.alone = .running 0
      ∧ t.link.stationClash = true ∧ t.link.rxq = [] ∧ t.diag.counters.refusalsSent = 1 := by decide +kernel

/-- R158: the recessive time of a stuck hold waits while the line is held, and restarts at a frame heard in STANDBY. -/
theorem test_stuckHold :
    let held := after (exec .lineStuck (sampleState .standby .off 0))
    let freed := after (exec (.pulseEnd 10001 0) held)
    let later := after (step freed)
    (after (step held)).link.stuck = .running 0 ∧ later.link.stuck = .running 1
      ∧ (after (exec (.frameReceptionEnd [startCell] true) later)).link.stuck = .running 0 := by decide +kernel

/-- A command is taken from the front of the queue. -/
theorem test_step_takes_front :
    becomes (step { State.reset with pending := [.frameTxStart, .fenceEnd] })
      { State.reset with pending := [.fenceEnd] } = true := by decide +kernel

/-- R91, R94: chime time used at the limit gives SPENT. -/
theorem test_escalation :
    ((after (exec (.escalationTimerExpiry 0) ((sampleState .active .on 20).seating
        { sampleRecord with level := .level1, escalation := .running 10000, chimeUsed := 90 }))).table.seats.get 0).level
      = .spent := by decide +kernel

/-- R110, R112: an entry at T_move expires; one that a DEPART has replaced first stays. -/
theorem test_replacementBeforeDepartureExpiry :
    let s := ((sampleState .active .on 0).listing [{ leaver 4 with ageMs := 20000 }]).hearing
      [heard .depart 2 (departPayload (leaver 4))]
    (after (exec (.departureEntryExpiry (leaver 4).tag) s)).departures = []
      ∧ (after (exec (.departureEntryExpiry (leaver 4).tag) (after (exec .departHandled s)))).departures = [leaver 4] := by
  decide +kernel

/-- R191, R192: the left-behind timer at T_left raises the alert; set to 0 first, it raises none. -/
theorem test_leftBehindExpiry :
    let s (ms : Nat) : State := ((sampleState .watch .off 0).seating { sampleRecord with cls := .small }).setModeCtl
      { State.reset.modeCtl with mode := .watch, leftBehindMs := ms }
    (after (exec .leftBehindExpiry (s 120000))).modeCtl.mode = .active
      ∧ ((after (exec .leftBehindExpiry (s 120000))).recordAt 0).map Record.alert = some (.active 1 (.running 0))
      ∧ becomes (exec .leftBehindExpiry (s 119999)) (s 119999) = true ∧ becomes (exec .leftBehindExpiry (s 0)) (s 0) = true
    := by decide +kernel

/-- R184, R186: a SLEEP_PROPOSE heard first restarts the window, and its end at 200 ms does not come. -/
theorem test_proposalBeforeWindowEnd :
    let s := (sampleState .active .on 0).setModeCtl
      { State.reset.modeCtl with idle := .stopped, alone := .stopped, window := some ⟨200, true⟩ }
    let t := after (exec (.frameReceptionEnd (frameCells (headerByte .sleepPropose 2) []) true) s)
    (after (exec .windowEnd s)).modeCtl.window = none ∧ t.modeCtl.window = some ⟨0, true⟩
      ∧ becomes (exec .windowEnd t) t = true := by decide +kernel

/-- R113, R182, R193: the ignition becoming ON ends WATCH, with its alert ACKNOWLEDGED and both frames withdrawn. -/
theorem test_ignitionOnInWatch :
    let r : Record := { sampleRecord with cls := .small, alert := .active 3 (.running 9) }
    let s := ((((sampleState .watch .off 0).seating r).queued
      [⟨.alert, alertPayload 0 .small 3, false, none, none⟩, waiting .sleepPropose false, waiting .depart false]).setModeCtl
      { State.reset.modeCtl with mode := .watch, leftBehindMs := 7, watch := .running 9 }).hearing
      [heard .vehicle 13 [0x80, 0]]
    let t := after (exec .vehicleHandled { s with link := { s.link with txq :=
      [⟨.alert, alertPayload 0 .small 3, false, none, none⟩, waiting .sleepPropose false, waiting .depart false] } })
    t.modeCtl.mode = .active ∧ t.modeCtl.leftBehindMs = 0 ∧ t.modeCtl.idle = .stopped ∧ t.modeCtl.watch = .stopped
      ∧ t.link.txq = [waiting .depart false] ∧ (t.recordAt 0).map Record.alert = some .acknowledged
      ∧ t.sweep.period = .running 0 := by decide +kernel

/-- R184, R193: a door report in an open window is refused with ALERT_ACTIVE, and the acknowledgement of the same frame
then ends the alert (log entry 30). -/
theorem test_doorBeforeAcknowledgement :
    let r : Record := { sampleRecord with cls := .small, alert := .active 3 (.running 9) }
    let s := ((((sampleState .active .off 0).seating r).listing [leaver 4]).setModeCtl
      { State.reset.modeCtl with window := some ⟨9, false⟩, idle := .running 9000 }).hearing [heard .vehicle 13 [0x06, 0]]
    let t := after (exec .vehicleHandled s)
    t.modeCtl.window = some ⟨9, true⟩ ∧ t.modeCtl.idle = .running 0 ∧ t.departures = []
      ∧ t.link.txq = [newEntry .sleepRefuse [3] none] ∧ (t.recordAt 0).map Record.alert = some .acknowledged := by
  decide +kernel

/-- R204: an item that is not defined is answered with BAD_ITEM. -/
theorem test_undefinedItem :
    (after (exec .diagQueryItemNotDefined (State.reset.hearing [query 11 0]))).link.txq.map TxEntry.payload
      = [[11, 2, 0, 0, 0, 0]] := by decide +kernel

/-- R161: of 2 dedicated and 4 shared places the EVENT class fills 6; the seventh frame is dropped. -/
theorem test_queueFull :
    let t := after (exec (.frameReceptionEnd (frameCells (headerByte .rowRelease 5) []) true)
      (State.reset.hearing (List.replicate 6 (heard .rowRelease 5 []))))
    t.link.rxq.length = 6 ∧ t.link.eventLoss = .running 0 ∧ t.diag.counters.rxDropEvent = 1 := by decide +kernel

/-- R57: an _on item never falls below its _off item. -/
theorem test_configClamps :
    let t := after (exec .configWrite ((serving .stopped).hearing [setting 32 0 20]))
    t.config.working.tObjOn = 20 ∧ t.config.working.tObjOff = 20
      ∧ t.link.txq.map TxEntry.payload = [[160, 1, 0, 20, 0, 0]] := by decide +kernel

/-! ### Witnesses: steps, power-on, sensing, sweeps -/

theorem witness_StepRunsFrontCommand :
    ({ State.reset with pending := [.frameTxStart, .fenceEnd] } : State).pending = .frameTxStart :: [.fenceEnd] := rfl

theorem witness_IdleStepOnlyLetsTimePass : State.reset.pending = [] := rfl

/-- A good store, the store after reset, and a good store with a number that is no position. -/
theorem witness_PowerOnStartsEveryBlock :
    State.reset.diag.commit = .stopped
      ∧ (∀ c ∈ [Conf.default, { Conf.default with fittedMask := 7, joinMap := 1 }],
          (∀ i ∈ Item.all, i.range.1 ≤ c.value i ∧ c.value i ≤ i.range.2)
            ∧ joinsGood c.fittedMask c.joinMap = true ∧ (⟨c, c.sum⟩ : Store).good = true)
      ∧ isPosition Conf.default 3 = true ∧ isPosition { Conf.default with fittedMask := 7, joinMap := 1 } 3 = false
      ∧ isPosition { Conf.default with fittedMask := 7, joinMap := 1 } 1 = false
      ∧ ¬ (State.reset.config.store.sum = State.reset.config.store.contents.sum
          ∧ (∀ i ∈ Item.all, i.range.1 ≤ State.reset.config.store.contents.value i
              ∧ State.reset.config.store.contents.value i ≤ i.range.2)
          ∧ joinsGood State.reset.config.store.contents.fittedMask State.reset.config.store.contents.joinMap = true) := by
  decide +kernel

theorem witness_LossOfSupplyCutsCommit :
    State.reset.powered = true ∧ State.reset.diag.commit = .stopped ∧ (serving (.running 7)).powered = true
      ∧ (serving (.running 7)).diag.commit ≠ .stopped := by decide

/-- Both sides of the two limits, for a kind hard after 3 and cleared after 2. -/
theorem witness_FaultTables : 1 + 1 < 3 ∧ 3 ≤ 2 + 1 ∧ 0 + 1 < 2 ∧ 2 ≤ 1 + 1 ∧ 0 < 1 := by decide

/-- The period timer at its end and below it; no tag-fitted position; the pointer at one; the search that passes over 0. -/
theorem witness_SweepStartTakesNumber :
    State.reset.powered = true ∧ State.reset.sweep.period = .running 50 ∧ State.reset.sweep.flight = none
      ∧ 49 < 50 ∧ (sampleState .watch .off 0).modeCtl.mode = .watch ∧ 999 < 1000
      ∧ (∀ p, tagFitted Conf.default p = false)
      ∧ tagFitted { Conf.default with tagMask := 1 } (0 + 0) = true
      ∧ tagFitted { Conf.default with tagMask := 1 } (3 + 1) = true
      ∧ (∀ j : Pos, j < 1 → tagFitted { Conf.default with tagMask := 1 } (3 + j) = false)
      ∧ tagFitted { Conf.default with tagMask := 8 } (0 + 3) = true
      ∧ ∀ j : Pos, j < 3 → tagFitted { Conf.default with tagMask := 8 } (0 + j) = false := by decide

/-- A completion that is a test, and one that is not; a fitted channel and one that is not. -/
theorem witness_CompletionHoldsReadings :
    (∀ test ∈ [true, false], (sweeping test).powered = true
        ∧ (sweeping test).sweep.flight = some (.periodic 0 test none 10))
      ∧ isFitted Conf.default 3 = true ∧ isFitted { Conf.default with fittedMask := 7 } 3 = false := by decide

/-- Each group of the belt run, the counts 0 to 3 before it, another group and no run; and the latch state absent,
read again, and opposite once and twice. -/
theorem witness_BeltTagAndLatchDebounce :
    let at_ (run : Option BeltRun) (latch : Option Latch) (latchRun : Nat) : State :=
      (sweeping false).setSfe { (sweeping false).sfe with
        positions := Four.const ⟨⟨false, 0⟩, ⟨false, 0⟩, ⟨false, 0⟩, ⟨false, 0⟩, .unbuckled, run, .none, none⟩
        latch := latch, latchRun := latchRun }
    buckleRead (sweeping false).config.running 0 = true
      ∧ (bandOf 99).group = .buckled ∧ (bandOf 100).group = .unbuckled ∧ (bandOf 180).group = .fault
      ∧ ([19, 20, 99, 100, 179, 180, 219, 220] : List Byte).map BitVec.toNat = [19, 20, 99, 100, 179, 180, 219, 220]
      ∧ (∀ n ∈ [0, 1, 2, 3], ∀ g ∈ [BandGroup.buckled, .unbuckled, .fault],
          ((at_ (some ⟨g, n⟩) none 0).sfe.positions.get 0).beltRun = some ⟨g, n⟩)
      ∧ (∀ n, ((at_ (some ⟨.fault, 3⟩) none 0).sfe.positions.get 0).beltRun ≠ some ⟨.buckled, n⟩)
      ∧ (∀ n, ((at_ none none 0).sfe.positions.get 0).beltRun ≠ some ⟨.buckled, n⟩)
      ∧ (at_ none none 0).sfe.latch = none
      ∧ (at_ none (some .closed) 0).sfe.latch = some (latchLevel false)
      ∧ (at_ none (some .closed) 0).sfe.latch = some .closed ∧ Latch.closed ≠ latchLevel true
      ∧ (at_ none (some .closed) 0).sfe.latchRun = 0 ∧ 1 ≤ (at_ none (some .closed) 1).sfe.latchRun := by
  refine ⟨by decide, by decide, by decide, by decide, by decide, by decide, fun n h => ?_, fun n h => ?_, by decide,
    by decide, by decide, by decide, by decide, by decide⟩
  · simp [State.setSfe, Four.const, Four.get] at h
  · simp [State.setSfe, Four.const, Four.get] at h

/-- A tag run of the kind read and of another, at the position read and beside it; a view of the same serial and of
another; and each result of a read. -/
theorem witness_BeltTagAndLatchDebounce_tags :
    let g : TagRecord := ⟨7, .booster, .bar, 30⟩
    let run (kind : TagRunKind) (view : TagView) : SfePosition :=
      { State.reset.sfe.positions.c0 with tagRun := some ⟨kind, 1⟩, tagView := view }
    let s := { State.reset with sweep := { State.reset.sweep with flight := some (.periodic 0 false (some 0) 14) } }
    s.powered = true ∧ s.sweep.flight = some (.periodic 0 false (some 0) 14) ∧ isPosition s.config.running 0 = true
      ∧ (some 0 : Option Pos) ≠ some 1
      ∧ tagResult (.reply true 7 (some .booster) (some .bar) 30) = .valid g ∧ tagResult .silence = .noReply
      ∧ tagResult .overlap = .collision
      ∧ (∀ kind ∈ [TagRunKind.noReply, .collision, .valid 7], (run kind .none).tagRun = some ⟨kind, 1⟩)
      ∧ (run (.valid 7) (.present g)).tagView = .present g ∧ g.serial = 7
      ∧ (∀ held, (run (.valid 7) (.present { g with serial := 8 })).tagView = .present held → held.serial ≠ 7)
      ∧ (∀ held, (run (.valid 7) .unclear).tagView ≠ .present held)
      ∧ ∀ n, (run .collision .none).tagRun ≠ some ⟨.noReply, n⟩ := by
  refine ⟨by decide, by decide, by decide, by decide, by decide, by decide, by decide, by decide, by decide, by decide,
    fun held h => ?_, fun held h => ?_, fun n h => ?_⟩
  · cases h; decide
  · cases h
  · cases h

/-- Rails and readings inside them; readings that differ by the allowed amount and by one more; a reference that may be
tested and one that may not; a joined position and one alone; and each count before a belt fault is reported. -/
theorem witness_FaultsJudgedAndReported :
    let pair : Conf := { Conf.default with joinMap := 1 }
    let tested : SfeChannel := { held := none, reference := some 3895 }
    (∀ test ∈ [true, false], (sweeping test).powered = true
        ∧ (sweeping test).sweep.flight = some (.periodic 0 test none 10))
      ∧ isPosition Conf.default 0 = true ∧ isJoined Conf.default 0 = false ∧ isPosition pair 0 = true
      ∧ isJoined pair 0 = true ∧ upperOf 0 = 1 ∧ isPosition pair 1 = false
      ∧ (∀ x ∈ ([0, 4095] : List Count12), atRail x = true) ∧ (∀ x ∈ ([1, 4094] : List Count12), atRail x = false)
      ∧ 1072 ≤ 957 + (48 + 1072 / 16) ∧ 956 + (48 + 1072 / 16) < 1072
      ∧ tested.reference = some 3895 ∧ (3895 : Count12).toNat ≤ 3895 ∧ 3895 < (3896 : Count12).toNat
      ∧ (4094 : Count12).toNat < (3895 : Count12).toNat + 200
      ∧ (4095 : Count12).toNat = (3895 : Count12).toNat + 200
      ∧ (bandOf 180).group = .fault ∧ (bandOf 19).group = .fault ∧ buckleRead Conf.default 0 = true
      ∧ tagResult .overlap = .collision := by decide

/-- Each part, at a position with and without a tag reader, and each result of a tag read. -/
theorem witness_OneShotAnswersMeasure :
    (∀ part ∈ [MeasurePart.mat, .presence, .tag],
        ({ State.reset with sweep := { State.reset.sweep with flight := some (.oneShot 0 part 3) } } : State).sweep.flight
          = some (.oneShot 0 part 3))
      ∧ tagFitted Conf.default 0 = false ∧ tagFitted { Conf.default with tagMask := 1 } 0 = true
      ∧ tagResult .silence = .noReply ∧ tagResult .overlap = .collision
      ∧ tagResult (.reply true 1 (some .booster) (some .bar) 255) = .valid ⟨1, .booster, .bar, 255⟩ := by decide

/-- A watch whose buckle 0 or latch differs again, one where nothing does, and one without latch reference. -/
theorem witness_StandbySamplesRaiseWake :
    let s := sampleState .standby .off 0
    let unbuckled : Four (Option BuckleWatch) := ⟨some ⟨false, true⟩, none, none, none⟩
    s.powered = true ∧ s.modeCtl.mode = .standby ∧ s.validStraps = true ∧ (s.strapped 0).validStraps = false
      ∧ (∀ w ∈ ([⟨unbuckled, some .closed, false, 250⟩, ⟨unbuckled, none, false, 250⟩] : List StandbyWatch),
          ({ s with sfe := { s.sfe with watch := some w } } : State).sfe.watch = some w)
      ∧ (∀ ratio ∈ ([20, 99] : List Byte), false ≠ decide (20 ≤ ratio.toNat ∧ ratio.toNat ≤ 99))
      ∧ (∀ ratio ∈ ([19, 100] : List Byte), false = decide (20 ≤ ratio.toNat ∧ ratio.toNat ≤ 99))
      ∧ Latch.closed ≠ latchLevel true ∧ Latch.closed = latchLevel false := by decide

/-! ### Witnesses: classification, positions, ladders -/

theorem witness_CandidateTable :
    childThreshold Conf.default .csOccupied ≤ 70 - (45 : Byte).toNat
      ∧ 69 - (45 : Byte).toNat < childThreshold Conf.default .csOccupied
      ∧ 84 - (45 : Byte).toNat < childThreshold Conf.default .csEmpty
      ∧ smallThreshold Conf.default .adult ≤ 80 ∧ 79 < smallThreshold Conf.default .small
      ∧ objectThreshold Conf.default .object ≤ 30 ∧ 49 < objectThreshold Conf.default .empty
      ∧ adultThreshold Conf.default .adult ≤ 350 ∧ 399 < adultThreshold Conf.default .small := by decide

/-- The three cases of the counter, and both sides of the limit, at the default dwell, and the cap at a dwell of 15. -/
theorem witness_DwellSettlesClass :
    dwellNext .empty .empty (some .adult) 5 = 0 ∧ dwellNext .adult .empty (some .adult) 4 = 5
      ∧ dwellNext .adult .empty (some .adult) 0 = 1 ∧ dwellNext .adult .empty (some .small) 5 = 1
      ∧ Conf.default.dwell = 6 ∧ 5 < Conf.default.dwell ∧ Conf.default.dwell ≤ 6
      ∧ 11 < min (2 * Conf.default.dwell) 30 ∧ min (2 * Conf.default.dwell) 30 ≤ 12 ∧ min (2 * 15) 30 = 30 := by decide

/-- A completion that is no test, at a position and at a number that is none; a position that learns both baselines, one
that learns neither, and one whose readings are at the rail. -/
theorem witness_ClassifierArithmetic :
    let x : ClassifierInput :=
      { main := 1024, presence := 1024, matFault := false, matObservation := false, presenceFault := false
        presenceObservation := false, view := .none, settled := .empty, atSpeed := false }
    let k := State.reset.classes.c0
    (sweeping false).powered = true ∧ (sweeping false).sweep.flight = some (.periodic 0 false none 10)
      ∧ isPosition Conf.default 0 = true ∧ isPosition { Conf.default with fittedMask := 7 } 3 = false
      ∧ (classify Conf.default 0 x k).1.presence = false
      ∧ (classify Conf.default 0 { x with presence := 4095 } k).1.presence = true
      ∧ x.settled = .empty ∧ ({ x with settled := .object } : ClassifierInput).settled = .object
      ∧ ({ x with matObservation := true } : ClassifierInput).matObservation = true
      ∧ ({ x with presenceFault := true } : ClassifierInput).presenceFault = true := by decide +kernel

/-- A child seat in view that settles occupied, and an adult; any position's arrival creates a record. -/
theorem witness_ArrivalCreatesRecord :
    let seat := { State.reset.sfe.positions.c0 with belt := .buckled, tagView := .present ⟨1, .booster, .bar, 30⟩ }
    let s := State.reset.setSfe { State.reset.sfe with positions := Four.const seat }
    ((s.classed .csOccupied).table.seats.get 0).cls = .csOccupied
      ∧ (s.sfe.positions.get 0).tagView = .present ⟨1, .booster, .bar, 30⟩
      ∧ (s.sfe.positions.get 0).belt = .buckled
      ∧ ((s.classed .adult).table.seats.get 0).cls ≠ .csOccupied := by decide

/-- A search that may be made, with the last free place of the transmit queue or with a STATE to displace; an entry that
matches by class behind one that does not, one that matches by serial, and none; no search at invalid straps. -/
theorem witness_ArrivalCreatesRecord_search :
    let child : DepEntry := { leaver 3 with child := some ⟨9, .booster⟩ }
    let s := (((sampleState .active .on 20).classed .adult).listing [child, leaver 4, leaver 5]).queued
      (List.replicate 5 (waiting .alert false))
    s.MaySearch ∧ (s.queued (waiting .state false :: s.link.txq)).MaySearch ∧ ¬ (s.strapped 7).MaySearch
      ∧ s.departures = [child] ++ leaver 4 :: [leaver 5]
      ∧ (∀ cls ∈ [Cls.small, .adult, .unsized, .unknown], (leaver 4).Matches cls none .cls)
      ∧ (∀ d ∈ [child], ∀ k, ¬ d.Matches .adult none k) ∧ child.Matches .csOccupied (some 9) .serial
      ∧ (∀ k, ¬ child.Matches .csOccupied (some 8) k) ∧ ∀ k, ¬ (leaver 4).Matches .csOccupied (some 9) k := by
  refine ⟨?_, ?_, ?_, by decide, ?_, ?_, Or.inl ⟨9, .booster, rfl, rfl, rfl⟩, ?_, ?_⟩
  · unfold State.MaySearch; decide
  · unfold State.MaySearch; decide
  · unfold State.MaySearch; decide
  · simp [DepEntry.Matches, Cls.FreelyMatches, leaver]
  · simp [DepEntry.Matches]
  · simp [DepEntry.Matches]
  · simp [DepEntry.Matches, leaver]

/-- The list with 7 and the queue with 5 entries; a claim and an alert that end; the ignition not ON; invalid straps. -/
theorem witness_DepartureHandsHistoryOn :
    let s := (((sampleState .active .on 20).seating sampleRecord).listing
      [leaver 1, leaver 2, leaver 3, leaver 4, leaver 5, leaver 6, leaver 7]).queued
      (List.replicate 5 (waiting .alert false))
    s.recordAt 0 = some sampleRecord ∧ s.vehicle.ignition = .on ∧ s.validStraps = true
      ∧ (⟨s.station, 0, s.table.departureSeq + 1⟩ : DepTag) ∉ s.departures.map DepEntry.tag
      ∧ (⟨s.station, 0, s.table.departureSeq + 1⟩ : DepTag) ∉ s.heldTags ∧ s.departures.length < 8
      ∧ (s.link.recordEnded 0 sampleRecord).txq.length < 6
      ∧ (∀ ignition ∈ [Ignition.on, .acc],
          ((sampleState .active ignition 0).seating claimer).recordAt 0 = some claimer
            ∧ ((sampleState .active ignition 0).seating { sampleRecord with alert := .active 1 (.running 0) }).recordAt 0
              = some { sampleRecord with alert := .active 1 (.running 0) })
      ∧ (sampleState .active .acc 0).vehicle.ignition ≠ .on ∧ (s.strapped 7).validStraps = false
      ∧ claimer.origin = .claiming (leaver 4) := by decide

/-- A class that changes between occupant classes, to and from CS_OCCUPIED; a restraint that is exchanged and one that is
not; a belt that changed, at a record and at none. -/
theorem witness_OccupantChanges :
    let g : TagRecord := ⟨9, .booster, .bar, 30⟩
    let seated : Record := { sampleRecord with cls := .csOccupied, tag := some ⟨8, .booster, .bar⟩ }
    (Cls.unscanned.isOccupant = false ∧ Cls.empty.isOccupant = false)
      ∧ (∀ cls ∈ [Cls.small, .adult, .unsized, .unknown, .csOccupied], cls.isOccupant = true)
      ∧ (State.reset.seating seated).recordAt 0 = some seated ∧ seated.tag = some ⟨8, .booster, .bar⟩ ∧ (8 : Word16) ≠ g.serial
      ∧ Cls.adult ≠ .csOccupied ∧ sampleRecord.cls ≠ .csOccupied ∧ (TagView.present g) = .present g
      ∧ (Four.const true).get 0 = true ∧ (Four.const false).get 0 = false ∧ State.reset.recordAt 0 = none := by decide

/-- At V_trip, below it, and with the ignition not ON; a release that is pending with the latch OPEN, and one that waits. -/
theorem witness_LatchEvents :
    (sampleState .active .on 10).vehicle.ignition = .on
      ∧ (sampleState .active .on 10).config.running.vTrip ≤ (sampleState .active .on 10).effSpeed
      ∧ ¬ (sampleState .active .on 9).config.running.vTrip ≤ (sampleState .active .on 9).effSpeed
      ∧ (sampleState .active .acc 10).vehicle.ignition ≠ .on
      ∧ ({ State.reset.table with releasePending := true } : Positions).releasePending = true
      ∧ State.reset.table.releasePending = false ∧ State.reset.sfe.latch ≠ some .opened
      ∧ ({ State.reset.sfe with latch := some .opened } : Sfe).latch = some .opened := by decide

/-- Each timer at its limit and 1 ms below it. -/
theorem witness_LadderTimersRunOut_limits :
    (∀ limit ∈ [1000 * Conf.default.tGrace, 1000 * Conf.default.tL1, 1000, 5000, 10000],
        (Timer.running limit).Reached limit ∧ ¬ (Timer.running (limit - 1)).Reached limit
          ∧ ¬ Timer.stopped.Reached limit)
      ∧ Conf.default.tGrace = 20 ∧ Conf.default.tL1 = 10 := by
  simp [Timer.Reached, Conf.default]

/-- Each timer at its limit, seated time at its largest; chime time used 1 s below the limit, and at it. -/
theorem witness_LadderTimersRunOut :
    (∀ r ∈ [{ sampleRecord with level := .grace, graceTimer := .running 20000 },
        { sampleRecord with level := .level2, slowTimer := .running 5000 },
        { sampleRecord with buckledRun := .running 10000 }, { sampleRecord with seated := 65534, seatedMs := 1000 },
        { sampleRecord with seated := 65535, seatedMs := 1000 }, { sampleRecord with seatedMs := 999 },
        { sampleRecord with level := .level1, escalation := .running 10000, chimeUsed := 89 },
        { sampleRecord with level := .level1, escalation := .running 10000, chimeUsed := 90 },
        { sampleRecord with level := .level2, chimeTimer := .running 1000, chimeUsed := 88 },
        { sampleRecord with level := .level2, chimeTimer := .running 1000, chimeUsed := 89 }],
        ((sampleState .active .on 9).seating r).recordAt 0 = some r)
      ∧ (sampleState .active .on 9).powered = true ∧ (sampleState .active .on 9).atSpeed = false
      ∧ (sampleState .active .on 9).modeCtl.mode = .active ∧ 999 < 1000
      ∧ 89 < Conf.default.chimeLimit ∧ Conf.default.chimeLimit ≤ 90
      ∧ 88 + 1 < Conf.default.chimeLimit ∧ Conf.default.chimeLimit ≤ 89 + 1 := by decide

/-- Each row of the table of entries from QUIET. -/
theorem witness_DueReminderLeavesQuiet :
    sampleRecord.level = .quiet ∧ sampleRecord.kind ≠ .none
      ∧ (∀ r ∈ [{ sampleRecord with everBuckled := true }, { sampleRecord with origin := .untraced },
          { sampleRecord with origin := .moved ⟨2, 1, 4⟩ }],
          r.everBuckled = true ∨ r.origin = .untraced ∨ r.origin = .moved ⟨2, 1, 4⟩)
      ∧ sampleRecord.everBuckled = false ∧ sampleRecord.origin ≠ .untraced
      ∧ (∀ tag, sampleRecord.origin ≠ .moved tag) ∧ sampleRecord.graceUsed = false
      ∧ 89 < Conf.default.chimeLimit ∧ Conf.default.chimeLimit ≤ 90 ∧ 0 < Conf.default.tL1
      ∧ 0 < Conf.default.tGrace ∧ ({ Conf.default with tL1 := 0 } : Conf).tL1 = 0
      ∧ ({ Conf.default with tGrace := 0 } : Conf).tGrace = 0
      ∧ ({ sampleRecord with graceUsed := true } : Record).graceUsed = true
      ∧ ({ sampleRecord with kind := .none } : Record).kind = .none := by
  refine ⟨by decide, by decide, by decide, by decide, by decide, fun tag h => ?_, by decide, by decide, by decide,
    by decide, by decide, by decide, by decide, by decide, by decide⟩
  simp [sampleRecord] at h

/-- The table of securing states: what each class and view leaves of one before, and the two levels. -/
theorem witness_SecuringStates :
    let carrier : TagView := .present ⟨1, .infantRear, .belt, 45⟩
    let booster : TagView := .present ⟨1, .booster, .belt, 45⟩
    let barred : TagView := .present ⟨1, .childForward, .bar, 45⟩
    (∀ test ∈ [true, false], (sweeping test).powered = true
        ∧ (sweeping test).sweep.flight = some (.periodic 0 test none 10))
      ∧ ([(Cls.csEmpty, carrier, none), (.csEmpty, carrier, some .level1), (.csEmpty, booster, some .quiet),
          (.csEmpty, barred, some .quiet), (.csEmpty, .none, some .level1), (.csEmpty, .unclear, some .level1),
          (.csEmpty, .none, none), (.csOccupied, carrier, some .level1)] :
            List (Cls × TagView × Option Level)).map (fun x => securingAfter x.1 x.2.1 x.2.2)
        = [some .quiet, some .level1, none, none, some .level1, some .level1, none, none]
      ∧ securingLevel .unbuckled true = .level1 ∧ securingLevel .fault true = .level1
      ∧ securingLevel .buckled true = .quiet ∧ securingLevel .notFitted true = .quiet
      ∧ securingLevel .unbuckled false = .quiet ∧ State.reset.RecordsFit := by
  refine ⟨by decide, by decide, by decide, by decide, by decide, by decide, by decide, fun p => ⟨?_, fun r h => ?_⟩⟩
  · revert p; decide
  · revert h; fin_cases p <;> simp [State.recordAt, State.reset, Four.get, Four.const]

/-- A VEHICLE frame that raises the speed to V_trip, one that lets it fall, one that turns the ignition ON, and one that
ends the trip; the levels before and after. -/
theorem witness_VehicleEventsMoveLadders :
    let run (ignition : Ignition) (speed : Nat) (trip : Bool) (payload : List Byte) (r : Record) : Option Level :=
      let s := (((sampleState .active ignition speed).seating r).hearing [heard .vehicle 13 payload])
      ((after (exec .vehicleHandled { s with vehicle := { s.vehicle with trip } })).recordAt 0).map Record.level
    run .on 9 true [0x80, 10] { sampleRecord with level := .grace, graceTimer := .running 3 } = some .level1
      ∧ run .on 10 true [0x80, 9] { sampleRecord with level := .level2, chimeTimer := .running 3 } = some .level2
      ∧ run .off 0 false [0x80, 0] sampleRecord = some .grace
      ∧ run .on 0 true [0x00, 0] { sampleRecord with level := .level1 } = some .quiet
      ∧ run .on 0 true [0x40, 0] { sampleRecord with level := .level1 } = some .quiet
      ∧ run .on 9 true [0x80, 9] { sampleRecord with level := .level1 } = some .level1 := by decide +kernel

/-- Each level at position 0, with the lamp off and flashing; each flashing pattern. -/
theorem witness_LampsFollowLevels :
    (∀ level ∈ [Level.quiet, .grace, .level1, .level2, .spent],
        (((sampleState .active .on 9).seating { sampleRecord with level }).table.seats.get 0).level = level)
      ∧ (sampleState .active .on 9).lamps.get 0 = .off
      ∧ (∀ ms ∈ [249, 250],
          ((sampleState .active .on 9).setLamps (Four.const (.flashing false ms))).lamps.get 0 = .flashing false ms)
      ∧ (∀ x ∈ [(Pattern.flash, 499), (.flash, 500), (.degraded, 124), (.degraded, 125)],
          ({ State.reset.duty with pattern := x.1, ttMs := x.2 } : Duty).ttMs = x.2)
      ∧ (sampleState .watch .off 0).modeCtl.mode ≠ .active
      ∧ ∀ pattern ∈ [Pattern.flash, .degraded],
          ({ State.reset.duty with pattern } : Duty).pattern = .flash
            ∨ ({ State.reset.duty with pattern } : Duty).pattern = .degraded := by decide

/-! ### Witnesses: Departure List, claims, duty -/

/-- A DEPART of each outcome: discarded by its bytes, held, listed, new at 7 entries and at 8. -/
theorem witness_DepartureListMoves :
    let f := heard .depart 2 (departPayload (leaver 4))
    let seven := [leaver 11, leaver 12, leaver 13, leaver 14, leaver 15, leaver 16, leaver 17]
    let s := (sampleState .active .on 0).hearing [f]
    s.Handles f ∧ ((sampleState .service .off 0).hearing [f]).Handles f
      ∧ (s.hearing [heard .depart 2 [0, 0, 0, 0, 0, 0]]).Handles (heard .depart 2 [0, 0, 0, 0, 0, 0])
      ∧ f.kind = .depart ∧ s.modeCtl.mode ≠ .service ∧ entryOfDepart [0, 0, 0, 0, 0, 0] = none
      ∧ entryOfDepart f.payload = some (leaver 4)
      ∧ (leaver 4).tag ∈ (s.seating claimer).heldTags ∧ (leaver 4).tag ∉ s.heldTags
      ∧ (leaver 4).tag ∈ (s.listing [leaver 4]).departures.map DepEntry.tag
      ∧ (leaver 4).tag ∉ (s.listing seven).departures.map DepEntry.tag ∧ (s.listing seven).departures.length < 8
      ∧ (leaver 4).tag ∉ (s.listing (leaver 10 :: seven)).departures.map DepEntry.tag
      ∧ 8 ≤ (s.listing (leaver 10 :: seven)).departures.length
      ∧ (∃ e ∈ (s.listing [{ leaver 4 with ageMs := 20000 }]).departures,
          e.tag = (leaver 4).tag ∧ 1000 * s.config.running.tMove ≤ e.ageMs)
      ∧ (∀ e ∈ (s.listing [{ leaver 4 with ageMs := 19999 }]).departures,
          e.tag = (leaver 4).tag → e.ageMs < 1000 * s.config.running.tMove) := by
  unfold State.Handles; decide +kernel

/-- Payloads of each row of the table: stations 0, 12 and 13, classes 3, 4, 8, 9 and 10, a serial marked present with serial
0 or tag type 0, and chime times 180 and 181. -/
theorem witness_DepartureListMoves_fields :
    (entryOfDepart [0x04, 1, 0x40, 0, 0, 0] = none ∧ entryOfDepart [0xD4, 1, 0x40, 0, 0, 0] = none)
      ∧ (entryOfDepart [0xC4, 1, 0x30, 0, 0, 0] = none ∧ entryOfDepart [0xC4, 1, 0x80, 0, 0, 0] = none
        ∧ entryOfDepart [0xC4, 1, 0xA0, 0, 0, 0] = none)
      ∧ entryOfDepart [0xC4, 1, 0x95, 0, 0, 0] = none ∧ entryOfDepart [0xC4, 1, 0x94, 0, 0, 1] = none
      ∧ entryOfDepart [0xC7, 1, 0x48, 180, 0, 9] = some ⟨⟨12, 1, 769⟩, .small, true, 180, none, 0⟩
      ∧ entryOfDepart [0xC7, 1, 0x97, 181, 1, 9] = some ⟨⟨12, 1, 769⟩, .csOccupied, false, 180, some ⟨265, .booster⟩, 0⟩
      := by decide

/-- A void claim, and one for the record that claims, with the ignition ON and not. -/
theorem witness_OwnClaimSettles :
    (∀ voided ∈ [true, false], ∀ ignition ∈ [Ignition.on, .off],
        let s := ((sampleState .active ignition 20).seating claimer).setLink
          { State.reset.link with selfSlot := some ⟨sampleClaim voided, 3⟩ }
        s.powered = true ∧ s.sweep.flight = none ∧ s.modeCtl.mode ≠ .standby
          ∧ s.link.nextHandled = some (.own ⟨sampleClaim voided, 3⟩) ∧ s.recordAt 0 = some claimer)
      ∧ claimer.id = (sampleClaim false).id ∧ claimer.origin = .claiming (leaver 4)
      ∧ (leaver 4).tag = (sampleClaim false).tag
      ∧ ∀ q r', ((sampleState .active .on 20).seating claimer).recordAt q = some r' → r'.id = (sampleClaim false).id →
          q = 0 := by
  refine ⟨by decide +kernel, by decide, by decide, by decide, fun q r' h _ => (seating_only _ _ _ _ _ _ h).1⟩

/-- A CLAIM in SERVICE, for a listed tag, for a tag nobody holds, for a MOVED record, and for a claiming one. -/
theorem witness_PeerClaimTakesTag :
    let f := heard .claim 2 (claimPayload (leaver 4).tag 0 .cls)
    let s := (sampleState .active .on 20).hearing [f]
    let moved : Record := { sampleRecord with origin := .moved (leaver 4).tag }
    s.Handles f ∧ ((sampleState .service .off 0).hearing [f]).Handles f ∧ f.kind = .claim
      ∧ (leaver 4).tag = tagOfBytes (byteAt f.payload 0) (byteAt f.payload 1) ∧ s.modeCtl.mode ≠ .service
      ∧ (leaver 4).tag ∉ s.heldTags ∧ (leaver 4).tag ∉ s.departures.map DepEntry.tag
      ∧ (leaver 4).tag ∈ (s.listing [leaver 4]).departures.map DepEntry.tag
      ∧ ((sampleState .active .on 20).seating moved).recordAt 0 = some moved
      ∧ (∀ p r d, ((sampleState .active .on 20).seating moved).recordAt p = some r → r.origin = .claiming d →
          d.tag ≠ (leaver 4).tag)
      ∧ ((sampleState .active .on 20).seating claimer).recordAt 0 = some claimer
      ∧ claimer.origin = .claiming (leaver 4)
      ∧ ∀ q r' d', ((sampleState .active .on 20).seating claimer).recordAt q = some r' → r'.origin = .claiming d' →
          d'.tag = (leaver 4).tag → q = 0 := by
  refine ⟨by unfold State.Handles; decide +kernel, by unfold State.Handles; decide +kernel, by decide, by decide,
    by decide, by decide, by decide, by decide, by decide, fun p r d h e => ?_, by decide, by decide,
    fun q r' d' h _ _ => (seating_only _ _ _ _ _ _ h).1⟩
  rw [(seating_only _ _ _ _ _ _ h).2] at e
  simp at e

/-- Stations 2, 12 and 13 below and at each limit, with and without duty, and the numbers with no slot. -/
theorem witness_RosterSlotsMove :
    (∀ n ∈ ([2, 12, 13] : List StationNo), ∀ slot ∈ [SlotState.live, .silent],
        ∀ ms ∈ [999, 1000, 5999, 6000],
        let s := (sampleState .active .on 0).setDuty (State.reset.duty.setSlot n ⟨slot, ms⟩)
        s.powered = true ∧ s.modeCtl.mode ≠ .standby ∧ 1 ≤ n.toNat ∧ n.toNat ≤ 13 ∧ n ≠ s.station
          ∧ s.duty.slot n = ⟨slot, ms⟩)
      ∧ (∀ pins ∈ ([0b10001, 0b00001] : List (BitVec 5)), ∀ n ∈ ([2, 12, 13, 0, 14, 15] : List StationNo),
          (((sampleState .active .on 0).strapped pins).hearing [heard .rowRelease n []]).Handles
            (heard .rowRelease n []))
      ∧ ((sampleState .active .on 0).strapped 0b10001).holdsDuty = true
      ∧ ((sampleState .active .on 0).strapped 0b00001).holdsDuty = false := by
  unfold State.Handles; decide +kernel

/-- A lower station with DUTY, stations without, a row that is EMPTY or FILLED, bytes with and without a defined
code, SERVICE, a RELEASED slot, and a station without duty. -/
theorem witness_PeerStateFillsOrYields :
    let f (n : StationNo) (first flags : Byte) : RxFrame := heard .state n [first, 0x20, 0x20, 0x20, 0, flags]
    let s := (sampleState .active .on 0).strapped 0b11010
    (∀ n ∈ ([1, 3, 12] : List StationNo), ∀ flags ∈ ([0, 8, 16] : List Byte), ∀ first ∈ ([0x56, 0xA0, 0x2A] : List Byte),
        (s.hearing [f n first flags]).Handles (f n first flags) ∧ 1 ≤ n.toNat ∧ n.toNat ≤ 12 ∧ n ≠ s.station)
      ∧ s.holdsDuty = true ∧ s.station = 4 ∧ (8 : Byte).getLsbD 3 = true ∧ (16 : Byte).getLsbD 3 = false
      ∧ s.modeCtl.mode = .active ∧ (s.duty.slot 12).state ≠ .released ∧ s.duty.row 12 = .empty
      ∧ (s.duty.setRow 12 (.filled true (Four.const ⟨.adult, .level2⟩))).row 12
          = .filled true (Four.const ⟨.adult, .level2⟩)
      ∧ Cls.ofCode ((0x56 : Byte).toNat / 16) = some .adult ∧ Level.ofCode ((0x56 : Byte).toNat / 2 % 8) = some .level2
      ∧ Cls.ofCode ((0xA0 : Byte).toNat / 16) = none ∧ Level.ofCode ((0x2A : Byte).toNat / 2 % 8) = none
      ∧ (s.strapped 0b01010).holdsDuty = false ∧ (sampleState .service .off 0).modeCtl.mode = .service
      ∧ ((s.duty.setSlot 12 ⟨.released, 0⟩).slot 12).state = .released := by
  refine ⟨by unfold State.Handles; decide +kernel, ?_⟩
  decide +kernel

/-- Each pattern, a station without duty, and outputs that change and stay. -/
theorem witness_TellTaleAndChime :
    let s := sampleState .active .on 0
    let d (level : Level) : Duty := s.duty.setRow 2 (.filled false ⟨⟨.adult, level⟩, ⟨.empty, .quiet⟩,
      ⟨.empty, .quiet⟩, ⟨.empty, .quiet⟩⟩)
    s.holdsDuty = true ∧ s.modeCtl.mode = .active ∧ s.vehicle.ignition = .on ∧ s.table.unlatched = false
      ∧ s.vehicle.fresh = true ∧ (s.strapped 1).holdsDuty = false
      ∧ (∀ level ∈ [Level.grace, .level1, .level2, .spent], (d level).Holds level) ∧ ¬ s.duty.Holds .level2
      ∧ (∀ slot ∈ s.duty.roster, slot.state ≠ .silent ∧ slot.state ≠ .lost)
      ∧ (∃ slot ∈ (s.duty.setSlot 13 ⟨.silent, 1000⟩).roster, slot.state = .silent ∨ slot.state = .lost)
      ∧ (∀ slots, ViewRow.filled true slots ∉ s.duty.view)
      ∧ (s.setDuty (d .level2)).refreshDuty.duty.pattern ≠ (s.setDuty (d .level2)).duty.pattern
      ∧ s.refreshDuty.duty.pattern = s.duty.pattern := by
  refine ⟨by decide, by decide, by decide, by decide, by decide, by decide, fun level h => ?_, ?_, by decide,
    by decide, fun slots h => ?_, by decide +kernel, by decide +kernel⟩
  · refine ⟨.filled false ⟨⟨.adult, level⟩, ⟨.empty, .quiet⟩, ⟨.empty, .quiet⟩, ⟨.empty, .quiet⟩⟩, ?_, false, _, 0,
      rfl, by simp [Four.get], by simp [Four.get], rfl⟩
    revert level; decide
  · rintro ⟨row, hr, _, _, _, e, _⟩
    subst e; revert hr; simp [sampleState, State.reset]
  · revert h; simp [sampleState, State.reset]

/-! ### Witnesses: row link -/

/-- Every hold at its limit, and 1 ms below it. -/
theorem witness_HoldsRunOut :
    let s (less : Nat) : State := (State.reset.setLink
      { State.reset.link with
        fence := .running (1000 - less), stuck := .running (50 - less), eventLoss := .running (10000 - less) }).setEmission
      { State.reset.emission with restarted := .running (2000 - less) }
    (s 0).powered = true ∧ (s 0).link.drive ≠ .wakePulse ∧ (s 0).link.lineHeld = false
      ∧ ((s 0).link.fence.Reached 1000 ∧ (s 0).link.stuck.Reached 50 ∧ (s 0).link.eventLoss.Reached 10000
        ∧ (s 0).emission.restarted.Reached 2000)
      ∧ ¬ (s 1).link.fence.Reached 1000 ∧ ¬ (s 1).link.stuck.Reached 50 ∧ ¬ (s 1).link.eventLoss.Reached 10000
      ∧ ¬ (s 1).emission.restarted.Reached 2000 := by
  refine ⟨by decide, by decide, by decide, ?_⟩
  simp [Timer.Reached, State.setLink, State.setEmission]

/-- The edges of every class of pulse, and every mode, in SERVICE with and without a commit. -/
theorem witness_PulseLengthsClassed :
    (∀ l ∈ [39, 999, 2001, 3999, 6001, 10000],
        (38 < l ∧ l < 1000) ∨ (2000 < l ∧ l < 4000) ∨ (6000 < l ∧ l ≤ 10000))
      ∧ 10000 < 10001 ∧ (∀ l ∈ [1000, 2000], 1000 ≤ l ∧ l ≤ 2000) ∧ (∀ l ∈ [4000, 6000], 4000 ≤ l ∧ l ≤ 6000)
      ∧ (∀ mode ∈ [Mode.active, .watch, .standby, .service], ∀ ignition ∈ [Ignition.off, .on],
          (sampleState mode ignition 0).powered = true ∧ (sampleState mode ignition 0).link.drive ≠ .wakePulse
            ∧ (sampleState mode ignition 0).modeCtl.mode = mode
            ∧ (sampleState mode ignition 0).modeCtl.wakeCause = false)
      ∧ (serving .stopped).diag.commit = .stopped ∧ (serving (.running 3)).diag.commit ≠ .stopped := by decide

/-- R194: a HALT in STANDBY with a pending cause, heard and at the release of the own pulse, clears the marks of the watch and
keeps its references. -/
theorem test_haltKeepsReferences :
    let watch (differed : Bool) : StandbyWatch :=
      ⟨(Four.const none).set 1 (some ⟨true, differed⟩), some .closed, differed, 120⟩
    let s := ((sampleState .standby .off 0).setModeCtl { State.reset.modeCtl with mode := .standby, wakeCause := true }).setSfe
      { State.reset.sfe with watch := some (watch true) }
    let driving := s.setLink { s.link with drive := .wakePulse, wakePending := true }
    (∀ l ∈ [4000, 6000], (after (exec (.pulseEnd l 0) s)).sfe.watch = some (watch false)
        ∧ (after (exec (.wakePulseRelease (some l) 0) driving)).sfe.watch = some (watch false))
      ∧ s.modeCtl.wakeCause = true ∧ driving.modeCtl.mode = .standby ∧ s.link.drive ≠ .wakePulse := by decide +kernel

/-- Each state in which no frame may start. -/
theorem witness_FrameStartTakesLowestKind_barred :
    let s := (sampleState .active .on 0).queued [waiting .state false]
    ∀ t ∈ [s.strapped 0, s.strapped 7, s.setLink { s.link with fence := .running 0 },
        s.setLink { s.link with stuck := .running 0 }, s.setLink { s.link with wakePending := true },
        s.setModeCtl { s.modeCtl with mode := .watch }, s.setModeCtl { s.modeCtl with mode := .standby },
        s.setLink { s.link with drive := .frame [0] }, s.queued [waiting .state true]], ¬ t.MaySend := by
  unfold State.MaySend; decide

/-- A STATE before a DEPART before a second DEPART; a queue with nothing eligible. -/
theorem witness_FrameStartTakesLowestKind :
    let s := (sampleState .active .on 0).queued [waiting .state false, waiting .depart false, waiting .depart false]
    let blocked := ((sampleState .active .on 0).queued [waiting .claim false]).setLink
      { State.reset.link with txq := [waiting .claim false], selfSlot := some ⟨sampleClaim false, 3⟩ }
    s.MaySend ∧ blocked.MaySend
      ∧ s.link.txq = [waiting .state false] ++ waiting .depart false :: [waiting .depart false]
      ∧ s.link.Eligible (waiting .depart false)
      ∧ (∀ x ∈ [waiting .state false], s.link.Eligible x → (waiting .depart false).kind.code < x.kind.code)
      ∧ (∀ x ∈ [waiting .depart false], s.link.Eligible x → (waiting .depart false).kind.code ≤ x.kind.code)
      ∧ ∀ x ∈ blocked.link.txq, ¬ blocked.link.Eligible x := by
  refine ⟨?_, ?_, by decide, ?_, ?_, ?_, ?_⟩
  · unfold State.MaySend; decide
  · unfold State.MaySend; decide
  all_goals unfold Link.Eligible; decide

/-- The middle one of three entries is being sent: a DEPART; a CLAIM, void and not, of a record that claims; a STATE
with newer content; a SLEEP_PROPOSE with no window open; and mismatch runs below and at the limit. -/
theorem witness_TransmissionsCutOff :
    let q (e : TxEntry) : List TxEntry := [waiting .alert false, e, waiting .state false]
    (∀ e ∈ [waiting .depart true, { waiting .claim true with claim := some (sampleClaim false) },
          { waiting .claim true with claim := some (sampleClaim true) },
          { waiting .state true with newer := some [1, 2, 3, 4, 5, 6] }, waiting .sleepPropose true],
        (((sampleState .active .on 20).seating claimer).queued (q e)).Sends [waiting .alert false] e
          [waiting .state false])
      ∧ (∀ k, (waiting .depart true).claim = some k → k.voided = false) ∧ (sampleClaim true).voided = true
      ∧ (waiting .depart true).newer = none ∧ (sampleClaim false).voided = false
      ∧ (waiting .sleepPropose true).newer = none ∧ (sampleState .active .on 20).modeCtl.window = none
      ∧ (((sampleState .active .on 20).seating claimer).queued []).recordAt 0 = some claimer
      ∧ claimer.id = (sampleClaim false).id ∧ claimer.origin = .claiming (leaver 4)
      ∧ (leaver 4).tag = (sampleClaim false).tag
      ∧ (∀ q' r', ((sampleState .active .on 20).seating claimer).recordAt q' = some r' → r'.id = (sampleClaim false).id →
          q' = 0)
      ∧ 6 + 1 < 8 ∧ 8 ≤ 7 + 1 := by
  refine ⟨by unfold State.Sends; decide +kernel, fun k h => ?_, by decide, by decide, by decide, by decide, by decide,
    by decide, by decide, by decide, by decide, fun q' r' h _ => (seating_only _ _ _ _ _ _ h).1, by decide, by decide⟩
  simp [waiting] at h

/-- The frames whose sending tells its owner something, each as the one being sent; the last ALERT of an alert. -/
theorem witness_SentFrameIsNumbered :
    let last : TxEntry := ⟨.alert, alertPayload 0 .adult 60, true, none, none⟩
    let r : Record := { sampleRecord with alert := .active 60 (.running 9) }
    (∀ e ∈ [waiting .depart true, { waiting .claim true with claim := some (sampleClaim false) },
          { waiting .state true with newer := some [1, 2, 3, 4, 5, 6] }, waiting .sleepPropose true, last,
          waiting .alert true],
        ∀ mode ∈ [Mode.active, .watch, .service],
        (((sampleState mode .off 0).seating r).queued [waiting .alert false, e]).Sends [waiting .alert false] e [])
      ∧ ((sampleState .active .off 0).seating r).recordAt 0 = some r ∧ r.alert = .active 60 (.running 9)
      ∧ last.payload = alertPayload 0 .adult 60 ∧ (byteAt (waiting .alert true).payload 1).toNat ≠ 60
      ∧ alertPos last.payload = 0 ∧ sampleRecord.alert = .none ∧ last.newer = none
      ∧ (sampleState .service .off 0).refusalReason = some .service
      ∧ ((sampleState .active .off 0).setModeCtl { State.reset.modeCtl with idle := .running 5000 }).refusalReason = none
      := by
  unfold State.Sends; decide +kernel

/-- A pending pulse on a free line; the pulse being driven, in STANDBY with a cause and in ACTIVE. -/
theorem witness_OwnWakePulse :
    let pending := State.reset.setLink { State.reset.link with wakePending := true }
    let driving (mode : Mode) (cause : Bool) : State :=
      ((sampleState mode .off 0).setLink { State.reset.link with drive := .wakePulse }).setModeCtl
        { State.reset.modeCtl with mode, wakeCause := cause }
    pending.powered = true ∧ pending.validStraps = true ∧ pending.link.wakePending = true
      ∧ pending.link.fence = .stopped ∧ pending.link.stuck = .stopped ∧ pending.link.drive = .released
      ∧ (driving .standby true).link.drive = .wakePulse ∧ (driving .standby true).modeCtl.mode = .standby
      ∧ (driving .standby true).modeCtl.wakeCause = true
      ∧ ¬ ((driving .active false).modeCtl.mode = .standby ∧ (driving .active false).modeCtl.wakeCause = true)
      ∧ (∀ l ∈ [1501, 3999, 6001, 10001], 1500 < l ∧ (l < 4000 ∨ 6000 < l))
      ∧ (∀ l ∈ [4000, 6000], 1500 < l ∧ 4000 ≤ l ∧ l ≤ 6000) ∧ 10000 ≤ 10000 := by decide

/-- A frame of each class from stations 0, 2, 13 and 14; a SERVICE frame addressed here and elsewhere; a class with 1
and 2 frames and 3 and 4 shared places in use. -/
theorem witness_AcceptedFrameIsQueued :
    (∀ kind ∈ [FrameKind.depart, .state, .diagReply, .sleepPropose, .diagQuery], ∀ n ∈ ([0, 2, 13, 14] : List StationNo),
        readFrame (frameCells (headerByte kind n) (List.replicate kind.payloadLength 1))
            = .frame kind (headerByte kind n) (List.replicate kind.payloadLength 1)
                (crc (headerByte kind n :: List.replicate kind.payloadLength 1))
          ∧ headerStation (headerByte kind n) = n ∧ ¬ (State.reset.validStraps = true ∧ n = State.reset.station))
      ∧ State.reset.powered = true ∧ State.reset.modeCtl.mode ≠ .standby ∧ State.reset.link.drive = .released
      ∧ (State.reset.validStraps = true ∧ (13 : StationNo) = 13 ∧ (byteAt [1, 1, 1, 1] 0).toNat = State.reset.station.toNat)
      ∧ ¬ (State.reset.validStraps = true ∧ (13 : StationNo) = 13
          ∧ (byteAt [2, 1, 1, 1] 0).toNat = State.reset.station.toNat)
      ∧ (State.reset.hearing [heard .depart 2 []]).link.classCount .event < 2
      ∧ 2 ≤ (State.reset.hearing (List.replicate 2 (heard .depart 2 []))).link.classCount .event
      ∧ (State.reset.hearing (List.replicate 5 (heard .state 2 []))).link.sharedInUse < 4
      ∧ 4 ≤ (State.reset.hearing (List.replicate 6 (heard .state 2 []))).link.sharedInUse := by decide +kernel

/-- A frame with a bad check, a frame that breaks off, one cut off by a long dominant, and two with the own number, one of
them a SLEEP_PROPOSE; in STANDBY and not. -/
theorem witness_BadFramesAreReported :
    let own := frameCells (headerByte .rowRelease 1) []
    let bad := startCell :: ((([0x45, 0xDD] : List Byte).flatMap bitsOf).map cellOfBit)
    readFrame bad = .frame .rowRelease 0x45 [] 0xDD ∧ (0xDD : Byte) ≠ crc [0x45] ∧ bad ≠ []
      ∧ readFrame (own.take 12) = .form [0x41] ∧ readFrame (own.take 9 ++ [⟨40, 39⟩]) = .cutByPulse
      ∧ readFrame own = .frame .rowRelease 0x41 [] (crc [0x41]) ∧ headerStation 0x41 = State.reset.station
      ∧ readFrame (frameCells (headerByte .sleepPropose 1) []) = .frame .sleepPropose 0x81 [] (crc [0x81])
      ∧ headerStation 0x81 = State.reset.station
      ∧ State.reset.validStraps = true ∧ State.reset.powered = true ∧ State.reset.modeCtl.mode ≠ .standby
      ∧ (sampleState .standby .off 0).modeCtl.mode = .standby ∧ (sampleState .standby .off 0).powered = true
      ∧ State.reset.link.drive = .released ∧ (sampleState .standby .off 0).link.drive = .released := by decide +kernel

/-- A queue of 5 and of 6, with a STATE waiting, being sent and absent, with a DIAG_REPLY waiting and absent. -/
theorem witness_TransmitQueueTakes :
    let five := List.replicate 5 (waiting .alert false)
    State.reset.validStraps = true ∧ (State.reset.strapped 0).validStraps = false
      ∧ (State.reset.queued five).link.txq.length < 6
      ∧ 6 ≤ (State.reset.queued (waiting .alert false :: five)).link.txq.length
      ∧ (∀ sending ∈ [true, false],
          ∃ x ∈ (State.reset.queued (waiting .state sending :: five)).link.txq, x.kind = .state)
      ∧ (∀ x ∈ (State.reset.queued five).link.txq, x.kind ≠ .state)
      ∧ (State.reset.queued (waiting .state false :: five)).link.txq = [] ++ waiting .state false :: five
      ∧ (State.reset.queued (waiting .diagReply false :: five)).link.txq = [] ++ waiting .diagReply false :: five
      ∧ (∀ y ∈ (State.reset.queued (waiting .state true :: five)).link.txq, y.kind ≠ .state ∨ y.sending = true)
      ∧ ∀ y ∈ (State.reset.queued (waiting .diagReply true :: five)).link.txq,
          y.kind ≠ .diagReply ∨ y.sending = true := by decide

theorem witness_FrameReadsBack :
    ∀ kind ∈ [FrameKind.sleepRefuse, .claim, .depart, .rowRelease, .alert, .vehicle, .state, .sleepPropose, .diagQuery,
      .diagReply, .config], (List.replicate kind.payloadLength (0xA5 : Byte)).length = kind.payloadLength := by decide

/-! ### Witnesses: messages, vehicle data, modes -/

theorem witness_EmissionTimerPlacesState :
    let s := State.reset.setEmission { State.reset.emission with timer := .running 200 }
    s.powered = true ∧ s.emission.timer = .running 200 ∧ s.validStraps = true ∧ s.link.txq.length < 6
      ∧ (s.queued (List.replicate 5 (waiting .alert false))).link.txq.length < 6
      ∧ (∃ x ∈ (s.queued (waiting .state false :: List.replicate 5 (waiting .alert false))).link.txq, x.kind = .state)
      ∧ 6 ≤ (s.queued (List.replicate 6 (waiting .alert false))).link.txq.length
      ∧ (∀ x ∈ (s.queued (List.replicate 6 (waiting .alert false))).link.txq, x.kind ≠ .state)
      ∧ (s.strapped 0).validStraps = false ∧ (sampleState .service .off 0).modeCtl.mode = .service
      ∧ 199 < 200
      ∧ (s.setEmission { s.emission with timer := .running 199 }).emission.timer = .running 199 := by decide

/-- A report that differs from the last placed content, the same with the mark set, and one that does not; the queue full
with and without a STATE; duty held and not; a record of each kind, a securing state, and neither. -/
theorem witness_CompletionReports :
    let six := List.replicate 6 (waiting .alert false)
    let last (content : Option (List Byte)) (placedMark : Bool) : State :=
      State.reset.setEmission { State.reset.emission with lastPlaced := content, placedMark }
    State.reset.modeCtl.mode = .active ∧ (last none false).emission.lastPlaced ≠ some (last none false).buildReport
      ∧ (last none true).emission.placedMark = true
      ∧ (last (some State.reset.buildReport) false).emission.lastPlaced
          = some (last (some State.reset.buildReport) false).buildReport
      ∧ State.reset.validStraps = true ∧ (State.reset.strapped 7).validStraps = false
      ∧ 6 ≤ six.length ∧ (∀ x ∈ six, x.kind ≠ .state) ∧ (∃ x ∈ waiting .state true :: six, x.kind = .state)
      ∧ State.reset.holdsDuty = true ∧ (State.reset.strapped 1).holdsDuty = false
      ∧ (∀ kind ∈ [ReminderKind.occupant, .secure, .none],
          (State.reset.seating { sampleRecord with kind }).recordAt 0 = some { sampleRecord with kind })
      ∧ State.reset.recordAt 0 = none ∧ (State.reset.table.seats.get 0).securing = none
      ∧ (⟨.csEmpty, none, some .level1⟩ : Seat).securing = some .level1 := by decide +kernel

/-- Station 13 and another; each ignition code; speeds 250 and 251; doors open and closed, with and without the
acknowledgement; ignition to and from ON; a window open, refused here and not. -/
theorem witness_VehicleFrameTaken :
    (∀ first ∈ ([0x00, 0x40, 0x80, 0xC0, 0x04, 0x3C, 0x02, 0x3E] : List Byte), ∀ speed ∈ ([0, 250, 251, 255] : List Byte),
        ∀ n ∈ ([13, 2] : List StationNo), ∀ ignition ∈ [Ignition.off, .on],
        ((sampleState .active ignition 20).hearing [heard .vehicle n [first, speed]]).Handles
          (heard .vehicle n [first, speed]))
      ∧ (0xC0 : Byte).toNat / 64 = 3 ∧ (0x80 : Byte).toNat / 64 = 2 ∧ (0x40 : Byte).toNat / 64 = 1
      ∧ (0x02 : Byte).toNat / 2 % 2 = 1 ∧ (0x3C : Byte).toNat / 2 % 2 = 0 ∧ 0 < (0x3C : Byte).toNat / 4 % 16
      ∧ (⟨9, true⟩ : Window).refusedHere = true ∧ (⟨9, false⟩ : Window).refusedHere = false
      ∧ 0 < (0x04 : Byte).toNat / 4 % 16 ∧ (250 : Byte).toNat ≤ 250 ∧ 250 < (251 : Byte).toNat := by
  refine ⟨?_, by decide⟩
  unfold State.Handles; decide +kernel

/-- An age below the limit and at it, in each mode in which it runs. -/
theorem witness_VehicleDataIsLost :
    ∀ mode ∈ [Mode.active, .watch, .service], ∀ ignition ∈ [Ignition.off, .acc, .on], ∀ ageMs ∈ [1999, 2000],
      let s := sampleState mode ignition 20
      let t := s.setVehicle { s.vehicle with ageMs }
      t.powered = true ∧ t.vehicle.fresh = true ∧ t.modeCtl.mode ≠ .standby
        ∧ (t.vehicle.ageMs < 2000 ∨ 2000 ≤ t.vehicle.ageMs) := by decide

theorem witness_SleepFramesHandled :
    (∀ kind ∈ [FrameKind.sleepRefuse, .alert, .sleepPropose],
        ((sampleState .active .off 0).hearing [heard kind 2 (List.replicate kind.payloadLength 0)]).Handles
          (heard kind 2 (List.replicate kind.payloadLength 0)))
      ∧ (sampleState .active .off 0).modeCtl.window = none := by
  unfold State.Handles; decide +kernel

/-- An ALERT handled in an open window, refused here and not, with the idle timer running and stopped; the queue with 5, full
with a frame to displace, full without one, and at invalid straps. -/
theorem witness_SleepFramesHandled_window :
    let f := heard .alert 2 (List.replicate FrameKind.alert.payloadLength 0)
    let open_ (idle : Timer) (refusedHere : Bool) (q : List TxEntry) : State :=
      (((sampleState .active .off 0).setModeCtl { State.reset.modeCtl with idle, window := some ⟨9, refusedHere⟩ }).hearing
        [f]).queued q
    let six := List.replicate 6 (waiting .alert false)
    let displaced := waiting .diagReply false :: List.replicate 5 (waiting .alert false)
    (∀ q ∈ [[], six, displaced], ∀ idle ∈ [Timer.stopped, .running 9], ∀ refusedHere ∈ [true, false],
        (open_ idle refusedHere q).Handles f)
      ∧ (open_ (.running 9) false six).modeCtl.idle ≠ .stopped
      ∧ (open_ (.running 9) false six).modeCtl.window = some ⟨9, false⟩
      ∧ (open_ .stopped false six).modeCtl.idle = .stopped
      ∧ 6 ≤ six.length ∧ (∀ x ∈ six, ¬ (x.sending = false ∧ (x.kind = .state ∨ x.kind = .diagReply)))
      ∧ (∃ x ∈ displaced, x.sending = false ∧ (x.kind = .state ∨ x.kind = .diagReply))
      ∧ (State.reset.queued six).validStraps = true ∧ (State.reset.strapped 7).validStraps = false := by
  unfold State.Handles; decide +kernel

/-- The idle timer below T_idle and at it; a window open; an alert, or the latch open; a proposal queued and none; invalid
straps; the queue with 5. -/
theorem witness_SleepAgreementTimers_idle :
    let s := sampleState .active .off 0
    s.powered = true ∧ s.modeCtl.mode = .active ∧ s.modeCtl.window = none
      ∧ (∀ ms ∈ [29999, 30000],
          (s.setModeCtl { s.modeCtl with idle := .running ms }).modeCtl.idle = .running ms)
      ∧ 29999 < 1000 * s.config.running.tIdle ∧ 1000 * s.config.running.tIdle ≤ 30000
      ∧ (s.setModeCtl { s.modeCtl with window := some ⟨3, false⟩ }).modeCtl.window ≠ none
      ∧ (s.seating { sampleRecord with alert := .active 1 (.running 0) }).table.anyAlert = true
      ∧ (s.setSfe { s.sfe with latch := some .opened }).sfe.latch = some .opened
      ∧ s.table.anyAlert = false ∧ s.sfe.latch ≠ some .opened
      ∧ (∃ e ∈ (s.queued [waiting .sleepPropose true]).link.txq, e.kind = .sleepPropose)
      ∧ (∀ e ∈ (s.queued (List.replicate 5 (waiting .alert false))).link.txq, e.kind ≠ .sleepPropose)
      ∧ s.validStraps = true ∧ (s.queued (List.replicate 5 (waiting .alert false))).link.txq.length < 6
      ∧ (s.strapped 7).validStraps = false := by decide

/-- R165, R183: a full queue with a STATE or DIAG_REPLY that waits, and one where each is being sent or there is none. -/
theorem witness_SleepAgreementTimers_full :
    let full (e : TxEntry) : List TxEntry := e :: List.replicate 5 (waiting .alert false)
    let s (e : TxEntry) := (sampleState .active .off 0).queued (full e)
    (∀ e ∈ [waiting .state false, waiting .diagReply false],
        6 ≤ (s e).link.txq.length ∧ (∀ x ∈ (s e).link.txq, x.kind ≠ .sleepPropose)
          ∧ ∃ x ∈ (s e).link.txq, x.sending = false ∧ (x.kind = .state ∨ x.kind = .diagReply))
      ∧ (∀ e ∈ [waiting .state true, waiting .diagReply true, waiting .alert false],
        6 ≤ (s e).link.txq.length ∧ (∀ x ∈ (s e).link.txq, x.kind ≠ .sleepPropose)
          ∧ ∀ x ∈ (s e).link.txq, x.sending = true ∨ (x.kind ≠ .state ∧ x.kind ≠ .diagReply)) := by decide

/-- A window refused here, one with a reason, one with none; occupied and empty; outside ACTIVE. -/
theorem witness_SleepAgreementTimers :
    let quiet := (sampleState .active .off 0).setModeCtl
      { State.reset.modeCtl with idle := .running 5000, window := some ⟨200, false⟩, alone := .running 10000 }
    quiet.powered = true ∧ quiet.modeCtl.window = some ⟨200, false⟩ ∧ quiet.modeCtl.mode = .active
      ∧ quiet.refusalReason = none ∧ quiet.modeCtl.alone = .running 10000 ∧ 9999 < 10000
      ∧ (quiet.setModeCtl { quiet.modeCtl with idle := .running 4999 }).refusalReason ≠ none
      ∧ (quiet.setModeCtl { quiet.modeCtl with window := none }).refusalReason = none
      ∧ (⟨200, true⟩ : Window).refusedHere = true ∧ (⟨199, true⟩ : Window).ms < 200 ∧ (sampleState .service .off 0).modeCtl.mode ≠ .active
      ∧ (∃ p, ((quiet.seating sampleRecord).table.seats.get p).cls.isOccupant = true)
      ∧ ∀ p, (quiet.table.seats.get p).cls.isOccupant = false := by decide

/-- A small occupant left behind, with room for every first ALERT; an alert at counts 59 and 60. -/
theorem witness_WatchLimitsAndAlerts :
    let small : Record := { sampleRecord with cls := .small }
    let s := ((sampleState .watch .off 0).seating small).setModeCtl
      { State.reset.modeCtl with mode := .watch, watch := .running 3600000 }
    s.powered = true ∧ s.modeCtl.mode = .watch ∧ s.modeCtl.watch = .running 3600000 ∧ s.recordAt 0 = some small
      ∧ 119999 < 1000 * s.config.running.tLeft ∧ 1000 * s.config.running.tLeft ≤ 120000
      ∧ small.qualifies = true ∧ sampleRecord.qualifies = false
      ∧ (∀ n ∈ [59, 60],
          ((sampleState .active .off 0).seating { small with alert := .active n (.running 2000) }).recordAt 0
            = some { small with alert := .active n (.running 2000) })
      ∧ 59 < 60 ∧ s.validStraps = true ∧ (s.queued (List.replicate 2 (waiting .depart false))).link.txq.length ≤ 2
      := by decide

/-- The timers of WATCH and of an alert at their limits, and 1 ms below. -/
theorem witness_WatchLimitsAndAlerts_limits :
    (Timer.running 3600000).Reached 3600000 ∧ ¬ (Timer.running 3599999).Reached 3600000
      ∧ (Timer.running 2000).Reached 2000 ∧ ¬ (Timer.running 1999).Reached 2000 ∧ ¬ Timer.stopped.Reached 2000 := by
  simp [Timer.Reached]

/-- An alert that ends by its class, and one that goes on; a window open, refused here and not, with and without a
reason; a completion in ACTIVE. -/
theorem witness_CompletionMovesIdleAndAlerts :
    let r : Record := { sampleRecord with alert := .active 3 (.running 9) }
    let s := (sampleState .active .off 0).seating r
    let moved (t : State) (changed : Bool) (latch : LatchEvent) : State :=
      (t.endAlertsByClass.idleStep changed).latchReason latch
    let open_ (idle : Timer) (refusedHere : Bool) : State :=
      (sampleState .active .off 0).setModeCtl { State.reset.modeCtl with idle, window := some ⟨9, refusedHere⟩ }
    s.recordAt 0 = some r ∧ r.alert.isActive = true ∧ r.cls ≠ .small ∧ r.cls ≠ .csOccupied
      ∧ ((moved s false .none).recordAt 0).map Record.alert = some .none
      ∧ ((moved ((sampleState .active .off 0).seating { r with cls := .small }) true .none).recordAt 0).map
          Record.alert = some (.active 3 (.running 9))
      ∧ (moved (open_ (.running 9000) false) true .none).modeCtl.window = some ⟨9, true⟩
      ∧ (moved (open_ (.running 9000) false) true .none).link.txq = [newEntry .sleepRefuse [1] none]
      ∧ (moved (open_ (.running 9000) false) false (.changed .opened)).modeCtl.window = some ⟨9, false⟩
      ∧ (moved (open_ (.running 4999) false) false (.changed .opened)).modeCtl.window = some ⟨9, true⟩
      ∧ (moved (open_ (.running 9000) true) true .none).link.txq = []
      ∧ (moved (open_ (.running 9000) true) true .none).modeCtl.idle = .running 0
      ∧ (moved (open_ (.running 9000) true) false .none).modeCtl.idle = .running 9000
      ∧ (sweeping false).powered = true ∧ (sweeping false).sweep.flight = some (.periodic 0 false none 10)
      ∧ (sweeping false).modeCtl.mode = .active := by decide +kernel

/-- A completion in WATCH with the vacant run at 28 and 29, empty and occupied, with and without an own change. -/
theorem witness_WatchLimitsAndAlerts_completion :
    let s (run : Nat) : State := (sweeping false).setModeCtl { State.reset.modeCtl with mode := .watch, vacantRun := run }
    (∀ run ∈ [28, 29], (s run).powered = true ∧ (s run).sweep.flight = some (.periodic 0 false none 10)
        ∧ (s run).modeCtl.mode = .watch)
      ∧ (s 28).vacantStep.modeCtl.vacantRun = 29 ∧ (s 28).vacantStep.modeCtl.mode = .watch
      ∧ (s 29).vacantStep.modeCtl.mode = .standby
      ∧ ((s 29).seating sampleRecord).vacantStep.modeCtl.vacantRun = 0
      ∧ ((s 29).wakeOthers true).modeCtl.mode = .active ∧ ((s 29).wakeOthers false).modeCtl.mode = .watch := by
  decide +kernel

/-! ### Witnesses: diagnosis -/

/-- Every item and argument can be asked; the captures in each state, a position with each view and origin, stations 0,
1, 13 and 14, items of the configuration and none, and item codes 0 and 11. -/
theorem witness_ReadQueriesAnswer :
    (∀ item arg : Byte, (State.reset.hearing [query item arg]).Asked (query item arg) item.toNat arg.toNat)
      ∧ State.reset.diag.meas = .empty ∧ State.reset.diag.link = .empty
      ∧ (∀ lost, ∀ r : MeasReport, (State.reset.setDiag { State.reset.diag with meas := .locked r lost }).diag.meas
          = .locked r lost)
      ∧ Nat.testBit 18 4 = true ∧ 18 % 4 = 2 ∧ Nat.testBit 2 4 = false ∧ 3 % 4 = 3
      ∧ (State.reset.table.seats.get 0).cls ≠ .absent ∧ ((State.reset.classed .absent).table.seats.get 0).cls = .absent
      ∧ (∀ r ∈ [sampleRecord, claimer, { sampleRecord with origin := .moved ⟨2, 1, 4⟩ }],
          (State.reset.seating r).recordAt 0 = some r)
      ∧ State.reset.recordAt 0 = none ∧ (State.reset.sfe.positions.get 0).tagView = .none
      ∧ State.reset.station.toNat = 1 ∧ Item.fitted.code = 1 ∧ Item.tLeft.code = 55 ∧ Item.ofCode 56 = none
      ∧ (∀ i : Item, (56 : Nat) ≠ i.code) := by
  refine ⟨fun item arg => hearing_asked _ item arg rfl rfl (by decide) rfl, rfl, rfl, fun _ _ => rfl, by decide,
    by decide, by decide, by decide, by decide, by decide, by decide, by decide, by decide, by decide, by decide,
    by decide, by decide, fun i => ?_⟩
  cases i <;> simp [Item.code] <;> omega

/-- Both captures; groups 0, 8, 9 and 10, with and without clear. -/
theorem witness_CountersAndCapturesClear :
    (∀ item arg : Byte, (State.reset.hearing [query item arg]).Asked (query item arg) item.toNat arg.toNat)
      ∧ State.reset.diag.counters.group 0 = some (0, 0) ∧ State.reset.diag.counters.group 8 = some (0, 0)
      ∧ Nat.testBit 136 7 = true ∧ 136 % 16 < 9 ∧ 9 % 16 = 9 ∧ 9 < 10 % 16 ∧ Nat.testBit 8 7 = false := by
  refine ⟨fun item arg => hearing_asked _ item arg rfl rfl (by decide) rfl, ?_⟩
  decide

/-- A van with the ignition ON, at 1 km/h and standing; SERVICE and not, with and without a commit. -/
theorem witness_ServiceEntryAndExit :
    (∀ s ∈ [sampleState .active .on 0, sampleState .active .off 1, sampleState .active .off 0, serving .stopped,
          serving (.running 19)], ∀ item arg : Byte,
        (s.hearing [query item arg]).Asked (query item arg) item.toNat arg.toNat)
      ∧ 0 < (sampleState .active .off 1).effSpeed ∧ (sampleState .active .off 0).effSpeed = 0
      ∧ (sampleState .active .on 0).vehicle.ignition = .on
      ∧ (serving .stopped).modeCtl.mode = .service
      ∧ (serving .stopped).powered = true
      ∧ (sampleState .active .off 0).modeCtl.mode ≠ .service
      ∧ ((sampleState .active .off 0).seating claimer).recordAt 0 = some claimer ∧ claimer.owns (sampleClaim false) = true
      ∧ (serving .stopped).diag.commit = .stopped ∧ (serving (.running 19)).diag.commit ≠ .stopped := by
  refine ⟨?_, by decide⟩
  simp only [List.mem_cons, List.not_mem_nil, or_false]
  rintro s (rfl | rfl | rfl | rfl | rfl) item arg <;> exact hearing_asked _ item arg rfl rfl (by decide) rfl

/-- The service timer at 300 s, and 1 ms below. -/
theorem witness_ServiceEntryAndExit_timer :
    (Timer.running 300000).Reached 300000 ∧ ¬ (Timer.running 299999).Reached 300000 := by
  simp [Timer.Reached]

/-- R209, R62: in SERVICE with a working copy of another fitted mask and join map than the running one, both ends of SERVICE
give the position numbers of the working copy. -/
theorem test_serviceExit_takesWorkingCopy :
    let old : Conf := { Conf.default with fittedMask := 15, joinMap := 0 }
    let new : Conf := { Conf.default with fittedMask := 7, joinMap := 1 }
    let s : State := { serving .stopped with
      config := { State.reset.config with running := old, working := new }
      diag := { State.reset.diag with service := .running 300000 } }
    let seats (t : State) : List Cls := [0, 1, 2, 3].map fun p => (t.table.seats.get p).cls
    ([0, 1, 2, 3].map (isPosition old) = [true, true, true, true])
      ∧ ([0, 1, 2, 3].map (isPosition new) = [true, false, true, false])
      ∧ seats (after (exec .serviceTimerExpiry s)) = [.unscanned, .absent, .unscanned, .absent]
      ∧ seats (after (exec .leaveService (s.hearing [query 9 0]))) = [.unscanned, .absent, .unscanned, .absent] := by
  decide +kernel

/-- Each argument of MEASURE and STORE, at an ABSENT position and another, in SERVICE and not, with and without a commit;
the commit's end, with and without a HALT that waits. -/
theorem witness_MeasureAndStore :
    (∀ s ∈ [sampleState .active .off 0, serving .stopped, serving (.running 19), (serving .stopped).classed .absent],
        ∀ item arg : Byte, (s.hearing [query item arg]).Asked (query item arg) item.toNat arg.toNat)
      ∧ 12 / 4 % 4 = 3 ∧ 8 / 4 % 4 = 2 ∧ ((serving .stopped).table.seats.get 0).cls ≠ .absent
      ∧ (((serving .stopped).classed .absent).table.seats.get 0).cls = .absent
      ∧ (serving (.running 20)).powered = true ∧ (serving (.running 20)).diag.commit ≠ .stopped
      ∧ (serving (.running 20)).diag.haltWaiting = false
      ∧ ((serving (.running 20)).setDiag { (serving (.running 20)).diag with haltWaiting := true }).diag.haltWaiting
          = true := by
  refine ⟨?_, by decide⟩
  simp only [List.mem_cons, List.not_mem_nil, or_false]
  rintro s (rfl | rfl | rfl | rfl) item arg <;> exact hearing_asked _ item arg rfl rfl (by decide) rfl

/-- Every item and value can be written; join maps 5, 8 and the pairs that share a channel, masks 15 and 16, a gain,
thresholds that meet and pass the other of their pair, and no item. -/
theorem witness_ConfigWritesWorkingCopy :
    (∀ s ∈ [sampleState .active .off 0, serving .stopped, serving (.running 19)], ∀ item hi lo : Byte,
        (s.hearing [setting item hi lo]).Handles (setting item hi lo))
      ∧ joinsGood Conf.default.fittedMask 5 = true ∧ joinsGood Conf.default.fittedMask 3 = false
      ∧ joinsGood 7 4 = false ∧ joinsGood 15 Conf.default.joinMap = true ∧ joinsGood 16 Conf.default.joinMap = true
      ∧ Item.tObjOff.onOf = some .tObjOn ∧ Item.tObjOn.offOf = some .tObjOff ∧ (Item.gain 0).code = 16
      ∧ (Item.gain 0).onOf = none ∧ (Item.gain 0).offOf = none
      ∧ Conf.default.tObjOff ≤ min 2000 30 ∧ min 2000 29 < Conf.default.tObjOff
      ∧ ∀ i : Item, (0 : Nat) ≠ i.code := by
  refine ⟨?_, by decide, by decide, by decide, by decide, by decide, by decide, by decide, by decide, by decide,
    by decide, by decide, by decide, fun i => ?_⟩
  · simp only [List.mem_cons, List.not_mem_nil, or_false]
    rintro s (rfl | rfl | rfl) item hi lo <;> exact hearing_handles _ _ rfl rfl (by decide) rfl rfl
  · cases i <;> simp [Item.code] <;> omega

/-! ### Witnesses: what every step keeps -/

/-- A step with a command in front answers a next state. -/
theorem step_of_fenceEnd (s : State) (h : s.pending = [.fenceEnd]) : ∃ t, step s = .next t := by
  simp only [step, h]
  exact ⟨_, rfl⟩

/-- The full transmit queue. -/
theorem witness_LinkQueuesStayBounded_tx :
    let s := { State.reset.queued (waiting .state false :: List.replicate 5 (waiting .alert false)) with
      pending := [.fenceEnd] }
    s.link.TxBounded ∧ ∃ t, step s = .next t :=
  ⟨by unfold Link.TxBounded; decide, step_of_fenceEnd _ rfl⟩

/-- The full receive queue, with the self slot. -/
theorem witness_LinkQueuesStayBounded_rx :
    let q := List.replicate 6 (heard .depart 2 []) ++ List.replicate 2 (heard .state 2 [])
      ++ List.replicate 2 (query 1 0)
    let s := { State.reset.setLink { State.reset.link with rxq := q, selfSlot := some ⟨sampleClaim false, 3⟩ } with
      pending := [.fenceEnd] }
    s.link.RxBounded ∧ ∃ t, step s = .next t :=
  ⟨⟨by decide, fun c => by cases c <;> decide, by decide, by decide⟩, step_of_fenceEnd _ rfl⟩

/-- A full list beside a claiming record. -/
theorem witness_DepartureTagsStayUnique :
    let s := { (State.reset.seating claimer).listing [leaver 10, leaver 11, leaver 12, leaver 13, leaver 14, leaver 15,
      leaver 16, leaver 17] with pending := [.fenceEnd] }
    (ListBounded s.departures ∧ s.TagsOnce) ∧ ∃ t, step s = .next t :=
  ⟨by unfold ListBounded State.TagsOnce; decide, step_of_fenceEnd _ rfl⟩

/-- A record at its class, and chime time used at the limit. -/
theorem witness_RecordsStayFitting_LaddersStayWithin :
    let s := { (sampleState .active .on 20).seating { sampleRecord with chimeUsed := 90 } with pending := [.fenceEnd] }
    s.RecordsFit ∧ s.ChimeWithin ∧ ∃ t, step s = .next t := by
  refine ⟨fun p => ⟨?_, fun r h => ?_⟩, fun p r h => ?_, step_of_fenceEnd _ rfl⟩
  · revert p; decide
  · obtain ⟨rfl, rfl⟩ := seating_only _ _ _ _ _ _ h; rfl
  · obtain ⟨rfl, rfl⟩ := seating_only _ _ _ _ _ _ h; decide

/-- A reminder at LEVEL_1 with its timer and its lamp. -/
theorem witness_LaddersStayWithin_OutputsStayJustified :
    let r : Record := { sampleRecord with level := .level1, escalation := .running 10 }
    let s := { (sampleState .active .on 20).seating r with
      pending := [.fenceEnd], lamps := ⟨.steady, .off, .off, .off⟩ }
    s.LaddersDue ∧ s.LampsShow ∧ ∃ t, step s = .next t := by
  refine ⟨fun p => ⟨fun r h => ?_, fun l h => ?_⟩, fun _ p => ?_, step_of_fenceEnd _ rfl⟩
  · obtain ⟨rfl, rfl⟩ := seating_only _ _ _ _ _ _ h
    exact ⟨by unfold Record.TimersFit; decide, by decide⟩
  · revert h; fin_cases p <;> simp [State.seating, sampleState, State.reset, Four.set, Four.get, Four.const]
  · fin_cases p <;> trivial

/-- A LEVEL_2 in view with the chime on; a station without duty. -/
theorem witness_OutputsStayJustified :
    let row : ViewRow := .filled false (Four.const ⟨.adult, .level2⟩)
    let s := { (sampleState .active .on 20).setDuty { State.reset.duty.setRow 2 row with chime := true } with
      pending := [.fenceEnd] }
    let u := { (sampleState .active .on 20).strapped 1 with pending := [.fenceEnd] }
    (s.ChimeJustified ∧ s.ViewKept ∧ ∃ t, step s = .next t) ∧ u.ViewKept ∧ u.holdsDuty = false := by
  refine ⟨⟨by unfold State.ChimeJustified; decide, by unfold State.ViewKept; decide, step_of_fenceEnd _ rfl⟩, ?_, by decide⟩
  unfold State.ViewKept; decide

/-- Filtered load and baselines at the ends of their ranges. -/
theorem witness_CountersAndBaselinesStayBounded_baselines :
    let k := State.reset.classes.c0
    let low : ClsState := { k with b16 := 724 * 16, pb16 := 624 * 16, lf := 8000 }
    let high : ClsState := { k with b16 := 1324 * 16, pb16 := 1424 * 16, lf := 0 }
    let s := { State.reset with classes := ⟨low, high, low, high⟩, pending := [.fenceEnd] }
    s.ClassifierIn ∧ ∃ t, step s = .next t :=
  ⟨fun p => by fin_cases p <;> decide, step_of_fenceEnd _ rfl⟩

/-- Counters at their limit, at sweep count 65535. -/
theorem witness_CountersAndBaselinesStayBounded :
    let k := { State.reset.diag.counters with framesSent := 65535, softFaults := 65535 }
    let s := { (State.reset.setDiag { State.reset.diag with counters := k }).setSweep
      { State.reset.sweep with count := 65535, testCounter := 63 } with pending := [.fenceEnd] }
    (s.diag.counters.Bounded ∧ s.sweep.InStep) ∧ ∃ t, step s = .next t :=
  ⟨by unfold Counters.Bounded SweepCtl.InStep; decide, step_of_fenceEnd _ rfl⟩

/-- ACTIVE with the ignition OFF, and a quiet STANDBY. -/
theorem witness_ModeTimersStayInMode :
    let a := { sampleState .active .off 0 with pending := [.fenceEnd] }
    let b := { (((sampleState .standby .off 0).setModeCtl
        { State.reset.modeCtl with mode := .standby, idle := .stopped, alone := .stopped }).setSweep
      { State.reset.sweep with period := .stopped }).setEmission { State.reset.emission with restarted := .stopped } with
      pending := [.fenceEnd] }
    ((a.IdleRuns ∧ a.StandbyQuiet) ∧ ∃ t, step a = .next t) ∧ (b.IdleRuns ∧ b.StandbyQuiet) ∧ ∃ t, step b = .next t :=
  ⟨⟨by unfold State.IdleRuns State.StandbyQuiet; decide, step_of_fenceEnd _ rfl⟩,
    by unfold State.IdleRuns State.StandbyQuiet; decide, step_of_fenceEnd _ rfl⟩

end Sys2Proof.Machine
end

namespace Sys2Proof.Machine

/-! ### Fault runs and captures (R5, R202) -/

section FaultRuns

variable (count hardAfter clearsAfter : Nat) (f : FaultRun)

theorem judge_observation_of_clear :
    FaultRun.judge ⟨false, count⟩ hardAfter clearsAfter .observation
      = if hardAfter ≤ count + 1 then ⟨true, 0⟩ else ⟨false, count + 1⟩ := rfl

theorem judge_observation_of_hard : FaultRun.judge ⟨true, count⟩ hardAfter clearsAfter .observation = ⟨true, 0⟩ := rfl

theorem judge_pass_of_clear : FaultRun.judge ⟨false, count⟩ hardAfter clearsAfter .pass = ⟨false, 0⟩ := rfl

theorem judge_pass_of_hard :
    FaultRun.judge ⟨true, count⟩ hardAfter clearsAfter .pass
      = if clearsAfter ≤ count + 1 then ⟨false, 0⟩ else ⟨true, count + 1⟩ := rfl

theorem judge_skip : f.judge hardAfter clearsAfter .skip = f := by
  cases h : f.hard <;> simp [FaultRun.judge]

theorem reported_observation_of_clear :
    FaultRun.reported ⟨false, count⟩ hardAfter .observation
      = if hardAfter ≤ count + 1 then some .hard else if count = 0 then some .soft else none := rfl

theorem reported_observation_of_hard : FaultRun.reported ⟨true, count⟩ hardAfter .observation = none := rfl

@[simp] theorem reported_pass : f.reported hardAfter .pass = none := by
  cases h : f.hard <;> simp [FaultRun.reported]

@[simp] theorem reported_skip : f.reported hardAfter .skip = none := by
  cases h : f.hard <;> simp [FaultRun.reported]

end FaultRuns

/-- R202: a report of this severity moves SOFT_FAULTS so. -/
theorem softReport_eq (k : Counters) (severity : Severity) :
    k.softReport severity = { k with
      softFaults := if severity = .hard then k.softFaults
        else if k.softFaults < 65535 then k.softFaults + 1 else 65535 } := by
  cases severity <;> rfl

/-- Settles O5: the equations of the fault run, and one case for each row of the capture's table. -/
theorem faultTables : Obligations.FaultTables := by
  refine ⟨fun count hardAfter clearsAfter => ?_, fun ρ x held lost severity => ?_, fun d r => ?_, fun d r => ?_⟩
  · refine ⟨fun h => ?_, fun h => ?_, judge_observation_of_hard _ _ _, judge_pass_of_clear _ _ _, fun h => ?_,
      fun h => ?_, fun _ => judge_skip _ _ _, ?_, fun h => ?_, reported_observation_of_hard _ _,
      fun _ => reported_pass _ _, fun _ => reported_skip _ _⟩
    · rw [judge_observation_of_clear, if_neg (by omega)]
    · rw [judge_observation_of_clear, if_pos h]
    · rw [judge_pass_of_hard, if_neg (by omega)]
    · rw [judge_pass_of_hard, if_pos h]
    · simp [reported_observation_of_clear]
    · simp [reported_observation_of_clear, Nat.ne_of_gt h]
  · refine ⟨rfl, rfl, rfl, rfl, ?_⟩
    cases severity <;> rfl
  · simp only [Diag.reportMeas, softReport_eq]
  · simp only [Diag.reportLink, softReport_eq]

/-! ### The state after reset -/

theorem reset_seats_get (p : Pos) : State.reset.table.seats.get p = ⟨.unscanned, none, none⟩ := by
  simp [State.reset]

theorem reset_recordAt (p : Pos) : State.reset.recordAt p = none := by
  simp [State.recordAt, reset_seats_get]

theorem reset_lamps_get (p : Pos) : State.reset.lamps.get p = .off := by
  simp [State.reset]

theorem reset_link_txBounded : State.reset.link.TxBounded := by
  simp [Link.TxBounded, State.reset]

theorem reset_link_rxBounded : State.reset.link.RxBounded := by
  simp [Link.RxBounded, Link.sharedInUse, Link.classCount, Link.held, State.reset]

theorem reset_heldTags : State.reset.heldTags = [] := by
  simp [State.heldTags, reset_recordAt]

theorem reset_tagsOnce : State.reset.TagsOnce := by
  rw [State.TagsOnce, reset_heldTags]
  simp [State.reset]

theorem reset_recordsFit : State.reset.RecordsFit := fun p =>
  ⟨by rw [reset_recordAt, reset_seats_get]; rfl, by simp [reset_recordAt]⟩

theorem reset_chimeWithin : State.reset.ChimeWithin := by
  simp [State.ChimeWithin, reset_recordAt]

theorem reset_laddersDue : State.reset.LaddersDue := fun p =>
  ⟨by simp [reset_recordAt], by simp [reset_seats_get]⟩

theorem reset_lampsShow : State.reset.LampsShow := by
  intro _ p
  rw [reset_lamps_get, reset_seats_get]
  simp [Seat.level, Lamp.Shows]

theorem reset_classifierIn : State.reset.ClassifierIn := by
  intro p
  simp [State.reset, Conf.default]

theorem reset_idleRuns : State.reset.IdleRuns := by
  unfold State.IdleRuns; decide

theorem reset_store_notGood : State.reset.config.store.good = false := by
  decide

/-- R196: without a commit that runs, POWER_ON is the power-on state on the store as it stands. -/
theorem powerOn_of_noCommit {s : State} (h : s.diag.commit = .stopped) (pins : BitVec 5) :
    exec (.powerOn pins) s = .next (powerOnState s.pending s.freeCount s.config.store pins) := by
  have hc : s.cutCommit = s := by simp [State.cutCommit, h, Timer.isRunning]
  show execPowerOn pins s = _
  rw [execPowerOn, hc]

theorem bootConf_reset : bootConf State.reset.config.store = Conf.default := by
  simp [bootConf, reset_store_notGood]

theorem powerOnState_reset :
    powerOnState State.reset.pending State.reset.freeCount State.reset.config.store State.reset.straps = State.reset := by
  rw [powerOnState, bootConf_reset, reset_store_notGood]
  rfl

/-- Settles O53: each invariant read off the reset values, and POWER_ON on the blank store. -/
theorem resetMeetsInvariants : Obligations.ResetMeetsInvariants := by
  refine ⟨reset_link_txBounded, reset_link_rxBounded, ?_, reset_tagsOnce, reset_recordsFit, reset_chimeWithin,
    reset_laddersDue, reset_lampsShow, ?_, ?_, ?_, ?_, reset_idleRuns, ?_, reset_classifierIn, ?_⟩
  · simp [ListBounded, State.reset]
  · simp [State.ChimeJustified, State.reset]
  · simp [State.ViewKept, State.reset]
  · simp [Counters.Bounded, State.reset]
  · simp [SweepCtl.InStep, State.reset]
  · simp [State.StandbyQuiet, State.reset]
  · rw [powerOn_of_noCommit rfl, powerOnState_reset]

end Sys2Proof.Machine

namespace Sys2Proof.Machine

/-! ### The standby watch (R22, R194) -/

/-- R13: the BUCKLED band by its ends. -/
theorem bandOf_beq_buckled (ratio : Byte) :
    (bandOf ratio == .buckled) = decide (20 ≤ ratio.toNat ∧ ratio.toNat ≤ 99) := by
  rw [Bool.eq_iff_iff, beq_iff_eq, decide_eq_true_eq]
  unfold bandOf
  dsimp only
  repeat' split
  all_goals simp
  all_goals omega

/-- R22: a watched buckle input differs from its reference now. -/
def BuckleWatch.Differs (b : BuckleWatch) (ratio : Byte) : Prop :=
  b.reference ≠ decide (20 ≤ ratio.toNat ∧ ratio.toNat ≤ 99)

/-- R22: a latch reading differs from the reference of the watch, where there is one. -/
def StandbyWatch.LatchDiffers (w : StandbyWatch) (reading : Latch) : Prop :=
  ∃ level, w.latch = some level ∧ level ≠ reading

/-- A watched buckle input hands on a cause exactly at its second difference running. -/
theorem buckleSample_snd (b : BuckleWatch) (ratio : Byte) :
    (b.sample ratio).2 = true ↔ b.differed = true ∧ b.Differs ratio := by
  rw [BuckleWatch.sample, BuckleWatch.Differs, bandOf_beq_buckled, Bool.and_eq_true, bne_iff_ne, ne_comm, and_comm]

/-- Short of a cause, a watched buckle input is marked exactly where it differs now. -/
theorem buckleSample_fst (b : BuckleWatch) (ratio : Byte) (h : ¬ (b.differed = true ∧ b.Differs ratio)) :
    (b.sample ratio).1 = ⟨b.reference, decide (b.reference ≠ decide (20 ≤ ratio.toNat ∧ ratio.toNat ≤ 99))⟩ := by
  rw [BuckleWatch.Differs] at h
  rw [BuckleWatch.sample, bandOf_beq_buckled]
  generalize decide (20 ≤ ratio.toNat ∧ ratio.toNat ≤ 99) = reading at *
  obtain ⟨reference, differed⟩ := b
  revert reference differed reading
  decide

/-- R22: one sample of all inputs hands on a cause exactly where one of them differs for the second time running. -/
theorem watchSample_snd (w : StandbyWatch) (ratios : Four Byte) (reading : Latch) :
    (w.sample ratios reading).2 = true
      ↔ (∃ p b, w.buckles.get p = some b ∧ b.differed = true ∧ b.Differs (ratios.get p))
        ∨ (w.latchDiffered = true ∧ w.LatchDiffers reading) := by
  have hbuckles : (positionsInOrder.any fun p => ((w.buckles.get p).map fun b => b.sample (ratios.get p)).any Prod.snd)
      = true ↔ ∃ p b, w.buckles.get p = some b ∧ b.differed = true ∧ b.Differs (ratios.get p) := by
    simp [List.any_eq_true, mem_positionsInOrder, Option.any_eq_true, buckleSample_snd]
  have hlatch : (reading != w.latch.getD reading && w.latchDiffered) = true
      ↔ w.latchDiffered = true ∧ w.LatchDiffers reading := by
    rw [Bool.and_eq_true, bne_iff_ne, and_comm, StandbyWatch.LatchDiffers]
    cases w.latch <;> simp [ne_comm]
  rw [StandbyWatch.sample, Bool.or_eq_true, hbuckles, hlatch]

/-- A sample leaves every watched buckle input with its reference. -/
theorem watchSample_buckles (w : StandbyWatch) (ratios : Four Byte) (reading : Latch) (p : Pos) :
    (w.sample ratios reading).1.buckles.get p = (w.buckles.get p).map fun b => (b.sample (ratios.get p)).1 := by
  simp [StandbyWatch.sample, Function.comp_def]

/-- The first sample gives an absent latch reference its level. -/
theorem watchSample_latch_of_none (w : StandbyWatch) (ratios : Four Byte) (reading : Latch) (h : w.latch = none) :
    (w.sample ratios reading).1.latch = some reading ∧ (w.sample ratios reading).1.latchDiffered = false := by
  simp [StandbyWatch.sample, h]

/-- A latch reference stands, and short of a cause it is marked exactly where LATCH differs from it now. -/
theorem watchSample_latch_of_some (w : StandbyWatch) (ratios : Four Byte) (reading level : Latch)
    (h : w.latch = some level) (hc : ¬ (w.latchDiffered = true ∧ w.LatchDiffers reading)) :
    (w.sample ratios reading).1.latch = some level
      ∧ ((w.sample ratios reading).1.latchDiffered = true ↔ level ≠ reading) := by
  have hd : w.LatchDiffers reading ↔ level ≠ reading := by simp [StandbyWatch.LatchDiffers, h]
  rw [hd] at hc
  refine ⟨by simp [StandbyWatch.sample, h], ?_⟩
  simp only [StandbyWatch.sample, h, Option.getD_some, Bool.and_eq_true, bne_iff_ne, Bool.not_eq_true', ne_comm (a := reading)]
  exact ⟨And.left, fun hne => ⟨hne, by simpa [hne] using hc⟩⟩

/-- In STANDBY with the watch armed, a sample is taken. -/
theorem standbyWatchSample_taken {s : State} {w : StandbyWatch} (hp : s.powered = true)
    (hm : s.modeCtl.mode = .standby) (hw : s.sfe.watch = some w) (ratios : Four Byte) (latchOpen : Bool)
    (pins : BitVec 5) :
    exec (.standbyWatchSample ratios latchOpen pins) s
      = .next (s.takeSample (w.sample ratios (latchLevel latchOpen)) pins) := by
  show execStandbyWatchSample ratios latchOpen pins s = _
  simp [execStandbyWatchSample, hp, hm, hw]

/-- R194: at valid straps a local wake cause is pending, with a WAKE pulse. -/
theorem localWakeCause_of_validStraps {s : State} (h : s.validStraps = true) (pins : BitVec 5) :
    s.localWakeCause pins
      = { s with modeCtl := { s.modeCtl with wakeCause := true }, link := { s.link with wakePending := true } } := by
  simp [State.localWakeCause, h, State.requestWake, State.setLink, State.setModeCtl]

/-- R194: at invalid straps a local wake cause wakes the station at once. -/
theorem localWakeCause_of_invalidStraps {s : State} (h : s.validStraps = false) (pins : BitVec 5) :
    s.localWakeCause pins = s.wake pins := by
  simp [State.localWakeCause, h]

/-- Settles O11: a sample hands on a cause exactly where the statement says one is raised; then by the straps, and else
by what a sample leaves of the watch. -/
theorem standbySamplesRaiseWake : Obligations.StandbySamplesRaiseWake := by
  intro s w ratios latchOpen pins raises hp hm hw hraises
  replace hraises : raises ↔ (w.sample ratios (latchLevel latchOpen)).2 = true :=
    hraises.trans (watchSample_snd w ratios _).symm
  have hexec := standbyWatchSample_taken hp hm hw ratios latchOpen pins
  constructor
  · intro hr
    rw [State.takeSample, if_pos (hraises.1 hr)] at hexec
    refine ⟨_, hexec, fun hv => ?_, fun hv => ?_⟩
    · rw [localWakeCause_of_validStraps (by exact hv)]
      rfl
    · rw [localWakeCause_of_invalidStraps (by exact hv)]
      exact ⟨rfl, rfl⟩
  · intro hr
    rw [hraises] at hr
    rw [State.takeSample, if_neg hr] at hexec
    rw [watchSample_snd, not_or] at hr
    obtain ⟨hbuckles, hlatch⟩ := hr
    refine ⟨_, _, hexec, rfl, watchSample_latch_of_none w ratios _,
      fun level h => watchSample_latch_of_some w ratios _ level h hlatch, fun p => ?_⟩
    rw [watchSample_buckles]
    cases hb : w.buckles.get p with
    | none => rfl
    | some b => exact congrArg some (buckleSample_fst b _ fun h => hbuckles ⟨p, b, hb, h⟩)

end Sys2Proof.Machine

namespace Sys2Proof.Machine

/-! ### What the later steps of a completion leave of the sensing state and the sweep numbers -/

section KeepsReadings

variable (s : State)

@[simp] theorem enterStandby_keepsReadings :
    s.enterStandby.sfe.channels = s.sfe.channels ∧ s.enterStandby.sfe.positions = s.sfe.positions
      ∧ s.enterStandby.sfe.latch = s.sfe.latch ∧ s.enterStandby.sfe.latchRun = s.sfe.latchRun
      ∧ s.enterStandby.sweep.count = s.sweep.count ∧ s.enterStandby.sweep.testCounter = s.sweep.testCounter
      ∧ s.enterStandby.sweep.pointer = s.sweep.pointer := by
  simp [enterStandby_writes, Sfe.armWatch]

@[simp] theorem vacantStep_keepsReadings :
    s.vacantStep.sfe.channels = s.sfe.channels ∧ s.vacantStep.sfe.positions = s.sfe.positions
      ∧ s.vacantStep.sfe.latch = s.sfe.latch ∧ s.vacantStep.sfe.latchRun = s.sfe.latchRun
      ∧ s.vacantStep.sweep.count = s.sweep.count ∧ s.vacantStep.sweep.testCounter = s.sweep.testCounter
      ∧ s.vacantStep.sweep.pointer = s.sweep.pointer := by
  unfold State.vacantStep
  repeat' split
  all_goals simp

@[simp] theorem wakeOthers_keepsSweepNumbers (ownChange : Bool) :
    (s.wakeOthers ownChange).sweep.count = s.sweep.count
      ∧ (s.wakeOthers ownChange).sweep.testCounter = s.sweep.testCounter
      ∧ (s.wakeOthers ownChange).sweep.pointer = s.sweep.pointer := by
  unfold State.wakeOthers
  split <;> simp [leaveWatch_writes]

@[simp] theorem watchStep_keepsReadings (ownChange : Bool) :
    (s.watchStep ownChange).sfe.channels = s.sfe.channels
      ∧ (s.watchStep ownChange).sfe.positions = s.sfe.positions
      ∧ (s.watchStep ownChange).sfe.latch = s.sfe.latch ∧ (s.watchStep ownChange).sfe.latchRun = s.sfe.latchRun
      ∧ (s.watchStep ownChange).sweep.count = s.sweep.count
      ∧ (s.watchStep ownChange).sweep.testCounter = s.sweep.testCounter
      ∧ (s.watchStep ownChange).sweep.pointer = s.sweep.pointer := by
  unfold State.watchStep
  split <;> simp

@[simp] theorem modeStep_keepsReadings (c : OwnChanges) :
    (s.modeStep c).sfe.channels = s.sfe.channels ∧ (s.modeStep c).sfe.positions = s.sfe.positions
      ∧ (s.modeStep c).sfe.latch = s.sfe.latch ∧ (s.modeStep c).sfe.latchRun = s.sfe.latchRun
      ∧ (s.modeStep c).sweep.count = s.sweep.count ∧ (s.modeStep c).sweep.testCounter = s.sweep.testCounter
      ∧ (s.modeStep c).sweep.pointer = s.sweep.pointer := by
  simp [State.modeStep]

@[simp] theorem sensingStep_sfe (o : SensingOutcome) : (s.sensingStep o).sfe = o.after := rfl

end KeepsReadings

/-! ### The completion of a periodic sweep -/

section Completion

variable {s : State} {r : SweepReadings} {number : Word16} {test : Bool} {tagAt : Option Pos} {ms : Nat}

/-- R29: with a periodic sweep in flight, SWEEP_COMPLETION completes it. -/
theorem sweepCompletion_of_periodic (hp : s.powered = true)
    (hf : s.sweep.flight = some (.periodic number test tagAt ms)) :
    exec (.sweepCompletion r) s = .next (s.completeSweep number test tagAt r) := by
  show execSweepCompletion r s = _
  simp [execSweepCompletion, hp, hf]

variable (s r number test tagAt)

theorem completeSweep_channels_get (p : Pos) :
    (s.completeSweep number test tagAt r).sfe.channels.get p
      = channelAfter s.config.running p test (r.channels.get p) (s.sfe.channels.get p) := by
  simp [State.completeSweep, sense]

theorem completeSweep_positions_get (p : Pos) :
    (s.completeSweep number test tagAt r).sfe.positions.get p
      = (judgePosition s.config.running p number test tagAt s.sfe.channels r (s.sfe.positions.get p)).after := by
  simp [State.completeSweep, sense]

theorem completeSweep_latch :
    (s.completeSweep number test tagAt r).sfe.latch
        = (latchStep s.sfe.latch s.sfe.latchRun (latchLevel r.latchOpen)).1
      ∧ (s.completeSweep number test tagAt r).sfe.latchRun
        = (latchStep s.sfe.latch s.sfe.latchRun (latchLevel r.latchOpen)).2.1 := by
  simp [State.completeSweep, sense]

/-- R29: a completion ends the flight and keeps the controller's numbers. -/
theorem completeSweep_sweep :
    (s.completeSweep number test tagAt r).sweep.flight = none
      ∧ (s.completeSweep number test tagAt r).sweep.count = s.sweep.count
      ∧ (s.completeSweep number test tagAt r).sweep.testCounter = s.sweep.testCounter
      ∧ (s.completeSweep number test tagAt r).sweep.pointer = s.sweep.pointer := by
  simp [State.completeSweep, State.endFlight]

end Completion

/-! ### What the steps of a completion leave of the settled classes and the departure sequence -/

section KeepsClasses

variable (s : State)

/-- Changing each seat's record and securing state leaves the classes. -/
theorem mapSeats_keepsClasses (f : Pos → Seat → Seat) (hf : ∀ p seat, (f p seat).cls = seat.cls) :
    (s.mapSeats f).table.seats.map Seat.cls = s.table.seats.map Seat.cls
      ∧ (s.mapSeats f).table.departureSeq = s.table.departureSeq :=
  ⟨Four.eq_of_get _ _ fun p => by simp [State.mapSeats, hf], rfl⟩

@[simp] theorem updateRecord_keepsClasses (p : Pos) (f : Record → Record) :
    (s.updateRecord p f).table.seats.map Seat.cls = s.table.seats.map Seat.cls
      ∧ (s.updateRecord p f).table.departureSeq = s.table.departureSeq := by
  refine ⟨Four.eq_of_get _ _ fun q => ?_, rfl⟩
  by_cases h : q = p <;> simp [State.updateRecord, State.updateSeat, Four.get_set, h]

/-- R66: a position whose class stands has no arrival, departure or exchange at a test. -/
theorem seatChange_atTest (cls : Cls) (exchanged : Bool) : seatChange cls cls true exchanged = .none := by
  cases h : cls.isOccupant <;> simp [seatChange, h]

/-- R30: where the classes stand, a test completion does nothing to the occupants. -/
theorem takeClasses_atTest : s.takeClasses (s.table.seats.map Seat.cls) true = s := by
  simp [State.takeClasses, positionsInOrder, seatChange_atTest, State.takeSeatChange]

@[simp] theorem takeBelts_keepsClasses (changed : Four Bool) :
    (s.takeBelts changed).table.seats.map Seat.cls = s.table.seats.map Seat.cls
      ∧ (s.takeBelts changed).table.departureSeq = s.table.departureSeq :=
  mapSeats_keepsClasses s _ fun p seat => by split <;> rfl

@[simp] theorem latchOpened_keepsClasses :
    s.latchOpened.table.seats = s.table.seats ∧ s.latchOpened.table.departureSeq = s.table.departureSeq := by
  unfold State.latchOpened
  split <;> simp

@[simp] theorem latchClosed_keepsClasses :
    s.latchClosed.table.seats = s.table.seats ∧ s.latchClosed.table.departureSeq = s.table.departureSeq :=
  ⟨rfl, rfl⟩

@[simp] theorem takeLatch_keepsClasses (event : LatchEvent) :
    (s.takeLatch event).table.seats = s.table.seats
      ∧ (s.takeLatch event).table.departureSeq = s.table.departureSeq := by
  unfold State.takeLatch
  split <;> simp

@[simp] theorem sendPendingRelease_keepsClasses :
    s.sendPendingRelease.table.seats = s.table.seats
      ∧ s.sendPendingRelease.table.departureSeq = s.table.departureSeq := by
  unfold State.sendPendingRelease
  split <;> simp

@[simp] theorem ladderStep_keepsClasses :
    s.ladderStep.table.seats.map Seat.cls = s.table.seats.map Seat.cls
      ∧ s.ladderStep.table.departureSeq = s.table.departureSeq :=
  mapSeats_keepsClasses s _ fun _ _ => rfl

@[simp] theorem endAlert_keepsClasses (p : Pos) (after : Alert) :
    (s.endAlert p after).table.seats.map Seat.cls = s.table.seats.map Seat.cls
      ∧ (s.endAlert p after).table.departureSeq = s.table.departureSeq := by
  unfold State.endAlert
  repeat' split
  all_goals simp

@[simp] theorem endAlertsByClass_keepsClasses :
    s.endAlertsByClass.table.seats.map Seat.cls = s.table.seats.map Seat.cls
      ∧ s.endAlertsByClass.table.departureSeq = s.table.departureSeq := by
  simp only [State.endAlertsByClass, positionsInOrder, List.foldl]
  repeat' split
  all_goals simp

@[simp] theorem enterStandby_keepsClasses :
    s.enterStandby.table.seats.map Seat.cls = s.table.seats.map Seat.cls
      ∧ s.enterStandby.table.departureSeq = s.table.departureSeq := by
  simp [enterStandby_writes, Four.map]

@[simp] theorem vacantStep_keepsClasses :
    s.vacantStep.table.seats.map Seat.cls = s.table.seats.map Seat.cls
      ∧ s.vacantStep.table.departureSeq = s.table.departureSeq := by
  unfold State.vacantStep
  repeat' split
  all_goals simp

@[simp] theorem watchStep_keepsClasses (ownChange : Bool) :
    (s.watchStep ownChange).table.seats.map Seat.cls = s.table.seats.map Seat.cls
      ∧ (s.watchStep ownChange).table.departureSeq = s.table.departureSeq := by
  unfold State.watchStep
  split <;> simp

@[simp] theorem modeStep_keepsClasses (c : OwnChanges) :
    (s.modeStep c).table.seats.map Seat.cls = s.table.seats.map Seat.cls
      ∧ (s.modeStep c).table.departureSeq = s.table.departureSeq := by
  simp [State.modeStep]

variable (number : Word16) (tagAt : Option Pos) (r : SweepReadings)

/-- R30, R40: a test completion keeps the classifier's state, the classes, the sequence and the list. -/
theorem completeSweep_atTest :
    (s.completeSweep number true tagAt r).classes = s.classes
      ∧ (s.completeSweep number true tagAt r).table.seats.map Seat.cls = s.table.seats.map Seat.cls
      ∧ (s.completeSweep number true tagAt r).table.departureSeq = s.table.departureSeq
      ∧ (s.completeSweep number true tagAt r).departures = s.departures := by
  have htable : ∀ o, ((s.sensingStep o).takeClasses (s.table.seats.map Seat.cls) true) = s.sensingStep o :=
    fun o => takeClasses_atTest (s.sensingStep o)
  simp [State.completeSweep, State.classifierStep, State.tableStep, htable]

end KeepsClasses

/-! ### The SFE's channels (R2, R9) -/

section Channels

variable {c : Conf} {p : Pos} (test : Bool) (x : ChannelReading) (before : SfeChannel)

theorem channelAfter_of_fitted (h : isFitted c p = true) :
    channelAfter c p test x before
      = { held := some { main := x.main, check := x.check, presence := x.presence
                         buckle := if buckleRead c p then some x.buckle else none }
          reference := if test then before.reference else some x.main } := by
  simp [channelAfter, h]

theorem channelAfter_of_notFitted (h : isFitted c p = false) : channelAfter c p test x before = before := by
  simp [channelAfter, h]

end Channels

/-- Settles O7: the completion's own equation, what it makes of channels and sweep controller, and its frame at a
test. -/
theorem completionHoldsReadings : Obligations.CompletionHoldsReadings := by
  refine ⟨?_, ?_, ?_⟩
  · rintro s r number test tagAt ms o u hp hf rfl rfl
    exact sweepCompletion_of_periodic hp hf
  · intro s r number test tagAt ms hp hf
    obtain ⟨hflight, hcount, htest, hpointer⟩ := completeSweep_sweep s r number test tagAt
    obtain ⟨hpending, hpowered, -, hstraps, hconfig, hvehicle⟩ := completeSweep_keeps s number test tagAt r
    refine ⟨_, sweepCompletion_of_periodic hp hf, hflight, hcount, htest, hpointer, fun p h => ?_, fun p h => ⟨?_, ?_⟩,
      fun p h => ?_, hpending, hpowered.trans hp, hstraps, hconfig, hvehicle⟩
    all_goals rw [completeSweep_channels_get]
    · rw [channelAfter_of_fitted _ _ _ h]
    · rintro rfl
      rw [channelAfter_of_fitted _ _ _ h]
      rfl
    · rintro rfl
      rw [channelAfter_of_fitted _ _ _ h]
      rfl
    · exact channelAfter_of_notFitted _ _ _ h
  · intro s r number tagAt ms hp hf
    obtain ⟨hclasses, hcls, hseq, hlist⟩ := completeSweep_atTest s number tagAt r
    refine ⟨_, sweepCompletion_of_periodic hp hf, hclasses, fun p => ?_, hseq, hlist⟩
    simpa using congrArg (Four.get · p) hcls

end Sys2Proof.Machine

namespace Sys2Proof.Machine

/-! ### Belt runs (R13, R14) -/

theorem bandOf_of_le_19 {ratio : Byte} (h : ratio.toNat ≤ 19) : bandOf ratio = .short := by
  simp [bandOf, h]

theorem bandOf_of_le_99 {ratio : Byte} (h : 20 ≤ ratio.toNat) (h' : ratio.toNat ≤ 99) : bandOf ratio = .buckled := by
  simp [bandOf, h', show ¬ ratio.toNat ≤ 19 by omega]

theorem bandOf_of_le_179 {ratio : Byte} (h : 100 ≤ ratio.toNat) (h' : ratio.toNat ≤ 179) :
    bandOf ratio = .unbuckled := by
  simp [bandOf, h', show ¬ ratio.toNat ≤ 19 by omega, show ¬ ratio.toNat ≤ 99 by omega]

theorem bandOf_of_le_219 {ratio : Byte} (h : 180 ≤ ratio.toNat) (h' : ratio.toNat ≤ 219) :
    bandOf ratio = .between := by
  simp [bandOf, h', show ¬ ratio.toNat ≤ 19 by omega, show ¬ ratio.toNat ≤ 99 by omega,
    show ¬ ratio.toNat ≤ 179 by omega]

theorem bandOf_of_ge_220 {ratio : Byte} (h : 220 ≤ ratio.toNat) : bandOf ratio = .open := by
  simp [bandOf, show ¬ ratio.toNat ≤ 19 by omega, show ¬ ratio.toNat ≤ 99 by omega,
    show ¬ ratio.toNat ≤ 179 by omega, show ¬ ratio.toNat ≤ 219 by omega]

/-- R13, R15: group and fault kind of a ratio, band by band. -/
theorem bandOf_group_faultKind (ratio : Byte) :
    (ratio.toNat ≤ 19 → (bandOf ratio).group = .fault ∧ (bandOf ratio).faultKind = .buckleShort)
    ∧ (20 ≤ ratio.toNat → ratio.toNat ≤ 99 → (bandOf ratio).group = .buckled)
    ∧ (100 ≤ ratio.toNat → ratio.toNat ≤ 179 → (bandOf ratio).group = .unbuckled)
    ∧ (180 ≤ ratio.toNat → ratio.toNat ≤ 219 →
      (bandOf ratio).group = .fault ∧ (bandOf ratio).faultKind = .buckleBetween)
    ∧ (220 ≤ ratio.toNat → (bandOf ratio).group = .fault ∧ (bandOf ratio).faultKind = .buckleOpen) := by
  refine ⟨fun h => ?_, fun h h' => ?_, fun h h' => ?_, fun h h' => ?_, fun h => ?_⟩
  · rw [bandOf_of_le_19 h]; exact ⟨rfl, rfl⟩
  · rw [bandOf_of_le_99 h h']; rfl
  · rw [bandOf_of_le_179 h h']; rfl
  · rw [bandOf_of_le_219 h h']; exact ⟨rfl, rfl⟩
  · rw [bandOf_of_ge_220 h]; exact ⟨rfl, rfl⟩

theorem beltRunNext_same (group : BandGroup) (n : Nat) :
    beltRunNext (some ⟨group, n⟩) group = ⟨group, min (n + 1) 3⟩ := by
  simp [beltRunNext]

theorem beltRunNext_other {run : Option BeltRun} {group : BandGroup} (h : ∀ n, run ≠ some ⟨group, n⟩) :
    beltRunNext run group = ⟨group, 1⟩ := by
  cases run with
  | none => rfl
  | some x =>
    have hg : x.group ≠ group := fun hg => h x.count (by rw [← hg])
    simp [beltRunNext, hg]

theorem beltRunNext_group (run : Option BeltRun) (group : BandGroup) : (beltRunNext run group).group = group := by
  unfold beltRunNext
  repeat' split
  all_goals rfl

/-- R14: a run's first reading moves no belt state. -/
theorem beltAfter_first (group : BandGroup) (belt : BeltState) : beltAfter ⟨group, 1⟩ belt = belt := by
  cases group <;> rfl

/-- R14: the second BUCKLED or UNBUCKLED reading running, and the third of the fault group, set the belt state. -/
theorem beltAfter_again (group : BandGroup) (n : Nat) (belt : BeltState) :
    beltAfter ⟨group, min (n + 1) 3⟩ belt = match group with
      | .buckled => if 1 ≤ n then .buckled else belt
      | .unbuckled => if 1 ≤ n then .unbuckled else belt
      | .fault => if 2 ≤ n then .fault else belt := by
  have two : 2 ≤ min (n + 1) 3 ↔ 1 ≤ n := by omega
  have three : 3 ≤ min (n + 1) 3 ↔ 2 ≤ n := by omega
  cases group <;> simp only [beltAfter, two, three]

/-! ### Tag reads (R17 to R19) -/

theorem tagResult_of_good {serial : Word16} (h : serial ≠ 0) (type : TagType) (anchor : Anchor) (mass : Byte) :
    tagResult (.reply true serial (some type) (some anchor) mass) = .valid { serial, type, anchor, mass } := by
  simp only [tagResult, Bool.true_and, bne_iff_ne, ne_eq, h, not_false_eq_true, if_true]

theorem tagResult_of_bad {checkPassed : Bool} {serial : Word16} {type : Option TagType} {anchor : Option Anchor}
    (h : checkPassed = false ∨ serial = 0 ∨ type = none ∨ anchor = none) (mass : Byte) :
    tagResult (.reply checkPassed serial type anchor mass) = .collision := by
  rcases type with _ | type
  · rfl
  rcases anchor with _ | anchor
  · rfl
  rcases h with rfl | rfl | h | h
  · rfl
  · simp [tagResult]
  · cases h
  · cases h

theorem tagRunNext_same (kind : TagRunKind) (n : Nat) : tagRunNext (some ⟨kind, n⟩) kind = ⟨kind, 2⟩ := by
  simp [tagRunNext]

theorem tagRunNext_other {run : Option TagRun} {kind : TagRunKind} (h : ∀ n, run ≠ some ⟨kind, n⟩) :
    tagRunNext run kind = ⟨kind, 1⟩ := by
  cases run with
  | none => rfl
  | some x =>
    have hk : x.kind ≠ kind := fun hk => h x.count (by rw [← hk])
    simp [tagRunNext, hk]

/-- R19: a run's first read moves no view. -/
theorem tagViewAfter_first (view : TagView) (result : TagResult) : tagViewAfter view 1 result = view := rfl

/-- R19: a second read of the tag in view keeps the record held. -/
theorem tagViewAfter_held {held g : TagRecord} (h : held.serial = g.serial) :
    tagViewAfter (.present held) 2 (.valid g) = .present held := by
  simp [tagViewAfter, h]

/-- R19: a second read of a tag that is not in view takes its record. -/
theorem tagViewAfter_new {view : TagView} {g : TagRecord} (h : ∀ held, view = .present held → held.serial ≠ g.serial) :
    tagViewAfter view 2 (.valid g) = .present g := by
  cases view with
  | none => rfl
  | unclear => rfl
  | present held => simp [tagViewAfter, h held rfl]

/-! ### The latch (R21) -/

theorem latchStep_same (level : Latch) (run : Nat) : latchStep (some level) run level = (some level, 0, .none) := by
  simp [latchStep]

theorem latchStep_opposite {level reading : Latch} (h : level ≠ reading) (run : Nat) :
    latchStep (some level) run reading
      = if 1 ≤ run then (some reading, 0, .changed reading) else (some level, run + 1, .none) := by
  simp [latchStep, h.symm]

/-! ### One position at a completion (R5 to R20) -/

section Position

variable (c : Conf) (p : Pos) (number : Word16) (test : Bool) (tagAt : Option Pos) (channels : Four SfeChannel)
  (r : SweepReadings) (before : SfePosition)

theorem isPosition_of_buckleRead {c : Conf} {p : Pos} (h : buckleRead c p = true) : isPosition c p = true := by
  rw [buckleRead, Bool.and_eq_true] at h
  exact h.1

theorem judgePosition_of_absent (h : isPosition c p = false) :
    judgePosition c p number test tagAt channels r before
      = { after := before, reports := [], matObservation := false, presenceObservation := false } := by
  simp [judgePosition, h]

/-- R5 to R12: the four fault kinds after a completion. -/
theorem judgePosition_faults (h : isPosition c p = true) :
    (judgePosition c p number test tagAt channels r before).after.matOpen
        = before.matOpen.judge 1 1 (openPosition c p test channels r.channels).1
      ∧ (judgePosition c p number test tagAt channels r before).after.matRange
        = before.matRange.judge 3 3 (railJudgement (railedMat c p r.channels))
      ∧ (judgePosition c p number test tagAt channels r before).after.matDisagree
        = before.matDisagree.judge 3 10 (crossJudgement test (railedMat c p r.channels).isSome
            (positionReadings c p r.channels).main (positionReadings c p r.channels).check)
      ∧ (judgePosition c p number test tagAt channels r before).after.presenceRange
        = before.presenceRange.judge 3 3 (railJudgement (railedPresence c p r.channels)) := by
  rw [judgePosition, if_pos h]
  dsimp only
  cases buckleRead c p <;> by_cases ht : tagAt = some p <;> simp [ht, judgeFaults, judgeBelt, judgeTag]

/-- R14: the belt after a completion, where its buckle input is read. -/
theorem judgePosition_belt (h : buckleRead c p = true) :
    (judgePosition c p number test tagAt channels r before).after.beltRun
        = some (beltRunNext before.beltRun (bandOf (r.channels.get p).buckle).group)
      ∧ (judgePosition c p number test tagAt channels r before).after.belt
        = beltAfter (beltRunNext before.beltRun (bandOf (r.channels.get p).buckle).group) before.belt := by
  rw [judgePosition, if_pos (isPosition_of_buckleRead h)]
  by_cases ht : tagAt = some p <;> simp [ht, h, judgeFaults, judgeBelt, judgeTag]

/-- R19: the tag after a completion that read it. -/
theorem judgePosition_tagRead (h : isPosition c p = true) (ht : tagAt = some p) :
    (judgePosition c p number test tagAt channels r before).after.tagRun
        = some (tagRunNext before.tagRun (tagResult r.tag).runKind)
      ∧ (judgePosition c p number test tagAt channels r before).after.tagView
        = tagViewAfter before.tagView (tagRunNext before.tagRun (tagResult r.tag).runKind).count (tagResult r.tag) := by
  rw [judgePosition, if_pos h]
  cases buckleRead c p <;> simp [ht, judgeFaults, judgeBelt, judgeTag]

/-- R19: a completion that did not read the tag leaves run and view. -/
theorem judgePosition_tagNotRead (ht : tagAt ≠ some p) :
    (judgePosition c p number test tagAt channels r before).after.tagRun = before.tagRun
      ∧ (judgePosition c p number test tagAt channels r before).after.tagView = before.tagView := by
  rw [judgePosition]
  cases isPosition c p <;> cases buckleRead c p <;> simp [ht, judgeFaults, judgeBelt]

end Position

/-- Settles O8: the bands; belt and tag at one position by `judgePosition`; the latch by `latchStep`. -/
theorem beltTagAndLatchDebounce : Obligations.BeltTagAndLatchDebounce := by
  refine ⟨bandOf_group_faultKind, ?_, ⟨⟨rfl, rfl⟩, fun _ type anchor mass h => tagResult_of_good h type anchor mass,
    fun _ _ _ _ mass h => tagResult_of_bad h mass⟩, ?_, ?_⟩
  · intro s r number test tagAt ms p hp hf hb
    refine ⟨_, sweepCompletion_of_periodic hp hf, ?_⟩
    rw [completeSweep_positions_get]
    obtain ⟨hrun, hbelt⟩ := judgePosition_belt s.config.running p number test tagAt s.sfe.channels r
      (s.sfe.positions.get p) hb
    rw [hrun, hbelt]
    constructor
    · intro n hn
      rw [hn, beltRunNext_same]
      exact ⟨rfl, beltAfter_again _ n _⟩
    · intro hn
      rw [beltRunNext_other hn]
      exact ⟨rfl, beltAfter_first _ _⟩
  · intro s r number test tagAt ms p hp hf hpos
    refine ⟨_, sweepCompletion_of_periodic hp hf, ?_⟩
    rw [completeSweep_positions_get]
    refine ⟨fun ht => judgePosition_tagNotRead _ _ _ _ _ _ _ _ ht, fun kind ht hkind => ?_⟩
    replace hkind : (tagResult r.tag).runKind = kind := by rw [hkind]; cases tagResult r.tag <;> rfl
    obtain ⟨hrun, hview⟩ := judgePosition_tagRead s.config.running p number test tagAt s.sfe.channels r
      (s.sfe.positions.get p) hpos ht
    rw [hrun, hview, hkind]
    constructor
    · intro hn
      rw [tagRunNext_other hn]
      exact ⟨rfl, tagViewAfter_first _ _⟩
    · intro n hn
      rw [hn, tagRunNext_same]
      refine ⟨rfl, fun h => by rw [h]; rfl, fun h => by rw [h]; rfl, fun g h => ?_⟩
      rw [h]
      exact ⟨fun held hv hs => by rw [hv, tagViewAfter_held hs], tagViewAfter_new⟩
  · intro s r number test tagAt ms hp hf
    refine ⟨_, sweepCompletion_of_periodic hp hf, ?_⟩
    obtain ⟨hlatch, hrun⟩ := completeSweep_latch s r number test tagAt
    rw [hlatch, hrun]
    refine ⟨fun h => by rw [h]; rfl, fun h => by rw [h, latchStep_same]; exact ⟨rfl, rfl⟩, fun level h hne => ?_⟩
    rw [h, latchStep_opposite hne]
    exact ⟨fun h0 => by simp [h0], fun h1 => by simp [h1]⟩

end Sys2Proof.Machine

namespace Sys2Proof.Machine

/-! ### What the later steps of a completion leave of the measurement capture and SOFT_FAULTS -/

section KeepsFaults

variable (s : State)

@[simp] theorem offerTx_keepsFaults (e : TxEntry) :
    (s.offerTx e).diag.meas = s.diag.meas
      ∧ (s.offerTx e).diag.counters.softFaults = s.diag.counters.softFaults := by
  unfold State.offerTx
  split <;> simp

@[simp] theorem place_keepsFaults (kind : FrameKind) (payload : List Byte) :
    (s.place kind payload).diag.meas = s.diag.meas
      ∧ (s.place kind payload).diag.counters.softFaults = s.diag.counters.softFaults :=
  offerTx_keepsFaults s _

@[simp] theorem joinEntry_keepsFaults (e : DepEntry) :
    (s.joinEntry e).diag.meas = s.diag.meas
      ∧ (s.joinEntry e).diag.counters.softFaults = s.diag.counters.softFaults := by
  unfold State.joinEntry State.count
  repeat' split
  all_goals simp

@[simp] theorem searchOrSettle_keepsFaults (p : Pos) :
    (s.searchOrSettle p).diag.meas = s.diag.meas
      ∧ (s.searchOrSettle p).diag.counters.softFaults = s.diag.counters.softFaults := by
  unfold State.searchOrSettle State.takeMatch
  repeat' split
  all_goals simp

@[simp] theorem arrive_keepsFaults (p : Pos) (fromUnscanned : Bool) :
    (s.arrive p fromUnscanned).diag.meas = s.diag.meas
      ∧ (s.arrive p fromUnscanned).diag.counters.softFaults = s.diag.counters.softFaults := by
  unfold State.arrive
  split <;> simp

@[simp] theorem handOn_keepsFaults (p : Pos) (r : Record) :
    (s.handOn p r).diag.meas = s.diag.meas
      ∧ (s.handOn p r).diag.counters.softFaults = s.diag.counters.softFaults := by
  simp [State.handOn]

@[simp] theorem depart_keepsFaults (p : Pos) :
    (s.depart p).diag.meas = s.diag.meas
      ∧ (s.depart p).diag.counters.softFaults = s.diag.counters.softFaults := by
  unfold State.depart
  dsimp only
  repeat' split
  all_goals simp

@[simp] theorem takeSeatChange_keepsFaults (p : Pos) (change : SeatChange) :
    (s.takeSeatChange p change).diag.meas = s.diag.meas
      ∧ (s.takeSeatChange p change).diag.counters.softFaults = s.diag.counters.softFaults := by
  unfold State.takeSeatChange
  split <;> simp

@[simp] theorem takeClasses_keepsFaults (before : Four Cls) (test : Bool) :
    (s.takeClasses before test).diag.meas = s.diag.meas
      ∧ (s.takeClasses before test).diag.counters.softFaults = s.diag.counters.softFaults := by
  simp [State.takeClasses, positionsInOrder]

@[simp] theorem latchOpened_keepsFaults :
    s.latchOpened.diag.meas = s.diag.meas
      ∧ s.latchOpened.diag.counters.softFaults = s.diag.counters.softFaults := by
  unfold State.latchOpened
  split <;> simp

@[simp] theorem takeLatch_keepsFaults (event : LatchEvent) :
    (s.takeLatch event).diag.meas = s.diag.meas
      ∧ (s.takeLatch event).diag.counters.softFaults = s.diag.counters.softFaults := by
  unfold State.takeLatch
  split <;> simp

@[simp] theorem sendPendingRelease_keepsFaults :
    s.sendPendingRelease.diag.meas = s.diag.meas
      ∧ s.sendPendingRelease.diag.counters.softFaults = s.diag.counters.softFaults := by
  unfold State.sendPendingRelease
  split <;> simp

@[simp] theorem tableStep_keepsFaults (before : Four Cls) (test : Bool) (o : SensingOutcome) :
    (s.tableStep before test o).diag.meas = s.diag.meas
      ∧ (s.tableStep before test o).diag.counters.softFaults = s.diag.counters.softFaults := by
  simp [State.tableStep]

@[simp] theorem placeIfCalled_keepsFaults :
    s.placeIfCalled.diag.meas = s.diag.meas
      ∧ s.placeIfCalled.diag.counters.softFaults = s.diag.counters.softFaults := by
  unfold State.placeIfCalled State.placeState
  split <;> simp

@[simp] theorem reportStep_keepsFaults :
    s.reportStep.diag.meas = s.diag.meas
      ∧ s.reportStep.diag.counters.softFaults = s.diag.counters.softFaults := by
  simp [State.reportStep]

@[simp] theorem placeRefusal_keepsFaults (w : Window) (reason : Reason) :
    (s.placeRefusal w reason).diag.meas = s.diag.meas
      ∧ (s.placeRefusal w reason).diag.counters.softFaults = s.diag.counters.softFaults := by
  unfold State.placeRefusal State.count
  dsimp only
  split <;> simp

@[simp] theorem testReasons_keepsFaults :
    s.testReasons.diag.meas = s.diag.meas
      ∧ s.testReasons.diag.counters.softFaults = s.diag.counters.softFaults := by
  unfold State.testReasons
  repeat' split
  all_goals simp

@[simp] theorem idleStep_keepsFaults (changed : Bool) :
    (s.idleStep changed).diag.meas = s.diag.meas
      ∧ (s.idleStep changed).diag.counters.softFaults = s.diag.counters.softFaults := by
  unfold State.idleStep State.restartIdle
  repeat' split
  all_goals simp

@[simp] theorem latchReason_keepsFaults (event : LatchEvent) :
    (s.latchReason event).diag.meas = s.diag.meas
      ∧ (s.latchReason event).diag.counters.softFaults = s.diag.counters.softFaults := by
  unfold State.latchReason
  split <;> simp

@[simp] theorem modeStep_keepsFaults (c : OwnChanges) :
    (s.modeStep c).diag.meas = s.diag.meas
      ∧ (s.modeStep c).diag.counters.softFaults = s.diag.counters.softFaults := by
  simp [State.modeStep]

variable (number : Word16) (test : Bool) (tagAt : Option Pos) (r : SweepReadings)

/-- R23: what a completion leaves of the measurement capture and of SOFT_FAULTS is what its reports make of them. -/
theorem completeSweep_faults :
    (s.completeSweep number test tagAt r).diag.meas
        = ((sense s.config.running number test tagAt r s.sfe).reports.foldl Diag.reportMeas s.diag).meas
      ∧ (s.completeSweep number test tagAt r).diag.counters.softFaults
        = ((sense s.config.running number test tagAt r s.sfe).reports.foldl
            Diag.reportMeas s.diag).counters.softFaults := by
  have hsense : ∀ o, (s.sensingStep o).diag = o.reports.foldl Diag.reportMeas s.diag := fun _ => rfl
  simp [State.completeSweep, hsense]

end KeepsFaults

/-- R202: reports one after another, at the capture. -/
theorem foldl_reportMeas_meas (reports : List MeasReport) (d : Diag) :
    (reports.foldl Diag.reportMeas d).meas = reports.foldl (fun c x => c.apply x.severity x) d.meas := by
  induction reports generalizing d with
  | nil => rfl
  | cons x xs ih => exact ih (d.reportMeas x)

/-- R202: reports one after another, at SOFT_FAULTS. -/
theorem foldl_reportMeas_softFaults (reports : List MeasReport) (d : Diag) :
    (reports.foldl Diag.reportMeas d).counters.softFaults
      = reports.foldl (fun n x => if x.severity = .soft then (if n < 65535 then n + 1 else 65535) else n)
          d.counters.softFaults := by
  induction reports generalizing d with
  | nil => rfl
  | cons x xs ih =>
    rw [List.foldl_cons, List.foldl_cons, ih]
    congr 1
    cases h : x.severity <;> simp [Diag.reportMeas, Counters.softReport, saturatingSucc, h]

/-! ### The channels measured as one at a position (R2) -/

section Channels

variable {c : Conf} {p q : Pos}

theorem mem_channelsOf : q ∈ channelsOf c p ↔ q = p ∨ (isJoined c p = true ∧ q = upperOf p) := by
  cases h : isJoined c p <;> simp [channelsOf, h]

/-- The first channel that meets a condition is the upper one only where the lower does not meet it. -/
theorem channelsOf_find (cond : Pos → Bool) (hq : q ∈ channelsOf c p) (hc : cond q = true)
    (first : q ≠ p → cond p = false) : (channelsOf c p).find? cond = some q := by
  rcases mem_channelsOf.1 hq with rfl | ⟨hj, rfl⟩
  · cases h : isJoined c q <;> simp [channelsOf, h, hc]
  · have hne : upperOf p ≠ p := by fin_cases p <;> decide
    simp [channelsOf, hj, hc, first hne]

theorem channelsOf_find_none (cond : Pos → Bool) (h : ∀ q ∈ channelsOf c p, cond q = false) :
    (channelsOf c p).find? cond = none :=
  List.find?_eq_none.2 fun q hq => by simp [h q hq]

theorem positionReadings_of_single (h : isJoined c p = false) (r : Four ChannelReading) :
    positionReadings c p r = ⟨(r.get p).main.toNat, (r.get p).check.toNat, (r.get p).presence.toNat⟩ := by
  simp [positionReadings, h]

theorem positionReadings_of_joined (h : isJoined c p = true) (r : Four ChannelReading) :
    positionReadings c p r
      = ⟨(r.get p).main.toNat + (r.get (upperOf p)).main.toNat, (r.get p).check.toNat + (r.get (upperOf p)).check.toNat,
          max (r.get p).presence.toNat (r.get (upperOf p)).presence.toNat⟩ := by
  simp [positionReadings, h]

end Channels

theorem atRail_iff (x : Count12) : atRail x = true ↔ x = 0 ∨ x = 4095 := by
  simp [atRail]

end Sys2Proof.Machine

namespace Sys2Proof.Machine

/-! ### The judgements of a position (R6, R7, R10, R12) -/

/-- R6: a channel with a rail on either mat path. -/
def MatRailed (x : ChannelReading) : Prop := atRail x.main = true ∨ atRail x.check = true

/-- R10: a channel whose test reading stays too close to its reference, where that may be tested. -/
def OpenFails (reference : Option Count12) (main : Count12) : Prop :=
  ∃ ref, reference = some ref ∧ ref.toNat ≤ 3895 ∧ main.toNat < ref.toNat + 200

section Judgements

variable {c : Conf} {p q : Pos} {r : Four ChannelReading} {channels : Four SfeChannel}

theorem railedMat_of_first (hq : q ∈ channelsOf c p) (h : MatRailed (r.get q)) (first : q ≠ p → ¬ MatRailed (r.get p)) :
    railedMat c p r = some q :=
  channelsOf_find _ hq (by simpa [MatRailed] using h) fun hne => by simpa [MatRailed] using first hne

theorem railedMat_of_none (h : ∀ q ∈ channelsOf c p, ¬ MatRailed (r.get q)) : railedMat c p r = none :=
  channelsOf_find_none _ fun q hq => by simpa [MatRailed] using h q hq

theorem railedMat_isSome (hq : q ∈ channelsOf c p) (h : MatRailed (r.get q)) : (railedMat c p r).isSome = true :=
  List.find?_isSome.2 ⟨q, hq, by simpa [MatRailed] using h⟩

theorem railedPresence_of_first (hq : q ∈ channelsOf c p) (h : atRail (r.get q).presence = true)
    (first : q ≠ p → atRail (r.get p).presence = false) : railedPresence c p r = some q :=
  channelsOf_find _ hq h first

theorem railedPresence_of_none (h : ∀ q ∈ channelsOf c p, atRail (r.get q).presence = false) :
    railedPresence c p r = none :=
  channelsOf_find_none _ h

theorem railedPresence_isSome (hq : q ∈ channelsOf c p) (h : atRail (r.get q).presence = true) :
    (railedPresence c p r).isSome = true :=
  List.find?_isSome.2 ⟨q, hq, h⟩

/-- R7: at a test, or beside a rail, the cross-check skips. -/
theorem crossJudgement_skip {test railed : Bool} (h : test = true ∨ railed = true) (main check : Nat) :
    crossJudgement test railed main check = .skip := by
  simp [crossJudgement, h]

theorem crossJudgement_of_within {main check : Nat} (h : main ≤ check + (48 + main / 16))
    (h' : check ≤ main + (48 + main / 16)) : crossJudgement false false main check = .pass := by
  rw [crossJudgement, if_neg (by simp), if_neg (by unfold crossTolerance; omega)]

theorem crossJudgement_of_beyond {main check : Nat}
    (h : check + (48 + main / 16) < main ∨ main + (48 + main / 16) < check) :
    crossJudgement false false main check = .observation := by
  rw [crossJudgement, if_neg (by simp), if_pos (by unfold crossTolerance; omega)]

theorem openJudgement_observation_iff (reference : Option Count12) (main : Count12) :
    openJudgement reference main = .observation ↔ OpenFails reference main := by
  cases reference with
  | none => simp [openJudgement, OpenFails]
  | some ref =>
    simp only [openJudgement, OpenFails, Option.some.injEq, exists_eq_left']
    repeat' split
    all_goals simp
    all_goals omega

theorem openJudgement_pass_iff (reference : Option Count12) (main : Count12) :
    openJudgement reference main = .pass
      ↔ ∃ ref, reference = some ref ∧ ref.toNat ≤ 3895 ∧ ref.toNat + 200 ≤ main.toNat := by
  cases reference with
  | none => simp [openJudgement]
  | some ref =>
    simp only [openJudgement, Option.some.injEq, exists_eq_left']
    repeat' split
    all_goals simp
    all_goals omega

theorem openPosition_of_first (hq : q ∈ channelsOf c p) (h : OpenFails (channels.get q).reference (r.get q).main)
    (first : q ≠ p → ¬ OpenFails (channels.get p).reference (r.get p).main) :
    openPosition c p true channels r = (.observation, some q) := by
  have hfind := channelsOf_find (fun q => openJudgement (channels.get q).reference (r.get q).main == .observation) hq
    (by simpa [openJudgement_observation_iff] using h)
    (fun hne => by simpa [openJudgement_observation_iff] using first hne)
  simp [openPosition, hfind]

/-- R10: a failing channel is an observation of its position. -/
theorem openPosition_of_fails (hq : q ∈ channelsOf c p) (h : OpenFails (channels.get q).reference (r.get q).main) :
    (openPosition c p true channels r).1 = .observation := by
  by_cases hp : OpenFails (channels.get p).reference (r.get p).main
  · rw [openPosition_of_first (mem_channelsOf.2 (.inl rfl)) hp fun hne => absurd rfl hne]
  · rw [openPosition_of_first hq h fun _ => hp]

/-- R10: with no channel failing, a position passes where one of its channels passes, and skips otherwise. -/
theorem openPosition_of_none (h : ∀ q ∈ channelsOf c p, ¬ OpenFails (channels.get q).reference (r.get q).main) :
    openPosition c p true channels r
      = (if (channelsOf c p).any fun q => openJudgement (channels.get q).reference (r.get q).main == .pass then .pass
          else .skip, none) := by
  have hfind := channelsOf_find_none (c := c) (p := p)
    (fun q => openJudgement (channels.get q).reference (r.get q).main == .observation)
    (fun q hq => by simpa [openJudgement_observation_iff] using h q hq)
  simp [openPosition, hfind]

/-- R10: where every channel that may be tested passes, and one may be, the position passes. -/
theorem openPosition_of_passes
    (hall : ∀ q ref, q ∈ channelsOf c p → (channels.get q).reference = some ref → ref.toNat ≤ 3895 →
      ref.toNat + 200 ≤ (r.get q).main.toNat)
    {ref : Count12} (hq : q ∈ channelsOf c p) (href : (channels.get q).reference = some ref) (hle : ref.toNat ≤ 3895) :
    (openPosition c p true channels r).1 = .pass := by
  have hpass := (openJudgement_pass_iff _ _).2 ⟨ref, href, hle, hall q ref hq href hle⟩
  rw [openPosition_of_none fun q hq ⟨ref, href, hle, hlt⟩ => absurd (hall q ref hq href hle) (Nat.not_le.2 hlt)]
  exact if_pos (List.any_eq_true.2 ⟨q, hq, by simp [hpass]⟩)

/-- R10: where no reference may be tested, the position skips. -/
theorem openPosition_of_untested
    (hnone : ∀ q ref, q ∈ channelsOf c p → (channels.get q).reference = some ref → 3895 < ref.toNat) :
    (openPosition c p true channels r).1 = .skip := by
  rw [openPosition_of_none fun q hq ⟨ref, href, hle, _⟩ => absurd hle (Nat.not_le.2 (hnone q ref hq href))]
  refine if_neg fun hany => ?_
  obtain ⟨q, hq, hpass⟩ := List.any_eq_true.1 hany
  obtain ⟨ref, href, hle, -⟩ := (openJudgement_pass_iff _ _).1 (beq_iff_eq.1 hpass)
  exact absurd hle (Nat.not_le.2 (hnone q ref hq href))

end Judgements

/-! ### The fault kinds of a position after a completion -/

section PositionFaults

variable {c : Conf} {p : Pos} (number : Word16) {test : Bool} (tagAt : Option Pos) {channels : Four SfeChannel}
  {r : SweepReadings} (before : SfePosition)

/-- R6, R7: with a mat rail, an observation and no cross-check. -/
theorem judgePosition_of_matRailed (h : isPosition c p = true) {q : Pos} (hq : q ∈ channelsOf c p)
    (hr : MatRailed (r.channels.get q)) :
    (judgePosition c p number test tagAt channels r before).after.matRange = before.matRange.judge 3 3 .observation
      ∧ (judgePosition c p number test tagAt channels r before).after.matDisagree
        = before.matDisagree.judge 3 10 .skip := by
  obtain ⟨-, hrange, hcross, -⟩ := judgePosition_faults c p number test tagAt channels r before h
  rw [hrange, hcross, railedMat_isSome hq hr, crossJudgement_skip (.inr rfl), railJudgement,
    if_pos (railedMat_isSome hq hr)]
  exact ⟨rfl, rfl⟩

/-- R6, R7: without a mat rail, a pass, and the cross-check by its own judgement. -/
theorem judgePosition_of_notMatRailed (h : isPosition c p = true)
    (hr : ∀ q ∈ channelsOf c p, ¬ MatRailed (r.channels.get q)) :
    (judgePosition c p number test tagAt channels r before).after.matRange = before.matRange.judge 3 3 .pass
      ∧ (judgePosition c p number test tagAt channels r before).after.matDisagree
        = before.matDisagree.judge 3 10 (crossJudgement test false (positionReadings c p r.channels).main
            (positionReadings c p r.channels).check) := by
  obtain ⟨-, hrange, hcross, -⟩ := judgePosition_faults c p number test tagAt channels r before h
  rw [hrange, hcross, railedMat_of_none hr]
  exact ⟨rfl, rfl⟩

/-- R10: the open-wire judgement. -/
theorem judgePosition_matOpen (h : isPosition c p = true) :
    (judgePosition c p number test tagAt channels r before).after.matOpen
      = before.matOpen.judge 1 1 (openPosition c p test channels r.channels).1 :=
  (judgePosition_faults c p number test tagAt channels r before h).1

/-- R12: with a railed presence reading, an observation. -/
theorem judgePosition_of_presenceRailed (h : isPosition c p = true) {q : Pos} (hq : q ∈ channelsOf c p)
    (hr : atRail (r.channels.get q).presence = true) :
    (judgePosition c p number test tagAt channels r before).after.presenceRange
      = before.presenceRange.judge 3 3 .observation := by
  obtain ⟨-, -, -, hpresence⟩ := judgePosition_faults c p number test tagAt channels r before h
  rw [hpresence, railJudgement, if_pos (railedPresence_isSome hq hr)]

/-- R12: without one, a pass. -/
theorem judgePosition_of_notPresenceRailed (h : isPosition c p = true)
    (hr : ∀ q ∈ channelsOf c p, atRail (r.channels.get q).presence = false) :
    (judgePosition c p number test tagAt channels r before).after.presenceRange
      = before.presenceRange.judge 3 3 .pass := by
  obtain ⟨-, -, -, hpresence⟩ := judgePosition_faults c p number test tagAt channels r before h
  rw [hpresence, railedPresence_of_none hr]
  rfl

end PositionFaults

end Sys2Proof.Machine

namespace Sys2Proof.Machine

/-! ### The six reports of a position (R15, R20, R23) -/

section Reports

variable (c : Conf) (p : Pos) (number : Word16) (test : Bool) (tagAt : Option Pos) (channels : Four SfeChannel)
  (r : Four ChannelReading) (tag : TagReply) (before : SfePosition)

/-- R10: the open-wire report, with the reading and reference of the first failing channel. -/
def openReport : Option MeasReport :=
  (before.matOpen.reported 1 (openPosition c p test channels r).1).map fun severity =>
    ⟨p, .matOpen, severity, (r.get ((openPosition c p test channels r).2.getD p)).main.toNat,
      ((channels.get ((openPosition c p test channels r).2.getD p)).reference.getD 0).toNat, number⟩

/-- R6: the rail report, with the readings of the first railed channel. -/
def railReport : Option MeasReport :=
  (before.matRange.reported 3 (railJudgement (railedMat c p r))).map fun severity =>
    ⟨p, .matRange, severity, (r.get ((railedMat c p r).getD p)).main.toNat,
      (r.get ((railedMat c p r).getD p)).check.toNat, number⟩

/-- R7: the report of the cross-check, with the position's readings. -/
def crossReport : Option MeasReport :=
  (before.matDisagree.reported 3 (crossJudgement test (railedMat c p r).isSome (positionReadings c p r).main
    (positionReadings c p r).check)).map fun severity =>
      ⟨p, .matDisagree, severity, (positionReadings c p r).main, (positionReadings c p r).check, number⟩

/-- R12: the presence report, with the reading of the first railed channel. -/
def presenceReport : Option MeasReport :=
  (before.presenceRange.reported 3 (railJudgement (railedPresence c p r))).map fun severity =>
    ⟨p, .presenceRange, severity, (r.get ((railedPresence c p r).getD p)).presence.toNat, 0, number⟩

/-- R15: the report of a buckle reading. -/
def beltReport : Option MeasReport :=
  if buckleRead c p then
    (beltReported (beltRunNext before.beltRun (bandOf (r.get p).buckle).group) before.belt).map fun severity =>
      ⟨p, (bandOf (r.get p).buckle).faultKind, severity, 0, (r.get p).buckle.toNat, number⟩
  else none

/-- R20: the report of a tag read that makes the view UNCLEAR. -/
def tagReport : Option MeasReport :=
  if tagAt = some p
      ∧ tagViewAfter before.tagView (tagRunNext before.tagRun (tagResult tag).runKind).count (tagResult tag) = .unclear
      ∧ before.tagView ≠ .unclear then
    some ⟨p, .tagUnclear, .soft, 0, 1, number⟩
  else none

theorem measReport_eq (kind : MeasFault) (severity : Option Severity) (main check : Nat) :
    measReport p number kind severity main check
      = (severity.map fun severity => (⟨p, kind, severity, main, check, number⟩ : MeasReport)).toList := by
  cases severity <;> rfl

/-- R23: the reports of a position, in their order. -/
theorem judgePosition_reports (x : SweepReadings) (h : isPosition c p = true) :
    (judgePosition c p number test tagAt channels x before).reports
      = (openReport c p number test channels x.channels before).toList
        ++ (railReport c p number x.channels before).toList
        ++ (crossReport c p number test x.channels before).toList
        ++ (presenceReport c p number x.channels before).toList
        ++ (beltReport c p number x.channels before).toList
        ++ (tagReport p number tagAt x.tag before).toList := by
  rw [judgePosition, if_pos h]
  cases hb : buckleRead c p <;> by_cases ht : tagAt = some p <;>
    simp [ht, hb, judgeFaults, judgeBelt, judgeTag, measReport_eq, openReport, railReport, crossReport, presenceReport,
      beltReport, tagReport]

variable {c p number test tagAt channels r tag before}

/-! #### Open wire -/

theorem reported_of_hardAfter_one (f : FaultRun) :
    f.reported 1 .observation = if f.hard = true then none else some .hard := by
  cases h : f.hard <;> simp [FaultRun.reported, h]

theorem openReport_of_first (ht : test = true) {q : Pos} (hq : q ∈ channelsOf c p) {ref : Count12}
    (href : (channels.get q).reference = some ref) (h : OpenFails (channels.get q).reference (r.get q).main)
    (first : q ≠ p → ¬ OpenFails (channels.get p).reference (r.get p).main) :
    openReport c p number test channels r before
      = if before.matOpen.hard = true then none
        else some ⟨p, .matOpen, .hard, (r.get q).main.toNat, ref.toNat, number⟩ := by
  subst ht
  rw [openReport, openPosition_of_first hq h first, reported_of_hardAfter_one]
  cases before.matOpen.hard <;> simp [href]

theorem openReport_of_none
    (h : test = true → ∀ q ∈ channelsOf c p, ¬ OpenFails (channels.get q).reference (r.get q).main) :
    openReport c p number test channels r before = none := by
  cases test with
  | false => simp [openReport, openPosition]
  | true =>
    rw [openReport, openPosition_of_none (h rfl)]
    split <;> simp

/-! #### Rails -/

theorem railReport_of_first {q : Pos} (hq : q ∈ channelsOf c p) (h : MatRailed (r.get q))
    (first : q ≠ p → ¬ MatRailed (r.get p)) :
    railReport c p number r before
      = (before.matRange.reported 3 .observation).map fun severity =>
          ⟨p, .matRange, severity, (r.get q).main.toNat, (r.get q).check.toNat, number⟩ := by
  rw [railReport, railedMat_of_first hq h first]
  rfl

theorem railReport_of_none (h : ∀ q ∈ channelsOf c p, ¬ MatRailed (r.get q)) :
    railReport c p number r before = none := by
  simp [railReport, railedMat_of_none h, railJudgement]

theorem presenceReport_of_first {q : Pos} (hq : q ∈ channelsOf c p) (h : atRail (r.get q).presence = true)
    (first : q ≠ p → atRail (r.get p).presence = false) :
    presenceReport c p number r before
      = (before.presenceRange.reported 3 .observation).map fun severity =>
          ⟨p, .presenceRange, severity, (r.get q).presence.toNat, 0, number⟩ := by
  rw [presenceReport, railedPresence_of_first hq h first]
  rfl

theorem presenceReport_of_none (h : ∀ q ∈ channelsOf c p, atRail (r.get q).presence = false) :
    presenceReport c p number r before = none := by
  simp [presenceReport, railedPresence_of_none h, railJudgement]

/-! #### Cross-check -/

theorem crossReport_of_skip (h : test = true ∨ (railedMat c p r).isSome = true) :
    crossReport c p number test r before = none := by
  simp [crossReport, crossJudgement_skip h]

theorem crossReport_of_within
    (h : (positionReadings c p r).main ≤ (positionReadings c p r).check + (48 + (positionReadings c p r).main / 16))
    (h' : (positionReadings c p r).check ≤ (positionReadings c p r).main + (48 + (positionReadings c p r).main / 16)) :
    crossReport c p number test r before = none := by
  by_cases hs : test = true ∨ (railedMat c p r).isSome = true
  · exact crossReport_of_skip hs
  · rw [not_or, Bool.not_eq_true, Bool.not_eq_true] at hs
    simp [crossReport, hs, crossJudgement_of_within h h']

theorem crossReport_of_beyond (ht : test = false) (hr : ∀ q ∈ channelsOf c p, ¬ MatRailed (r.get q))
    (h : (positionReadings c p r).check + (48 + (positionReadings c p r).main / 16) < (positionReadings c p r).main
      ∨ (positionReadings c p r).main + (48 + (positionReadings c p r).main / 16) < (positionReadings c p r).check) :
    crossReport c p number test r before
      = (before.matDisagree.reported 3 .observation).map fun severity =>
          ⟨p, .matDisagree, severity, (positionReadings c p r).main, (positionReadings c p r).check, number⟩ := by
  subst ht
  rw [crossReport, railedMat_of_none hr, Option.isSome_none, crossJudgement_of_beyond h]

/-! #### Belt -/

/-- R15: the severity of a reading in the fault group, by the run before it, where the belt state is no fault. -/
def faultReadingSeverity : Option BeltRun → Option Severity
  | some ⟨.fault, 0⟩ => some .soft
  | some ⟨.fault, 1⟩ => none
  | some ⟨.fault, _ + 2⟩ => some .hard
  | some ⟨.buckled, _⟩ => some .soft
  | some ⟨.unbuckled, _⟩ => some .soft
  | none => some .soft

theorem beltReported_of_fault (run : Option BeltRun) {belt : BeltState} (h : belt ≠ .fault) :
    beltReported (beltRunNext run .fault) belt = faultReadingSeverity run := by
  rcases run with _ | ⟨_ | _ | _, _ | _ | n⟩ <;> simp [beltReported, beltRunNext, faultReadingSeverity, h]

theorem beltReport_eq :
    beltReport c p number r before
      = if buckleRead c p = true ∧ (bandOf (r.get p).buckle).group = .fault ∧ before.belt ≠ .fault then
          (faultReadingSeverity before.beltRun).map fun severity =>
            ⟨p, (bandOf (r.get p).buckle).faultKind, severity, 0, (r.get p).buckle.toNat, number⟩
        else none := by
  by_cases hf : (bandOf (r.get p).buckle).group = .fault ∧ before.belt ≠ .fault
  · obtain ⟨hg, hb⟩ := hf
    simp [beltReport, hg, hb, beltReported_of_fault]
  · have hnone : beltReported (beltRunNext before.beltRun (bandOf (r.get p).buckle).group) before.belt = none := by
      rw [beltReported, beltRunNext_group, if_neg hf]
    simp [beltReport, hnone, hf]

/-! #### Tag -/

/-- R19: a view that was not UNCLEAR becomes so exactly at a second COLLISION running. -/
theorem tagViewAfter_unclear_iff {view : TagView} (h : view ≠ .unclear) (run : Option TagRun) (result : TagResult) :
    tagViewAfter view (tagRunNext run result.runKind).count result = .unclear
      ↔ result = .collision ∧ ∃ n, run = some ⟨.collision, n⟩ := by
  by_cases hs : ∃ n, run = some ⟨result.runKind, n⟩
  · obtain ⟨n, rfl⟩ := hs
    rw [tagRunNext_same]
    cases result with
    | noReply => simp [tagViewAfter]
    | collision => simp [tagViewAfter, TagResult.runKind]
    | valid g =>
      simp only [tagViewAfter, if_true, reduceCtorEq, false_and, iff_false]
      cases view with
      | none => simp
      | unclear => simp
      | present held => dsimp only; split <;> simp
  · rw [not_exists] at hs
    rw [tagRunNext_other hs, tagViewAfter_first]
    refine ⟨fun hu => absurd hu h, ?_⟩
    rintro ⟨rfl, n, rfl⟩
    exact absurd rfl (hs n)

theorem tagReport_of_unclear (ht : tagAt = some p) (hc : tagResult tag = .collision)
    (hr : ∃ n, before.tagRun = some ⟨.collision, n⟩) (hv : before.tagView ≠ .unclear) :
    tagReport p number tagAt tag before = some ⟨p, .tagUnclear, .soft, 0, 1, number⟩ :=
  if_pos ⟨ht, (tagViewAfter_unclear_iff hv _ _).2 ⟨hc, hr⟩, hv⟩

theorem tagReport_of_none
    (h : ¬ (tagAt = some p ∧ tagResult tag = .collision ∧ (∃ n, before.tagRun = some ⟨.collision, n⟩)
      ∧ before.tagView ≠ .unclear)) :
    tagReport p number tagAt tag before = none := by
  refine if_neg ?_
  rintro ⟨ht, hu, hv⟩
  obtain ⟨hc, hr⟩ := (tagViewAfter_unclear_iff hv _ _).1 hu
  exact h ⟨ht, hc, hr, hv⟩

end Reports

/-- Settles O9: the judgements by the channels measured as one, the capture by its fold over the reports, and each of a
position's six reports by its own lemma. -/
theorem faultsJudgedAndReported : Obligations.FaultsJudgedAndReported := by
  refine ⟨?_, atRail_iff, fun c p r => ⟨fun h => positionReadings_of_single h r, fun h => positionReadings_of_joined h r⟩,
    ?_, ?_⟩
  · intro s r number test tagAt ms p one main check hp hf hpos hone hmain hcheck
    replace hone : ∀ q, one q ↔ q ∈ channelsOf s.config.running p := fun q => (hone q).trans mem_channelsOf.symm
    refine ⟨_, sweepCompletion_of_periodic hp hf, ?_⟩
    rw [completeSweep_positions_get]
    subst hmain hcheck
    simp only [hone]
    refine ⟨?_, ?_, ?_, ?_, ?_, ?_⟩
    · rintro ⟨q, hq, hr⟩
      exact judgePosition_of_matRailed number tagAt _ hpos hq hr
    · intro hr
      obtain ⟨hrange, hcross⟩ := judgePosition_of_notMatRailed number (test := test) tagAt (channels := s.sfe.channels)
        (s.sfe.positions.get p) hpos fun q hq => by simpa [MatRailed] using hr q hq
      rw [hrange, hcross]
      refine ⟨rfl, ?_, ?_, ?_⟩
      · intro ht
        rw [crossJudgement_skip (.inl ht)]
      · rintro rfl hle hle'
        rw [crossJudgement_of_within hle hle']
      · rintro rfl hlt
        rw [crossJudgement_of_beyond hlt]
    · rintro rfl
      exact judgePosition_matOpen number tagAt _ hpos
    · rintro rfl
      rw [judgePosition_matOpen number tagAt _ hpos]
      refine ⟨?_, fun hall => ⟨?_, fun hnone => ?_⟩⟩
      · rintro ⟨q, ref, hq, hfail⟩
        rw [openPosition_of_fails hq ⟨ref, hfail⟩]
      · rintro ⟨q, ref, hq, href, hle⟩
        rw [openPosition_of_passes hall hq href hle]
      · rw [openPosition_of_untested hnone]
    · rintro ⟨q, hq, hr⟩
      exact judgePosition_of_presenceRailed number tagAt _ hpos hq hr
    · intro hr
      exact judgePosition_of_notPresenceRailed number tagAt _ hpos hr
  · intro s r number test tagAt ms hp hf
    obtain ⟨hmeas, hsoft⟩ := completeSweep_faults s number test tagAt r
    refine ⟨_, fun p => (judgePosition s.config.running p number test tagAt s.sfe.channels r
      (s.sfe.positions.get p)).reports, sweepCompletion_of_periodic hp hf, ?_, ?_, fun p => rfl⟩
    · rw [hmeas, foldl_reportMeas_meas]
      rfl
    · rw [hsoft, foldl_reportMeas_softFaults]
      rfl
  · intro c p number test tagAt channels r before one failed railed noPresence x hx hone hfailed hrailed hnoPresence
    replace hone : ∀ q, one q ↔ q ∈ channelsOf c p := fun q => (hone q).trans mem_channelsOf.symm
    have hp := mem_channelsOf (c := c) (p := p) (q := p).2 (.inl rfl)
    subst hx
    refine ⟨fun h => by rw [judgePosition_of_absent _ _ _ _ _ _ _ _ h], fun h => ⟨_, _, _, _, _, _,
      judgePosition_reports c p number test tagAt channels before r h, ?_⟩⟩
    replace hfailed : ∀ q, failed q ↔ test = true ∧ q ∈ channelsOf c p
        ∧ OpenFails (channels.get q).reference (r.channels.get q).main := fun q => by rw [hfailed, hone]; rfl
    replace hrailed : ∀ q, railed q ↔ q ∈ channelsOf c p ∧ MatRailed (r.channels.get q) :=
      fun q => by rw [hrailed, hone]; rfl
    replace hnoPresence : ∀ q, noPresence q ↔ q ∈ channelsOf c p ∧ atRail (r.channels.get q).presence = true :=
      fun q => by rw [hnoPresence, hone]
    have hnotRailed : (∀ q, ¬ railed q) → ∀ q ∈ channelsOf c p, ¬ MatRailed (r.channels.get q) :=
      fun hnone q hq hr => hnone q ((hrailed q).2 ⟨hq, hr⟩)
    refine ⟨fun hnone => ?_, fun q ref hf first href => ?_, fun hnone => ?_, fun q hr first => ?_, ?_,
      fun ht hnone hlt => crossReport_of_beyond ht (hnotRailed hnone) hlt, fun hnone => ?_, fun q hq first => ?_,
      beltReport_eq, fun ⟨ht, hc, hr, hv⟩ => tagReport_of_unclear ht hc hr hv, tagReport_of_none⟩
    · exact openReport_of_none fun ht q hq hfails => hnone q ((hfailed q).2 ⟨ht, hq, hfails⟩)
    · obtain ⟨ht, hq, hfails⟩ := (hfailed q).1 hf
      exact openReport_of_first ht hq href hfails fun hne hfp => first hne ((hfailed p).2 ⟨ht, hp, hfp⟩)
    · exact railReport_of_none (hnotRailed hnone)
    · obtain ⟨hq, hmat⟩ := (hrailed q).1 hr
      exact railReport_of_first hq hmat fun hne hpr => first hne ((hrailed p).2 ⟨hp, hpr⟩)
    · rintro (ht | ⟨q, hr⟩ | ⟨hle, hle'⟩)
      · exact crossReport_of_skip (.inl ht)
      · obtain ⟨hq, hmat⟩ := (hrailed q).1 hr
        exact crossReport_of_skip (.inr (railedMat_isSome hq hmat))
      · exact crossReport_of_within hle hle'
    · exact presenceReport_of_none fun q hq => by
        simpa using fun hr => hnone q ((hnoPresence q).2 ⟨hq, hr⟩)
    · obtain ⟨hmem, hr⟩ := (hnoPresence q).1 hq
      exact presenceReport_of_first hmem hr fun hne => by
        simpa using fun hpr => first hne ((hnoPresence p).2 ⟨hp, hpr⟩)

end Sys2Proof.Machine

namespace Sys2Proof.Machine

/-! ### The start of a sweep (R25 to R28) -/

/-- R27: the first tag-fitted position from the pointer upward is read. -/
theorem tagPosition_of_first {c : Conf} {pointer k : Pos} (hk : tagFitted c (pointer + k) = true)
    (hlt : ∀ j : Pos, j < k → tagFitted c (pointer + j) = false) : tagPosition c pointer = some (pointer + k) := by
  have h0 : 0 < k → tagFitted c pointer = false := by simpa using hlt 0
  match k with
  | 0 => simpa [tagPosition] using hk
  | 1 => simp [tagPosition, hk, h0 (by decide)]
  | 2 => simp [tagPosition, hk, h0 (by decide), hlt 1 (by decide)]
  | 3 => simp [tagPosition, hk, h0 (by decide), hlt 1 (by decide), hlt 2 (by decide)]

/-- R27: with no tag-fitted position there is no tag read. -/
theorem tagPosition_of_none {c : Conf} {pointer : Pos} (h : ∀ p, tagFitted c p = false) :
    tagPosition c pointer = none := by
  simp [tagPosition, h]

/-- R25, R26: with no sweep in flight, SWEEP_START starts one exactly where the period timer stands at the period of the
mode. -/
theorem sweepStart_of_running {s : State} {ms : Nat} (hp : s.powered = true) (hperiod : s.sweep.period = .running ms)
    (hf : s.sweep.flight = none) :
    exec .sweepStart s = .next (if periodMs s.modeCtl.mode ≤ ms then
      { s with sweep := s.sweep.start s.config.running, emission := { s.emission with placedMark := false } }
      else s) := by
  have hcan : s.canStartSweep = decide (periodMs s.modeCtl.mode ≤ ms) := by
    simp [State.canStartSweep, hp, hperiod, hf, isAt_running]
  show execSweepStart s = _
  simp only [execSweepStart, onlyIf_next, hcan, decide_eq_true_eq]
  rfl

/-- Settles O6: below the period nothing starts; at it the controller's start, with the position read by
`tagPosition`. -/
theorem sweepStartTakesNumber : Obligations.SweepStartTakesNumber := by
  intro s ms period hp hrunning hf hperiod
  replace hperiod : period = periodMs s.modeCtl.mode := hperiod
  have hexec := sweepStart_of_running hp hrunning hf
  rw [← hperiod] at hexec
  refine ⟨fun hlt => ?_, fun hle => ?_⟩
  · rw [hexec, if_neg (by omega)]
  · rw [if_pos hle] at hexec
    refine ⟨_, tagPosition s.config.running s.sweep.pointer, hexec, rfl, rfl, rfl, rfl, rfl, fun k hk hlt => ?_,
      fun hnone => ?_⟩
    · have hread := tagPosition_of_first hk hlt
      exact ⟨hread, by simp only [SweepCtl.start, hread]⟩
    · have hread := tagPosition_of_none (pointer := s.sweep.pointer) hnone
      exact ⟨hread, by simp only [SweepCtl.start, hread]⟩

/-! ### The one-shot sweep (R35) -/

/-- R35: with a one-shot sweep in flight, ONE_SHOT_COMPLETION ends the flight and offers the reply. -/
theorem oneShotCompletion_of_oneShot {s : State} {p : Pos} {part : MeasurePart} {ms : Nat} (hp : s.powered = true)
    (hf : s.sweep.flight = some (.oneShot p part ms)) (r : SweepReadings) :
    exec (.oneShotCompletion r) s
      = .next (s.endFlight.place .diagReply (replyPayload 5 .ok (measureData s.config.running p part r))) := by
  show execOneShotCompletion r s = _
  simp [execOneShotCompletion, hp, hf, measureItem]

section MeasureData

variable {c : Conf} {p : Pos} {r : SweepReadings}

/-- R35: a position that is not tag-fitted answers as one where no tag replies. -/
theorem measureData_tag_of_notFitted (h : tagFitted c p = false) : measureData c p .tag r = [0, 0, 0, 0] := by
  simp [measureData, h, tagReadBytes]

/-- R35: a tag-fitted position answers with the bytes of its read. -/
theorem measureData_tag_of_fitted (h : tagFitted c p = true) :
    measureData c p .tag r = tagReadBytes (tagResult r.tag) := by
  simp [measureData, h]

end MeasureData

/-- Settles O10: the completion's own equation, and the data part by part. -/
theorem oneShotAnswersMeasure : Obligations.OneShotAnswersMeasure := by
  intro s r p part ms hp hf
  refine ⟨_, _, oneShotCompletion_of_oneShot hp hf r, rfl, ?_, ?_, ?_, ?_, ?_, ?_⟩
  · rintro rfl
    rfl
  · rintro rfl
    rfl
  · rintro rfl hfit
    exact measureData_tag_of_notFitted hfit
  · rintro rfl hfit hread
    rw [measureData_tag_of_fitted hfit, hread]
    rfl
  · rintro rfl hfit hread
    rw [measureData_tag_of_fitted hfit, hread]
    rfl
  · rintro g rfl hfit hread
    rw [measureData_tag_of_fitted hfit, hread]
    rfl

end Sys2Proof.Machine

namespace Sys2Proof.Machine

/-! ### Alerts that end together (R193) -/

/-- R193: the record with its alert ended, where that is ACTIVE and c says so of the record. -/
def Record.alertEnded (c : Record → Bool) (after : Alert) (r : Record) : Record :=
  if r.alert.isActive && c r then { r with alert := after } else r

/-- The seat with the alert of its record ended so. -/
def Seat.alertEnded (c : Record → Bool) (after : Alert) (seat : Seat) : Seat :=
  { seat with record := seat.record.map (Record.alertEnded c after) }

/-- R193: x is an ALERT of position p, whose record has an ACTIVE alert that c names. -/
def State.endsAlertFor (s : State) (c : Record → Bool) (p : Pos) (x : TxEntry) : Bool :=
  (s.recordAt p).any (fun r => r.alert.isActive && c r) && x.alertsFor p

/-- The state with these seats and this link, all else as it stands. -/
def State.putSeats (s : State) (seats : Four Seat) (link : Link) : State :=
  { s with table := { s.table with seats := seats }, link := link }

/-- R193: the state once the ACTIVE alerts that c names at these positions have ended, their waiting ALERTs
withdrawn. -/
def State.alertsEnded (s : State) (c : Record → Bool) (after : Alert) (ps : List Pos) : State :=
  s.putSeats
    (Four.ofFn fun p => if p ∈ ps then (s.table.seats.get p).alertEnded c after else s.table.seats.get p)
    (s.link.without fun x => ps.any fun p => s.endsAlertFor c p x)

theorem without_without (l : Link) (c d : TxEntry → Bool) :
    (l.without c).without d = l.without fun x => c x || d x := by
  have hkeep : ∀ x : TxEntry, ((x.sending || !d x) && (x.sending || !c x)) = (x.sending || !(c x || d x)) := by
    intro x
    rw [← Bool.or_and_distrib_left, Bool.not_or, Bool.and_comm]
  simp only [Link.without, List.filter_filter, hkeep]

theorem without_false (l : Link) : (l.without fun _ => false) = l := by
  simp [Link.without]

section Alerts

variable (s : State) (c : Record → Bool) (after : Alert)

theorem alertEnded_of_ends {r : Record} (h : (r.alert.isActive && c r) = true) :
    r.alertEnded c after = { r with alert := after } := if_pos h

theorem alertEnded_of_stays {r : Record} (h : (r.alert.isActive && c r) = false) : r.alertEnded c after = r := by
  simp [Record.alertEnded, h]

theorem seat_alertEnded_of_stays {seat : Seat}
    (h : seat.record.any (fun r => r.alert.isActive && c r) = false) : seat.alertEnded c after = seat := by
  obtain ⟨cls, record, securing⟩ := seat
  cases record with
  | none => rfl
  | some r => simp [Seat.alertEnded, alertEnded_of_stays c after (r := r) h]

theorem alertsEnded_seats_get (ps : List Pos) (p : Pos) :
    (s.alertsEnded c after ps).table.seats.get p
      = if p ∈ ps then (s.table.seats.get p).alertEnded c after else s.table.seats.get p := by
  simp [State.alertsEnded, State.putSeats]

/-- Where no alert ends, all stands. -/
theorem alertsEnded_of_none {ps : List Pos}
    (h : ∀ p ∈ ps, (s.recordAt p).any (fun r => r.alert.isActive && c r) = false) :
    s.alertsEnded c after ps = s := by
  have hseats : (Four.ofFn fun p => if p ∈ ps then (s.table.seats.get p).alertEnded c after else s.table.seats.get p)
      = s.table.seats := by
    refine Four.eq_of_get _ _ fun p => ?_
    rw [Four.get_ofFn]
    split
    · next hp => exact seat_alertEnded_of_stays c after (h p hp)
    · rfl
  have hlink : (s.link.without fun x => ps.any fun p => s.endsAlertFor c p x) = s.link := by
    have hgone : (fun x => ps.any fun p => s.endsAlertFor c p x) = fun _ => false :=
      funext fun x => List.any_eq_false.2 fun p hp => by simp [State.endsAlertFor, h p hp]
    rw [hgone, without_false]
  exact congrArg₂ s.putSeats hseats hlink

/-- R193: at one position, the ACTIVE alert that c names ends. -/
theorem endAlert_eq_alertsEnded (p : Pos) :
    (if (s.recordAt p).any c then s.endAlert p after else s) = s.alertsEnded c after [p] := by
  cases hr : s.recordAt p with
  | none => exact (alertsEnded_of_none s c after (by simp [hr])).symm
  | some r =>
    cases hends : r.alert.isActive && c r with
    | false =>
      rw [alertsEnded_of_none s c after (by simp [hr, hends])]
      cases hc : c r
      · simp [hc]
      · simp [hc, State.endAlert, hr, show r.alert.isActive = false by simpa [hc] using hends]
    | true =>
      obtain ⟨hactive, hc⟩ := Bool.and_eq_true_iff.1 hends
      have hseats : s.table.seats.set p { s.table.seats.get p with record := some { r with alert := after } }
          = Four.ofFn fun q => if q ∈ [p] then (s.table.seats.get q).alertEnded c after else s.table.seats.get q := by
        refine Four.eq_of_get _ _ fun q => ?_
        rw [Four.get_set, Four.get_ofFn]
        simp only [List.mem_singleton]
        split
        · next h =>
          subst h
          have hrecord : (s.table.seats.get q).record = some r := hr
          simp [Seat.alertEnded, hrecord, alertEnded_of_ends c after hends]
        · rfl
      have hgone : (fun x : TxEntry => x.alertsFor p) = fun x => [p].any fun q => s.endsAlertFor c q x := by
        simp [State.endsAlertFor, hr, hends]
      simp only [Option.any_some, hc, if_true, State.endAlert, hr, hactive, updateRecord_of_some s hr]
      exact congrArg₂ s.putSeats hseats (congrArg s.link.without hgone)

/-- Alerts that end at one position and then at others end at all of them. -/
theorem alertsEnded_alertsEnded {p : Pos} {ps : List Pos} (hp : p ∉ ps) :
    (s.alertsEnded c after [p]).alertsEnded c after ps = s.alertsEnded c after (p :: ps) := by
  have hother : ∀ q ∈ ps, (s.alertsEnded c after [p]).table.seats.get q = s.table.seats.get q := fun q hq => by
    rw [alertsEnded_seats_get, if_neg]
    rintro hqp
    exact hp (List.mem_singleton.1 hqp ▸ hq)
  have hlink : ((s.alertsEnded c after [p]).link.without fun x =>
        ps.any fun q => (s.alertsEnded c after [p]).endsAlertFor c q x)
      = s.link.without fun x => (p :: ps).any fun q => s.endsAlertFor c q x := by
    have hgone : ∀ x, (ps.any fun q => (s.alertsEnded c after [p]).endsAlertFor c q x)
        = ps.any fun q => s.endsAlertFor c q x := fun x => by
      rw [Bool.eq_iff_iff, List.any_eq_true, List.any_eq_true]
      exact exists_congr fun q => and_congr_right fun hq => by
        simp only [State.endsAlertFor, State.recordAt, hother q hq]
    simp only [hgone]
    refine (without_without s.link _ _).trans ?_
    simp
  refine congrArg₂ s.putSeats (Four.eq_of_get _ _ fun q => ?_) hlink
  rw [Four.get_ofFn, Four.get_ofFn]
  by_cases hq : q ∈ ps
  · rw [if_pos hq, if_pos (List.mem_cons_of_mem p hq), hother q hq]
  · rw [if_neg hq, alertsEnded_seats_get]
    simp [hq]

/-- R193: of the entries, an ALERT of a record whose alert ends somewhere is withdrawn. -/
theorem any_endsAlertFor_iff (x : TxEntry) :
    (positionsInOrder.any fun p => s.endsAlertFor c p x) = true
      ↔ ∃ p r, s.recordAt p = some r ∧ (r.alert.isActive && c r) = true ∧ x.alertsFor p = true := by
  simp only [List.any_eq_true, mem_positionsInOrder, true_and, State.endsAlertFor, Bool.and_eq_true (Option.any _ _),
    Option.any_eq_true, ← exists_and_right, and_assoc]

/-- R193: ending such alerts one position after another ends them all. -/
theorem foldl_endAlert {ps : List Pos} (h : ps.Nodup) :
    ps.foldl (fun s p => if (s.recordAt p).any c then s.endAlert p after else s) s = s.alertsEnded c after ps := by
  induction ps generalizing s with
  | nil => exact (alertsEnded_of_none s c after (by simp)).symm
  | cons p ps ih =>
    obtain ⟨hp, hnodup⟩ := List.nodup_cons.1 h
    rw [List.foldl_cons, ih _ hnodup, endAlert_eq_alertsEnded, alertsEnded_alertsEnded s c after hp]

end Alerts

/-! ### The refusal reasons and the idle timer (R182, R184) -/

section Reasons

variable (s : State)

theorem testReasons_of_noWindow (h : s.modeCtl.window = none) : s.testReasons = s := by
  simp [State.testReasons, h]

theorem testReasons_of_refused {w : Window} (h : s.modeCtl.window = some w) (hw : w.refusedHere = true) :
    s.testReasons = s := by
  simp [State.testReasons, h, hw]

theorem testReasons_of_noReason (h : s.refusalReason = none) : s.testReasons = s := by
  cases hwindow : s.modeCtl.window with
  | none => exact testReasons_of_noWindow s hwindow
  | some w => simp [State.testReasons, hwindow, h]

theorem testReasons_of_reason {w : Window} {reason : Reason} (h : s.modeCtl.window = some w)
    (hw : w.refusedHere = false) (hr : s.refusalReason = some reason) : s.testReasons = s.placeRefusal w reason := by
  simp [State.testReasons, h, hw, hr]

/-- R184: what a test of the reasons does, in its two cases. -/
theorem testReasons_cases :
    s.testReasons = s
      ∨ ∃ w reason, s.modeCtl.window = some w ∧ s.testReasons = s.placeRefusal w reason := by
  cases hwindow : s.modeCtl.window with
  | none => exact .inl (testReasons_of_noWindow s hwindow)
  | some w =>
    cases hw : w.refusedHere with
    | true => exact .inl (testReasons_of_refused s hwindow hw)
    | false =>
      cases hr : s.refusalReason with
      | none => exact .inl (testReasons_of_noReason s hr)
      | some reason => exact .inr ⟨w, reason, rfl, testReasons_of_reason s hwindow hw hr⟩

/-- R184: what a SLEEP_REFUSE leaves, whether or not the transmit queue takes it. -/
theorem placeRefusal_writes (w : Window) (reason : Reason) :
    (s.placeRefusal w reason).modeCtl
        = { s.modeCtl with window := some { w with refusedHere := true }, idle := s.modeCtl.idle.restart }
      ∧ (s.placeRefusal w reason).link = (s.offerTx (newEntry .sleepRefuse [toByte reason.code] none)).link
      ∧ (s.placeRefusal w reason).diag.meas = s.diag.meas ∧ (s.placeRefusal w reason).diag.link = s.diag.link :=
  ⟨rfl, rfl, rfl, rfl⟩

/-- R184: a second test of the reasons in the same opening places no further SLEEP_REFUSE. -/
theorem testReasons_testReasons : s.testReasons.testReasons = s.testReasons := by
  obtain h | ⟨w, reason, -, h⟩ := testReasons_cases s
  · rw [h, h]
  · rw [h]
    exact testReasons_of_refused _ (w := { w with refusedHere := true }) rfl rfl

theorem restart_restart (timer : Timer) : timer.restart.restart = timer.restart := by
  cases timer <;> rfl

/-- R182: the state with the idle timer restarted, where there was an own change. -/
def State.idleMoved (s : State) (changed : Bool) : State :=
  s.setModeCtl { s.modeCtl with idle := if changed then s.modeCtl.idle.restart else s.modeCtl.idle }

/-- R182, R184: an own change restarts the idle timer and, where it runs, tests the reasons. -/
theorem idleStep_eq (changed : Bool) :
    s.idleStep changed
      = if changed && s.modeCtl.idle.isRunning then (s.idleMoved changed).testReasons else s.idleMoved changed := by
  cases changed with
  | false => rfl
  | true =>
    cases hi : s.modeCtl.idle with
    | stopped =>
      have hstands : s.idleMoved true = s := by
        rw [State.idleMoved, hi]
        simp only [if_true, Timer.restart, ← hi]
        rfl
      simp [State.idleStep, State.restartIdle, hi, Timer.isRunning, hstands]
    | running ms => simp [State.idleStep, State.restartIdle, hi, Timer.isRunning, State.idleMoved, Timer.restart]

/-- R184: the two tests of step 6 place one SLEEP_REFUSE at most. -/
theorem latchReason_idleStep (changed : Bool) (event : LatchEvent) :
    (s.idleStep changed).latchReason event
      = if changed && s.modeCtl.idle.isRunning || event.opens then (s.idleMoved changed).testReasons
        else s.idleMoved changed := by
  rw [State.latchReason, idleStep_eq]
  cases changed && s.modeCtl.idle.isRunning with
  | false => simp
  | true => simp [testReasons_testReasons]

end Reasons

theorem latchEvent_opens_iff (event : LatchEvent) :
    event.opens = true ↔ event = .changed .opened ∨ event = .firstSet .opened := by
  rcases event with _ | ⟨_ | _⟩ | ⟨_ | _⟩ <;> simp [LatchEvent.opens]

theorem timer_isRunning_iff (timer : Timer) : timer.isRunning = true ↔ timer ≠ .stopped := by
  cases timer <;> simp [Timer.isRunning]

theorem endsAlertByClass_iff (r : Record) :
    (r.alert.isActive && r.endsAlertByClass) = true
      ↔ r.alert.isActive = true ∧ r.cls ≠ .small ∧ r.cls ≠ .csOccupied := by
  simp [Record.endsAlertByClass]

/-- R193: once alerts have ended by class, none is ACTIVE outside the qualifying classes. -/
theorem not_active_of_alertEnded {r : Record}
    (h : (r.alertEnded Record.endsAlertByClass .none).endsAlertByClass = true) :
    (r.alertEnded Record.endsAlertByClass .none).alert.isActive = false := by
  cases hends : r.alert.isActive && r.endsAlertByClass with
  | true => rw [alertEnded_of_ends _ _ hends]; rfl
  | false =>
    rw [alertEnded_of_stays _ _ hends] at h ⊢
    simpa [h] using hends

/-! ### Step 6 in ACTIVE (R29) -/

/-- Step 6 in ACTIVE up to the tests of the refusal reasons: alerts ended by class, idle timer moved. -/
def State.beforeReasons (s : State) (c : OwnChanges) : State :=
  (s.alertsEnded Record.endsAlertByClass .none positionsInOrder).idleMoved (c.cls || c.belt)

/-- R182, R184: step 6 tests the refusal reasons. -/
def State.testsReasons (s : State) (c : OwnChanges) : Bool :=
  (c.cls || c.belt) && s.modeCtl.idle.isRunning || c.latch.opens

/-- Step 6 in ACTIVE up to the test of the left-behind timer. -/
def State.afterReasons (s : State) (c : OwnChanges) : State :=
  if s.testsReasons c then (s.beforeReasons c).testReasons else s.beforeReasons c

section StepSix

variable (s : State) (c : OwnChanges)

theorem endAlertsByClass_eq :
    s.endAlertsByClass = s.alertsEnded Record.endsAlertByClass .none positionsInOrder :=
  foldl_endAlert s Record.endsAlertByClass .none (by decide)

theorem beforeReasons_seats_get (p : Pos) :
    (s.beforeReasons c).table.seats.get p = (s.table.seats.get p).alertEnded Record.endsAlertByClass .none :=
  (alertsEnded_seats_get s Record.endsAlertByClass .none positionsInOrder p).trans (if_pos (mem_positionsInOrder p))

theorem beforeReasons_recordAt (p : Pos) :
    (s.beforeReasons c).recordAt p = (s.recordAt p).map (Record.alertEnded Record.endsAlertByClass .none) :=
  congrArg Seat.record (beforeReasons_seats_get s c p)

/-- R184: the tests of step 6 leave all as it is, or place one SLEEP_REFUSE. -/
theorem afterReasons_cases :
    s.afterReasons c = s.beforeReasons c
      ∨ ∃ w reason, s.modeCtl.window = some w ∧ s.afterReasons c = (s.beforeReasons c).placeRefusal w reason := by
  unfold State.afterReasons
  split
  · exact testReasons_cases (s.beforeReasons c)
  · exact .inl rfl

theorem afterReasons_modeCtl :
    (s.afterReasons c).modeCtl = { s.modeCtl with
        idle := (s.afterReasons c).modeCtl.idle, window := (s.afterReasons c).modeCtl.window } := by
  obtain h | ⟨w, reason, -, h⟩ := afterReasons_cases s c
  all_goals
    rw [h]
    rfl

theorem afterReasons_table : (s.afterReasons c).table = (s.beforeReasons c).table := by
  obtain h | ⟨w, reason, -, h⟩ := afterReasons_cases s c
  · rw [h]
  · rw [h]
    rfl

/-- R182: an own change leaves the idle timer restarted, whatever the tests find. -/
theorem afterReasons_idle_of_changed (h : (c.cls || c.belt) = true) :
    (s.afterReasons c).modeCtl.idle = s.modeCtl.idle.restart := by
  have hu : (s.beforeReasons c).modeCtl.idle = s.modeCtl.idle.restart := if_pos h
  obtain hv | ⟨w, reason, -, hv⟩ := afterReasons_cases s c
  · rw [hv, hu]
  · rw [hv, (placeRefusal_writes _ w reason).1, hu, restart_restart]

/-- With no window open the tests find nothing to refuse. -/
theorem afterReasons_of_noWindow (h : s.modeCtl.window = none) : s.afterReasons c = s.beforeReasons c := by
  obtain hv | ⟨w, reason, hw, -⟩ := afterReasons_cases s c
  · exact hv
  · rw [h] at hw
    cases hw

theorem afterReasons_of_noRefusal
    (h : ¬ s.testsReasons c = true ∨ s.modeCtl.window = none ∨ (s.beforeReasons c).refusalReason = none) :
    s.afterReasons c = s.beforeReasons c := by
  rcases h with h | h | h
  · exact if_neg h
  · exact afterReasons_of_noWindow s c h
  · rw [State.afterReasons, testReasons_of_noReason _ h, ite_self]

theorem afterReasons_of_refused {w : Window} (hw : s.modeCtl.window = some w) (h : w.refusedHere = true) :
    s.afterReasons c = s.beforeReasons c := by
  rw [State.afterReasons, testReasons_of_refused (s.beforeReasons c) hw h, ite_self]

/-- Outside WATCH the vacant run stands and nothing is woken. -/
theorem watchStep_of_notWatch {s : State} (h : s.modeCtl.mode ≠ .watch) (ownChange : Bool) :
    s.watchStep ownChange = s := by
  have hvacant : s.vacantStep = s := if_neg h
  have hwake : s.wakeOthers ownChange = s := if_neg fun hboth => h hboth.1
  simp [State.watchStep, hvacant, hwake]

/-- R29, R191: in ACTIVE step 6 moves idle timer, window and alerts, and then tests the left-behind timer. -/
theorem modeStep_of_active {s : State} (h : s.modeCtl.mode = .active) :
    s.modeStep c = { s.afterReasons c with modeCtl := { (s.afterReasons c).modeCtl with
      leftBehindMs := if (s.beforeReasons c).table.anyQualifies then s.modeCtl.leftBehindMs else 0 } } := by
  have hmoved : (s.endAlertsByClass.idleStep (c.cls || c.belt)).latchReason c.latch = s.afterReasons c := by
    rw [endAlertsByClass_eq, latchReason_idleStep]
    rfl
  have hms : (s.afterReasons c).modeCtl.leftBehindMs = s.modeCtl.leftBehindMs := by rw [afterReasons_modeCtl]
  have hmode : (s.afterReasons c).testLeftBehind.modeCtl.mode ≠ .watch := by
    show (s.afterReasons c).modeCtl.mode ≠ .watch
    rw [afterReasons_modeCtl]
    simp [h]
  rw [State.modeStep, hmoved, watchStep_of_notWatch hmode, State.testLeftBehind, afterReasons_table, hms]
  rfl

end StepSix

/-! ### What steps 1 to 5 leave of the classes and the mode controller -/

/-- R191: of the mode controller only the left-behind timer has moved, and it has not risen. -/
def ModeCtl.LeftBehindLowered (m m' : ModeCtl) : Prop :=
  m' = { m with leftBehindMs := m'.leftBehindMs } ∧ m'.leftBehindMs ≤ m.leftBehindMs

section BeforeStepSix

variable (s : State)

theorem leftBehindLowered_refl (m : ModeCtl) : m.LeftBehindLowered m := ⟨rfl, le_refl _⟩

theorem leftBehindLowered_trans {a b c : ModeCtl} (hab : a.LeftBehindLowered b) (hbc : b.LeftBehindLowered c) :
    a.LeftBehindLowered c := by
  obtain ⟨hb, hble⟩ := hab
  obtain ⟨hc, hcle⟩ := hbc
  exact ⟨by rw [hc, hb], le_trans hcle hble⟩

theorem testLeftBehind_lowered : s.modeCtl.LeftBehindLowered s.testLeftBehind.modeCtl := by
  refine ⟨rfl, ?_⟩
  rw [State.testLeftBehind, setModeCtl_modeCtl]
  split <;> simp

theorem depart_lowered (p : Pos) : s.modeCtl.LeftBehindLowered (s.depart p).modeCtl := by
  unfold State.depart
  split
  · exact leftBehindLowered_refl _
  · next r hr =>
    dsimp only
    have hbase : ∀ t : State, t.modeCtl = s.modeCtl → s.modeCtl.LeftBehindLowered (t.endRecord p).modeCtl :=
      fun t ht => ht ▸ testLeftBehind_lowered _
    split <;> exact hbase _ (by simp)

theorem takeSeatChange_lowered (p : Pos) (change : SeatChange) :
    s.modeCtl.LeftBehindLowered (s.takeSeatChange p change).modeCtl := by
  cases change with
  | none => exact leftBehindLowered_refl _
  | arrival fromUnscanned =>
    simp only [State.takeSeatChange, arrive_keeps]
    exact leftBehindLowered_refl _
  | departure => exact depart_lowered s p
  | classChange => exact leftBehindLowered_refl _
  | exchange =>
    simp only [State.takeSeatChange, arrive_keeps]
    exact depart_lowered s p

theorem takeClasses_lowered (before : Four Cls) (test : Bool) :
    s.modeCtl.LeftBehindLowered (s.takeClasses before test).modeCtl :=
  List.foldlRecOn positionsInOrder _ (motive := fun t : State => s.modeCtl.LeftBehindLowered t.modeCtl)
    (leftBehindLowered_refl _) fun t ht p _ => leftBehindLowered_trans ht (takeSeatChange_lowered t p _)

/-- R75, R191: of step 3 only the ends of records reach the mode controller, and there only the left-behind timer. -/
theorem tableStep_lowered (before : Four Cls) (test : Bool) (o : SensingOutcome) :
    s.modeCtl.LeftBehindLowered (s.tableStep before test o).modeCtl := by
  simp only [State.tableStep, sendPendingRelease_keeps, takeLatch_keeps, takeBelts_keeps]
  exact takeClasses_lowered s before test

/-- Changing the record of a seat leaves the classes. -/
theorem updateSeat_keepsCls (p : Pos) {f : Seat → Seat} (hf : ∀ seat, (f seat).cls = seat.cls) :
    (s.updateSeat p f).table.seats.map Seat.cls = s.table.seats.map Seat.cls := by
  refine Four.eq_of_get _ _ fun q => ?_
  by_cases h : q = p <;> simp [State.updateSeat, Four.get_set, h, hf]

theorem searchOrSettle_keepsCls (p : Pos) :
    (s.searchOrSettle p).table.seats.map Seat.cls = s.table.seats.map Seat.cls := by
  unfold State.searchOrSettle
  repeat' split
  all_goals simp [State.takeMatch]

theorem arrive_keepsCls (p : Pos) (fromUnscanned : Bool) :
    (s.arrive p fromUnscanned).table.seats.map Seat.cls = s.table.seats.map Seat.cls := by
  unfold State.arrive
  split
  · exact updateSeat_keepsCls s p fun _ => rfl
  · rw [searchOrSettle_keepsCls]
    exact updateSeat_keepsCls s p fun _ => rfl

theorem handOn_seats (p : Pos) (r : Record) : (s.handOn p r).table.seats = s.table.seats := by
  simp [State.handOn]

theorem depart_keepsCls (p : Pos) : (s.depart p).table.seats.map Seat.cls = s.table.seats.map Seat.cls := by
  have hend : ∀ t : State, t.table.seats = s.table.seats →
      (t.endRecord p).table.seats.map Seat.cls = s.table.seats.map Seat.cls := fun t ht => by
    rw [← ht, State.endRecord]
    simp only [testLeftBehind_keeps, setLamps_table]
    exact updateSeat_keepsCls t p fun _ => rfl
  unfold State.depart
  split
  · rfl
  · dsimp only
    split <;> exact hend _ (by simp [handOn_seats])

theorem takeSeatChange_keepsCls (p : Pos) (change : SeatChange) :
    (s.takeSeatChange p change).table.seats.map Seat.cls = s.table.seats.map Seat.cls := by
  cases change with
  | none => rfl
  | arrival fromUnscanned => exact arrive_keepsCls s p fromUnscanned
  | departure => exact depart_keepsCls s p
  | classChange => exact (updateRecord_keepsClasses s p _).1
  | exchange => exact (arrive_keepsCls _ p false).trans (depart_keepsCls s p)

theorem takeClasses_keepsCls (before : Four Cls) (test : Bool) :
    (s.takeClasses before test).table.seats.map Seat.cls = s.table.seats.map Seat.cls :=
  List.foldlRecOn positionsInOrder _
    (motive := fun t : State => t.table.seats.map Seat.cls = s.table.seats.map Seat.cls)
    rfl fun t ht p _ => (takeSeatChange_keepsCls t p _).trans ht

theorem tableStep_keepsCls (before : Four Cls) (test : Bool) (o : SensingOutcome) :
    (s.tableStep before test o).table.seats.map Seat.cls = s.table.seats.map Seat.cls := by
  simp [State.tableStep, takeClasses_keepsCls]

end BeforeStepSix

/-! ### A completion by its step 6 (R29) -/

/-- R182: the own changes of a completion, read off the classes and belt states before and after. -/
theorem ownChanges_iff (before after : Four Cls) (o : SensingOutcome) :
    ((ownChanges before after o).cls = true ↔ ∃ p, before.get p ≠ after.get p)
      ∧ ((ownChanges before after o).belt = true ↔ ∃ p, o.beltChanged.get p = true)
      ∧ (ownChanges before after o).latch = o.latchEvent := by
  refine ⟨?_, Four.any_iff o.beltChanged fun b => b, rfl⟩
  show (before != after) = true ↔ _
  rw [bne_iff_ne, ← not_iff_not, not_not, not_exists]
  simp only [not_not]
  exact ⟨fun h p => h ▸ rfl, Four.eq_of_get before after⟩

section Completion

variable (s : State) (number : Word16) (test : Bool) (tagAt : Option Pos) (r : SweepReadings)

/-- R29: the completion once its step 2 is done. -/
def State.classifiedBy : State :=
  (s.sensingStep (sense s.config.running number test tagAt r s.sfe)).classifierStep
    (sense s.config.running number test tagAt r s.sfe) r test

/-- R29: the completion once its step 5 is done. -/
def State.beforeStepSix : State :=
  ((s.classifiedBy number test tagAt r).tableStep (s.table.seats.map Seat.cls) test
    (sense s.config.running number test tagAt r s.sfe)).ladderStep.reportStep

/-- R182: the own changes step 6 of the completion takes. -/
def State.changesBy : OwnChanges :=
  ownChanges (s.table.seats.map Seat.cls) ((s.classifiedBy number test tagAt r).table.seats.map Seat.cls)
    (sense s.config.running number test tagAt r s.sfe)

theorem completeSweep_eq_modeStep :
    s.completeSweep number test tagAt r
      = ((s.beforeStepSix number test tagAt r).modeStep (s.changesBy number test tagAt r)).endFlight := rfl

theorem beforeStepSix_lowered : s.modeCtl.LeftBehindLowered (s.beforeStepSix number test tagAt r).modeCtl := by
  have h := tableStep_lowered (s.classifiedBy number test tagAt r) (s.table.seats.map Seat.cls) test
    (sense s.config.running number test tagAt r s.sfe)
  simpa [State.beforeStepSix, State.classifiedBy] using h

theorem completeSweep_keepsCls :
    (s.completeSweep number test tagAt r).table.seats.map Seat.cls
      = (s.classifiedBy number test tagAt r).table.seats.map Seat.cls := by
  simp [completeSweep_eq_modeStep, State.beforeStepSix, tableStep_keepsCls]

/-- R182: an own class or belt change, by the classes and belt states before and after the completion. -/
theorem changesBy_iff :
    ((s.changesBy number test tagAt r).cls || (s.changesBy number test tagAt r).belt) = true
      ↔ ∃ p, ((s.completeSweep number test tagAt r).table.seats.get p).cls ≠ (s.table.seats.get p).cls
        ∨ ((s.completeSweep number test tagAt r).sfe.positions.get p).belt ≠ (s.sfe.positions.get p).belt := by
  obtain ⟨hcls, hbelt, -⟩ := ownChanges_iff (s.table.seats.map Seat.cls)
    ((s.classifiedBy number test tagAt r).table.seats.map Seat.cls) (sense s.config.running number test tagAt r s.sfe)
  rw [Bool.or_eq_true, State.changesBy, hcls, hbelt, ← completeSweep_keepsCls, exists_or]
  refine or_congr (exists_congr fun p => ?_) (exists_congr fun p => ?_)
  · rw [Four.get_map, Four.get_map, ne_comm]
  · rw [completeSweep_positions_get]
    simp [sense]

/-- R29: in ACTIVE a completion leaves the mode controller and the records as its step 6 makes them. -/
theorem completeSweep_of_active {s : State} (h : s.modeCtl.mode = .active) :
    (s.completeSweep number test tagAt r).modeCtl
        = { ((s.beforeStepSix number test tagAt r).afterReasons (s.changesBy number test tagAt r)).modeCtl with
            leftBehindMs :=
              if ((s.beforeStepSix number test tagAt r).beforeReasons
                (s.changesBy number test tagAt r)).table.anyQualifies
              then (s.beforeStepSix number test tagAt r).modeCtl.leftBehindMs else 0 }
      ∧ (s.completeSweep number test tagAt r).table
        = ((s.beforeStepSix number test tagAt r).beforeReasons (s.changesBy number test tagAt r)).table := by
  obtain ⟨hctl, -⟩ := beforeStepSix_lowered s number test tagAt r
  have hactive : (s.beforeStepSix number test tagAt r).modeCtl.mode = .active := by rw [hctl, h]
  rw [completeSweep_eq_modeStep, modeStep_of_active _ hactive]
  exact ⟨rfl, afterReasons_table _ _⟩

end Completion

theorem anyQualifies_eq_false (s : State) :
    s.table.anyQualifies = false ↔ ∀ p r, s.recordAt p = some r → r.qualifies = false := by
  rw [← Bool.not_eq_true, Positions.anyQualifies, Four.any_iff]
  simp [Option.any_eq_true, State.recordAt]

/-- Settles O47: the own changes; step 6 as `beforeReasons`, `afterReasons` and the left-behind test give it; and a
completion by its step 6. -/
theorem completionMovesIdleAndAlerts : Obligations.CompletionMovesIdleAndAlerts := by
  refine ⟨ownChanges_iff, ?_, ?_⟩
  · intro s c changed tests ends gone hm hchanged htests hends hgone
    replace hchanged : changed ↔ (c.cls || c.belt) = true := hchanged.trans Bool.or_eq_true_iff.symm
    replace htests : tests ↔ s.testsReasons c = true := by
      rw [htests, hchanged, ← latchEvent_opens_iff, ← timer_isRunning_iff, ← Bool.and_eq_true, ← Bool.or_eq_true]
      rfl
    replace hends : ∀ r, ends r ↔ (r.alert.isActive && r.endsAlertByClass) = true := fun r =>
      (hends r).trans (endsAlertByClass_iff r).symm
    replace hgone : gone = fun x => positionsInOrder.any fun p => s.endsAlertFor Record.endsAlertByClass p x := by
      funext x
      rw [Bool.eq_iff_iff, hgone, any_endsAlertFor_iff]
      simp only [hends]
    subst hgone
    refine ⟨s.beforeReasons c, s.afterReasons c, rfl, fun h => if_pos (hchanged.1 h),
      fun h => if_neg fun hc => h (hchanged.2 hc), fun p => ⟨?_, ?_, ?_, ?_⟩, modeStep_of_active c hm, ?_, ?_⟩
    · rw [beforeReasons_seats_get]
      rfl
    · rw [beforeReasons_seats_get]
      rfl
    · intro hr
      rw [beforeReasons_recordAt, hr]
      rfl
    · intro r hr
      rw [beforeReasons_recordAt, hr, hends]
      exact ⟨fun h => congrArg some (alertEnded_of_ends _ _ h),
        fun h => congrArg some (alertEnded_of_stays _ _ (by simpa using h))⟩
    · rw [htests]
      exact afterReasons_of_noRefusal s c
    · intro w hw
      refine ⟨afterReasons_of_refused s c hw, fun reason hfresh ht hreason => ?_⟩
      have hv : s.afterReasons c = (s.beforeReasons c).placeRefusal w reason :=
        (if_pos (htests.1 ht)).trans (testReasons_of_reason _ hw hfresh hreason)
      rw [hv]
      exact ⟨rfl, placeRefusal_writes _ w reason⟩
  · intro s r number test tagAt ms hp hf hm
    obtain ⟨hctl, hms⟩ := beforeStepSix_lowered s number test tagAt r
    obtain ⟨hmode, htable⟩ := completeSweep_of_active number test tagAt r hm
    have hidle : (s.beforeStepSix number test tagAt r).modeCtl.idle = s.modeCtl.idle := by rw [hctl]
    have hwindow : (s.beforeStepSix number test tagAt r).modeCtl.window = s.modeCtl.window := by rw [hctl]
    refine ⟨_, _, sweepCompletion_of_periodic hp hf, changesBy_iff s number test tagAt r, ?_, fun h => ?_,
      fun h hw => ?_, fun hw => ?_, ?_, fun hnone => ?_, fun p r' hr hsmall hchild n timer halert => ?_⟩
    · rw [hmode, afterReasons_modeCtl, hctl]
    · rw [hmode]
      exact (afterReasons_idle_of_changed _ _ h).trans (congrArg _ hidle)
    · rw [hmode, afterReasons_of_noWindow _ _ (hwindow.trans hw)]
      exact (if_neg h).trans hidle
    · rw [hmode, afterReasons_of_noWindow _ _ (hwindow.trans hw)]
      exact hwindow.trans hw
    · rw [hmode]
      dsimp only
      split
      · exact hms
      · exact Nat.zero_le _
    · have hq := (anyQualifies_eq_false _).2 hnone
      rw [htable] at hq
      rw [hmode, hq]
      rfl
    · rw [State.recordAt, htable] at hr
      have hend := (beforeReasons_recordAt _ _ p).symm.trans hr
      obtain ⟨before, -, rfl⟩ := Option.map_eq_some_iff.1 hend
      have hinactive := not_active_of_alertEnded (r := before) (by simp [Record.endsAlertByClass, hsmall, hchild])
      rw [halert] at hinactive
      cases hinactive

end Sys2Proof.Machine

namespace Sys2Proof.Machine

/-! ### The load arithmetic (R41 to R48) -/

/-- Section 3.1: clamping to a range that is one is the lesser of the upper end, and the greater of the lower. -/
theorem clampInt_eq_max_min {lo hi : Int} (h : lo ≤ hi) (x : Int) : clampInt lo hi x = max lo (min hi x) := by
  unfold clampInt
  split
  · omega
  · split <;> omega

/-- R41: the net load by its formula, as an integer. -/
theorem netLoad_cast (r : Nat) (b16 : Int) (g : Nat) :
    (netLoad r b16 g : Int) = max 0 (min 2000 (((16 * (r : Int) - b16) * (g : Int)).tdiv 4096)) := by
  rw [netLoad, clampInt_eq_max_min (by decide)]
  omega

theorem netLoad_le (r : Nat) (b16 : Int) (g : Nat) : netLoad r b16 g ≤ 2000 := by
  have h := netLoad_cast r b16 g
  omega

/-- A step of a quarter of the way stays between its two ends. -/
theorem quarterStep_between (a b : Int) :
    min a b ≤ a + (b - a).tdiv 4 ∧ a + (b - a).tdiv 4 ≤ max a b := by
  have hsign : Int.sign 4 = 1 := rfl
  rw [Int.tdiv_eq_ediv, hsign]
  split <;> omega

/-- R43: the filter's step is never below 0, so it is what the formula gives. -/
theorem filterStep_cast (net lf : Nat) :
    (filterStep net lf : Int) = (lf : Int) + (4 * (net : Int) - (lf : Int)).tdiv 4 := by
  have h := quarterStep_between lf (4 * net)
  rw [filterStep]
  omega

theorem filterStep_le {net lf : Nat} (hnet : net ≤ 2000) (hlf : lf ≤ 8000) : filterStep net lf ≤ 8000 := by
  have h := quarterStep_between lf (4 * net)
  have hcast := filterStep_cast net lf
  omega

theorem learnMat_eq (b16 : Int) (r z : Nat) :
    learnMat b16 r z = max (((z : Int) - 300) * 16) (min (((z : Int) + 300) * 16)
      (b16 + (16 * (r : Int) - b16).tdiv 64)) :=
  clampInt_eq_max_min (by omega) _

theorem learnPresence_eq (pb16 : Int) (p zp : Nat) :
    learnPresence pb16 p zp = max 0 (min 65520 (max (((zp : Int) - 400) * 16) (min (((zp : Int) + 400) * 16)
      (pb16 + (16 * (p : Int) - pb16).tdiv 128)))) := by
  rw [learnPresence, clampInt_eq_max_min (by decide), clampInt_eq_max_min (by omega)]

/-! ### The candidate class (R51) -/

section Candidate

variable (c : Conf) {x : CandidateInput}

theorem candidateClass_of_bothFaulted (hm : x.matFault = true) (hp : x.presenceFault = true) :
    candidateClass c x = .unknown := by
  rw [candidateClass, hm, hp]
  rfl

theorem candidateClass_of_unclear (hv : x.view = .unclear) : candidateClass c x = .unknown := by
  rw [candidateClass, hv]
  exact ite_self _

theorem candidateClass_of_present_matFault {r : TagRecord} (hv : x.view = .present r) (hm : x.matFault = true)
    (hp : x.presenceFault = false) : candidateClass c x = .csOccupied := by
  rw [candidateClass, hv, hm, hp]
  rfl

theorem candidateClass_of_present {r : TagRecord} (hv : x.view = .present r) (hm : x.matFault = false) :
    candidateClass c x
      = if childThreshold c x.settled ≤ x.load - r.mass.toNat then .csOccupied else .csEmpty := by
  rw [candidateClass, hv, hm]
  rfl

/-- Rows 6 to 14: with no tag in view and not both faults, the tag plays no part. -/
theorem candidateClass_of_noTag (hv : x.view = .none) (hf : (x.matFault && x.presenceFault) = false) :
    candidateClass c x = untaggedCandidate c x := by
  rw [candidateClass, hv, hf]
  rfl

theorem candidateClass_of_noTag_matFault (hv : x.view = .none) (hm : x.matFault = true)
    (hp : x.presenceFault = false) : candidateClass c x = if x.presence then .unsized else .empty := by
  rw [candidateClass_of_noTag c hv (by rw [hm, hp]; rfl), untaggedCandidate, hm]
  rfl

theorem candidateClass_of_noTag_presenceFault (hv : x.view = .none) (hm : x.matFault = false)
    (hp : x.presenceFault = true) :
    candidateClass c x
      = if smallThreshold c x.settled ≤ x.load then .unsized
        else if objectThreshold c x.settled ≤ x.load then .object else .empty := by
  rw [candidateClass_of_noTag c hv (by rw [hm, hp]; rfl), untaggedCandidate, hm, hp]
  rfl

theorem candidateClass_of_noTag_presence (hv : x.view = .none) (hm : x.matFault = false)
    (hp : x.presenceFault = false) (h : x.presence = true) :
    candidateClass c x
      = if adultThreshold c x.settled ≤ x.load then .adult
        else if smallThreshold c x.settled ≤ x.load then .small else .empty := by
  rw [candidateClass_of_noTag c hv (by rw [hm, hp]; rfl), untaggedCandidate, hm, hp, h]
  rfl

theorem candidateClass_of_noTag_noPresence (hv : x.view = .none) (hm : x.matFault = false)
    (hp : x.presenceFault = false) (h : x.presence = false) :
    candidateClass c x = if objectThreshold c x.settled ≤ x.load then .object else .empty := by
  rw [candidateClass_of_noTag c hv (by rw [hm, hp]; rfl), untaggedCandidate, hm, hp, h]
  rfl

end Candidate

/-- Settles O12: the candidate and the thresholds by their definitions, and the rows of the table by the tag view, the
two faults and the presence state. -/
theorem candidateTable : Obligations.CandidateTable := by
  refine ⟨fun c p x k => rfl, fun c settled => ⟨rfl, rfl, rfl, rfl⟩, fun c x => ?_⟩
  refine ⟨candidateClass_of_bothFaulted c, fun _ hv => candidateClass_of_unclear c hv,
    fun r hv hm hp => candidateClass_of_present_matFault c hv hm hp, fun r hv hm hl => ?_, fun r hv hm hl => ?_,
    fun hv hm hp h => ?_, fun hv hm hp h => ?_, fun hv hm hp hs => ?_, fun hv hm hp hs ho => ?_,
    fun hv hm hp hs ho => ?_, fun hv hm hp h ha => ?_, fun hv hm hp h ha hs => ?_, fun hv hm hp h ha hs => ?_,
    fun hv hm hp h ho => ?_, fun hv hm hp h ho => ?_⟩
  · rw [candidateClass_of_present c hv hm, if_pos hl]
  · rw [candidateClass_of_present c hv hm, if_neg (Nat.not_le.2 hl)]
  · rw [candidateClass_of_noTag_matFault c hv hm hp, if_pos h]
  · rw [candidateClass_of_noTag_matFault c hv hm hp, if_neg (Bool.eq_false_iff.1 h)]
  · rw [candidateClass_of_noTag_presenceFault c hv hm hp, if_pos hs]
  · rw [candidateClass_of_noTag_presenceFault c hv hm hp, if_neg (Nat.not_le.2 hs), if_pos ho]
  · rw [candidateClass_of_noTag_presenceFault c hv hm hp, if_neg (Nat.not_le.2 hs), if_neg (Nat.not_le.2 ho)]
  · rw [candidateClass_of_noTag_presence c hv hm hp h, if_pos ha]
  · rw [candidateClass_of_noTag_presence c hv hm hp h, if_neg (Nat.not_le.2 ha), if_pos hs]
  · rw [candidateClass_of_noTag_presence c hv hm hp h, if_neg (Nat.not_le.2 ha), if_neg (Nat.not_le.2 hs)]
  · rw [candidateClass_of_noTag_noPresence c hv hm hp h, if_pos ho]
  · rw [candidateClass_of_noTag_noPresence c hv hm hp h, if_neg (Nat.not_le.2 ho)]

/-! ### Dwell (R53 to R55) -/

section Dwell

variable {candidate settled : Cls} {last : Option Cls} {counter : Nat}

theorem dwellNext_of_settled (h : candidate = settled) : dwellNext candidate settled last counter = 0 :=
  if_pos h

theorem dwellNext_of_again (hne : candidate ≠ settled) (hlast : last = some candidate) (hpos : 0 < counter) :
    dwellNext candidate settled last counter = counter + 1 := by
  rw [dwellNext, if_neg hne, if_pos ⟨hlast, hpos⟩]

theorem dwellNext_of_first (hne : candidate ≠ settled) (h : last ≠ some candidate ∨ counter = 0) :
    dwellNext candidate settled last counter = 1 := by
  rw [dwellNext, if_neg hne, if_neg fun ⟨hlast, hpos⟩ => h.elim (absurd hlast) (Nat.ne_of_gt hpos)]

end Dwell

/-! ### The work of a position (R39) -/

section Classify

variable (c : Conf) (p : Pos) (x : ClassifierInput) (k : ClsState)

/-- R51: the candidate class of a position, from the load and the presence state that parts 2 and 3 leave. -/
def ClassifierInput.candidate : Cls :=
  candidateClass c
    { settled := x.settled, matFault := x.matFault, presenceFault := x.presenceFault, view := x.view
      presence := presencePart c x k, load := filterPart (c.gain.get p) x k / 4 }

/-- R53: the dwell counter of a position, before it is held against the limit. -/
def ClassifierInput.counter : Nat := dwellNext (x.candidate c p k) x.settled k.candidate k.dwell

/-- R39: the work for a position, part by part. -/
theorem classify_eq :
    classify c p x k
      = ({ b16 := if learnsMat x (presencePart c x k) then learnMat k.b16 x.main (c.zero.get p) else k.b16
           pb16 := if learnsPresence x (presencePart c x k) then learnPresence k.pb16 x.presence (c.pzero.get p)
             else k.pb16
           lf := filterPart (c.gain.get p) x k
           shift := presenceShift x.presence k.pb16
           presence := presencePart c x k
           candidate := some (x.candidate c p k)
           dwell := if dwellLimit c x.atSpeed ≤ x.counter c p k then 0 else x.counter c p k },
         if dwellLimit c x.atSpeed ≤ x.counter c p k then x.candidate c p k else x.settled) := by
  simp only [classify, decide_eq_true_eq]
  rfl

/-- Settles O13: the dwell counter by its cases, and what settles by the side of the limit it stands on. -/
theorem dwellSettlesClass : Obligations.DwellSettlesClass := by
  intro c p x k limit hslow hfast
  have hlimit : limit = dwellLimit c x.atSpeed := by
    cases h : x.atSpeed with
    | false => exact hslow h
    | true => exact hfast h
  refine ⟨_, _, _, x.counter c p k, classify_eq c p x k, rfl, dwellNext_of_settled, dwellNext_of_again,
    dwellNext_of_first, fun hn => ?_, fun hn => ?_⟩
  · rw [hlimit, ← Nat.not_le] at hn
    exact ⟨if_neg hn, if_neg hn⟩
  · rw [hlimit] at hn
    exact ⟨if_pos hn, if_pos hn⟩

/-! ### The parts of the work (R41 to R48) -/

variable {c p x k}

theorem filterPart_of_held (g : Nat) (h : x.matFault = true ∨ x.matObservation = true) : filterPart g x k = k.lf := by
  rw [filterPart, if_pos (Bool.or_eq_true_iff.2 h)]

theorem filterPart_cast (g : Nat) (hf : x.matFault = false) (ho : x.matObservation = false) :
    (filterPart g x k : Int) = (k.lf : Int) + (4 * (netLoad x.main k.b16 g : Int) - (k.lf : Int)).tdiv 4 := by
  rw [filterPart, hf, ho]
  exact filterStep_cast _ _

theorem filterPart_le (g : Nat) (h : k.lf ≤ 8000) : filterPart g x k ≤ 8000 := by
  unfold filterPart
  split
  · exact h
  · exact filterStep_le (netLoad_le _ _ _) h

theorem presencePart_of_held (h : x.presenceFault = true ∨ x.presenceObservation = true) :
    presencePart c x k = k.presence := by
  rw [presencePart, if_pos (Bool.or_eq_true_iff.2 h)]

theorem presencePart_of_absent (hf : x.presenceFault = false) (ho : x.presenceObservation = false)
    (h : k.presence = false) : presencePart c x k = true ↔ (c.pOn : Int) ≤ presenceShift x.presence k.pb16 := by
  simp [presencePart, presenceNext, hf, ho, h]

theorem presencePart_of_present (hf : x.presenceFault = false) (ho : x.presenceObservation = false)
    (h : k.presence = true) : presencePart c x k = true ↔ (c.pOff : Int) ≤ presenceShift x.presence k.pb16 := by
  simp [presencePart, presenceNext, hf, ho, h]

theorem learnsMat_iff (presence : Bool) :
    learnsMat x presence = true ↔ x.settled = .empty ∧ presence = false ∧ x.matFault = false
      ∧ x.matObservation = false ∧ x.presenceFault = false := by
  simp [learnsMat, and_assoc]

theorem learnsPresence_iff (presence : Bool) :
    learnsPresence x presence = true ↔ presence = false ∧ (x.settled = .empty ∨ x.settled = .object)
      ∧ x.presenceFault = false ∧ x.presenceObservation = false := by
  simp [learnsPresence, and_assoc]

end Classify

/-! ### Step 2 of a completion (R38) -/

section Completion

variable (s : State) (number : Word16) (tagAt : Option Pos) (r : SweepReadings) (p : Pos)

theorem classifierStep_get (o : SensingOutcome) :
    ((s.classifierStep o r false).classes.get p, ((s.classifierStep o r false).table.seats.get p).cls)
      = s.classified o r p := by
  simp [State.classifierStep, State.mapSeats]

/-- What step 2 of a completion that is no test reads of a position. -/
def State.completionInput : ClassifierInput :=
  (s.sensingStep (sense s.config.running number false tagAt r s.sfe)).classifierInput
    (sense s.config.running number false tagAt r s.sfe) r p

/-- Steps 3 to 7 leave the classifier state and the settled classes as step 2 has them. -/
theorem completeSweep_keepsClassified (test : Bool) :
    ((s.completeSweep number test tagAt r).classes.get p,
        ((s.completeSweep number test tagAt r).table.seats.get p).cls)
      = ((s.classifiedBy number test tagAt r).classes.get p,
        ((s.classifiedBy number test tagAt r).table.seats.get p).cls) := by
  have hclasses : (s.completeSweep number test tagAt r).classes = (s.classifiedBy number test tagAt r).classes := by
    simp [completeSweep_eq_modeStep, State.beforeStepSix]
  have hcls := congrArg (Four.get · p) (completeSweep_keepsCls s number test tagAt r)
  simp only [Four.get_map] at hcls
  rw [hclasses, hcls]

/-- R38: a completion that is no test gives each position what the work for it gives, and keeps an absent number. -/
theorem completeSweep_classified :
    ((s.completeSweep number false tagAt r).classes.get p,
        ((s.completeSweep number false tagAt r).table.seats.get p).cls)
      = if isPosition s.config.running p then
          classify s.config.running p (s.completionInput number tagAt r p) (s.classes.get p)
        else (s.classes.get p, (s.table.seats.get p).cls) := by
  rw [completeSweep_keepsClassified, State.classifiedBy, classifierStep_get]
  simp only [State.classified, sensingStep_keeps, State.completionInput]

/-- R38: step 2 reads the sensing state that step 1 leaves, which the later steps keep. -/
theorem completionInput_sfe :
    (s.sensingStep (sense s.config.running number false tagAt r s.sfe)).sfe.positions.get p
      = (s.completeSweep number false tagAt r).sfe.positions.get p := by
  rw [completeSweep_positions_get, sensingStep_sfe]
  simp [sense]

variable {s p}

/-- R6, R38: an observation of the mat is a rail at one of the channels measured as one. -/
theorem completionInput_matObservation (h : isPosition s.config.running p = true) :
    (s.completionInput number tagAt r p).matObservation = true
      ↔ ∃ q ∈ channelsOf s.config.running p,
          atRail (r.channels.get q).main = true ∨ atRail (r.channels.get q).check = true := by
  have hsense : (s.completionInput number tagAt r p).matObservation
      = (railedMat s.config.running p r.channels).isSome := by
    simp [State.completionInput, State.classifierInput, sense, judgePosition, h]
  rw [hsense, railedMat, List.find?_isSome]
  simp only [Bool.or_eq_true]

/-- R12, R38: an observation of presence is a rail at one of the channels measured as one. -/
theorem completionInput_presenceObservation (h : isPosition s.config.running p = true) :
    (s.completionInput number tagAt r p).presenceObservation = true
      ↔ ∃ q ∈ channelsOf s.config.running p, atRail (r.channels.get q).presence = true := by
  have hsense : (s.completionInput number tagAt r p).presenceObservation
      = (railedPresence s.config.running p r.channels).isSome := by
    simp [State.completionInput, State.classifierInput, sense, judgePosition, h]
  rw [hsense, railedPresence, List.find?_isSome]

end Completion

/-- Settles O14: the completion by its step 2, and the arithmetic part by part. -/
theorem classifierArithmetic : Obligations.ClassifierArithmetic := by
  constructor
  · intro s r number tagAt ms p hp hf
    have hclassified := completeSweep_classified s number tagAt r p
    refine ⟨_, s.completionInput number tagAt r p, sweepCompletion_of_periodic hp hf, rfl, rfl, ?_, ?_, fun h => ?_,
      fun h => ?_, ?_, rfl, rfl, fun h => ?_, fun h => ?_⟩
    · rw [← completionInput_sfe, ← or_assoc, ← Bool.or_eq_true, ← Bool.or_eq_true]
      rfl
    · rw [← completionInput_sfe]
      rfl
    · simp only [completionInput_matObservation number tagAt r h, mem_channelsOf]
    · simp only [completionInput_presenceObservation number tagAt r h, mem_channelsOf]
    · rw [← completionInput_sfe]
      rfl
    · rw [hclassified, if_pos h]
    · rw [if_neg (Bool.eq_false_iff.1 h)] at hclassified
      exact Prod.mk.inj hclassified
  · intro c p x k k' settled net step learns learnsToo hk hnet hstep hlearns hlearnsToo
    rw [classify_eq, Prod.mk.injEq] at hk
    obtain ⟨rfl, -⟩ := hk
    rw [← learnsMat_iff] at hlearns
    rw [← learnsPresence_iff] at hlearnsToo
    subst hnet hstep
    refine ⟨filterPart_of_held _, fun hfault hobs => ?_, rfl, presencePart_of_held, fun hfault hobs =>
      ⟨presencePart_of_absent hfault hobs, presencePart_of_present hfault hobs⟩, fun h => ?_, fun h => ?_, fun h => ?_,
      fun h => ?_⟩
    · rw [← netLoad_cast]
      exact filterPart_cast _ hfault hobs
    · rw [← learnMat_eq]
      exact if_pos (hlearns.1 h)
    · exact if_neg (hlearns.not.1 h)
    · rw [← learnPresence_eq]
      exact if_pos (hlearnsToo.1 h)
    · exact if_neg (hlearnsToo.not.1 h)

end Sys2Proof.Machine

namespace Sys2Proof.Machine

/-! ### The ranges of the classifier (R43, R45, R48, R56) -/

/-- R43, R45, R48: filtered load and baselines of position p within their ranges under this configuration. -/
def ClsState.Within (k : ClsState) (c : Conf) (p : Pos) : Prop :=
  k.lf ≤ 8000
    ∧ (((c.zero.get p : Int) - 300) * 16 ≤ k.b16 ∧ k.b16 ≤ ((c.zero.get p : Int) + 300) * 16)
    ∧ ((c.pzero.get p : Int) - 400) * 16 ≤ k.pb16 ∧ k.pb16 ≤ ((c.pzero.get p : Int) + 400) * 16
    ∧ 0 ≤ k.pb16 ∧ k.pb16 ≤ 65520

/-- R56: every presence zero within its range. -/
def Conf.PzeroIn (c : Conf) : Prop := ∀ p, c.pzero.get p ≤ 4095

theorem classifierIn_iff (s : State) :
    s.ClassifierIn ↔ s.config.running.PzeroIn ∧ s.config.working.PzeroIn
      ∧ ∀ p, (s.classes.get p).Within s.config.running p := by
  simp only [State.ClassifierIn, Conf.PzeroIn, ClsState.Within, ← forall_and, and_assoc]

section Classes

variable {c : Conf} {p : Pos} {k : ClsState}

theorem learnMat_within (b16 : Int) (r z : Nat) :
    ((z : Int) - 300) * 16 ≤ learnMat b16 r z ∧ learnMat b16 r z ≤ ((z : Int) + 300) * 16 := by
  rw [learnMat_eq]
  omega

theorem learnPresence_within {zp : Nat} (h : zp ≤ 4095) (pb16 : Int) (r : Nat) :
    ((zp : Int) - 400) * 16 ≤ learnPresence pb16 r zp ∧ learnPresence pb16 r zp ≤ ((zp : Int) + 400) * 16
      ∧ 0 ≤ learnPresence pb16 r zp ∧ learnPresence pb16 r zp ≤ 65520 := by
  rw [learnPresence_eq]
  omega

/-- R38 to R48: the work for a position keeps the ranges. -/
theorem classify_within (hc : c.PzeroIn) (h : k.Within c p) (x : ClassifierInput) :
    (classify c p x k).1.Within c p := by
  obtain ⟨hlf, hmat, hpresence⟩ := h
  rw [classify_eq]
  refine ⟨filterPart_le _ hlf, ?_, ?_⟩ <;> dsimp only <;> split
  · exact learnMat_within _ _ _
  · exact hmat
  · exact learnPresence_within (hc p) _ _
  · exact hpresence

/-- R61: the baselines start at the zeros. -/
theorem freshClasses_within (hc : c.PzeroIn) (p : Pos) : ((freshClasses c).get p).Within c p := by
  have hzero := hc p
  rw [freshClasses, Four.get_ofFn, ClsState.Within]
  dsimp only
  omega

/-- R61: a wake keeps the baselines. -/
theorem atWake_within (h : k.Within c p) : k.atWake.Within c p := by
  obtain ⟨-, hbaselines⟩ := h
  exact ⟨Nat.zero_le _, hbaselines⟩

end Classes

section Configuration

variable {c : Conf} {i : Item}

theorem put_pzero_of_ne (hi : ∀ p, i ≠ .pzero p) (v : Nat) : (c.put v i).pzero = c.pzero := by
  cases i with
  | pzero p => exact absurd rfl (hi p)
  | _ => rfl

theorem offOf_ne_pzero {off : Item} (h : i.offOf = some off) (p : Pos) : off ≠ .pzero p := by
  rintro rfl
  cases i <;> cases h

/-- R207: a write of another item leaves the presence zeros. -/
theorem writeItem_pzero_of_ne (hi : ∀ p, i ≠ .pzero p) (v : Nat) : (writeItem c i v).working.pzero = c.pzero := by
  have hpair : ∀ v clamped, (writePair c i v clamped).working.pzero = c.pzero := by
    intro v clamped
    unfold writePair
    split
    · split <;> exact put_pzero_of_ne hi _
    · rename_i off _ hoff
      split
      · exact (put_pzero_of_ne (offOf_ne_pzero hoff) _).trans (put_pzero_of_ne hi _)
      · exact put_pzero_of_ne hi _
    · exact put_pzero_of_ne hi _
  unfold writeItem
  split
  · split <;> rfl
  · split <;> rfl
  · rfl
  · rfl
  · exact hpair _ _

/-- R56, R207: a presence zero is written within its range. -/
theorem writeItem_pzeroIn (hc : c.PzeroIn) (i : Item) (v : Nat) : (writeItem c i v).working.PzeroIn := by
  intro q
  by_cases hi : ∃ p, i = .pzero p
  · obtain ⟨p, rfl⟩ := hi
    have hclamp : clampNat 0 4095 v ≤ 4095 := by
      unfold clampNat
      repeat' split
      all_goals omega
    show (c.pzero.set p (clampNat 0 4095 v)).get q ≤ 4095
    rw [Four.get_set]
    split
    · exact hclamp
    · exact hc q
  · rw [writeItem_pzero_of_ne fun p h => hi ⟨p, h⟩]
    exact hc q

/-- R201: a good store's presence zeros are in range, and so are the defaults. -/
theorem bootConf_pzeroIn (store : Store) : (bootConf store).PzeroIn := by
  intro p
  unfold bootConf
  split
  · rename_i hgood
    rw [Store.good, Bool.and_eq_true, Bool.and_eq_true] at hgood
    obtain ⟨⟨-, hrange⟩, -⟩ := hgood
    have hp : Item.pzero p ∈ Item.all := by fin_cases p <;> simp [Item.all]
    have h := List.all_eq_true.1 hrange _ hp
    rw [Bool.and_eq_true, decide_eq_true_eq, decide_eq_true_eq] at h
    exact h.2
  · show (Four.const 1024).get p ≤ 4095
    rw [Four.get_const]
    omega

end Configuration

/-! ### The counters (R203) -/

theorem saturatingSucc_le (n : Nat) : saturatingSucc n ≤ 65535 := by
  unfold saturatingSucc
  split <;> omega

section Counters

variable {k : Counters} (h : k.Bounded)
include h

theorem Counters.Bounded.softReport (severity : Severity) : (k.softReport severity).Bounded := by
  cases severity with
  | soft => simp_all [Counters.softReport, Counters.Bounded, saturatingSucc_le]
  | hard => exact h

theorem Counters.Bounded.rxPlaced (c : FrameClass) : (k.rxPlaced c).Bounded := by
  cases c <;> simp_all [Counters.rxPlaced, Counters.Bounded, saturatingSucc_le]

theorem Counters.Bounded.rxDropped (c : FrameClass) : (k.rxDropped c).Bounded := by
  cases c <;> simp_all [Counters.rxDropped, Counters.Bounded, saturatingSucc_le]

theorem Counters.Bounded.sent (echoed : Bool) : (k.sent echoed).Bounded := by
  cases echoed <;> simp_all [Counters.sent, Counters.Bounded, saturatingSucc_le]

theorem Counters.Bounded.clearGroup (group : Nat) : (k.clearGroup group).Bounded := by
  unfold Counters.clearGroup
  split <;> simp_all [Counters.Bounded]

end Counters

theorem zero_bounded : Counters.zero.Bounded := by
  simp [Counters.zero, Counters.Bounded, State.reset]

/-! ### The sweep numbers (R28) -/

theorem start_inStep {k : SweepCtl} (c : Conf) (h : k.InStep) : (k.start c).InStep := by
  have hcount : (1 : Word16).toNat = 1 := rfl
  have htest : (1 : BitVec 6).toNat = 1 := rfl
  rw [SweepCtl.InStep] at h ⊢
  rw [SweepCtl.start, BitVec.toNat_add, BitVec.toNat_add, hcount, htest]
  omega

/-! ### From a state to a later one -/

/-- From s to t the ranges of the classifier, those of the counters, and the step of the sweep numbers are kept. -/
structure State.KeepsBounds (s t : State) : Prop where
  classifier : s.ClassifierIn → t.ClassifierIn
  counters : s.diag.counters.Bounded → t.diag.counters.Bounded
  inStep : s.sweep.InStep → t.sweep.InStep

theorem State.KeepsBounds.refl (s : State) : s.KeepsBounds s := ⟨id, id, id⟩

section KeepsBounds

variable {s t u : State} (h : s.KeepsBounds t)
include h

theorem State.KeepsBounds.trans (h' : t.KeepsBounds u) : s.KeepsBounds u :=
  ⟨h'.classifier ∘ h.classifier, h'.counters ∘ h.counters, h'.inStep ∘ h.inStep⟩

/-- A change that keeps the running and the working configuration, the classifier and the sweep numbers answers for the
counters alone. -/
theorem State.KeepsBounds.counted (hcounters : t.diag.counters.Bounded → u.diag.counters.Bounded)
    (hconfig : u.config.running = t.config.running ∧ u.config.working = t.config.working := by simp)
    (hclasses : u.classes = t.classes := by simp)
    (hnumbers : u.sweep.count = t.sweep.count ∧ u.sweep.testCounter = t.sweep.testCounter := by simp) :
    s.KeepsBounds u := by
  obtain ⟨hrunning, hworking⟩ := hconfig
  obtain ⟨hcount, htest⟩ := hnumbers
  refine h.trans ⟨fun hc => ?_, hcounters, fun hn => ?_⟩
  · rw [classifierIn_iff] at hc ⊢
    rwa [hrunning, hworking, hclasses]
  · rwa [SweepCtl.InStep, hcount, htest]

/-- A change that keeps the counters too. -/
theorem State.KeepsBounds.same (hcounters : u.diag.counters = t.diag.counters := by simp)
    (hconfig : u.config.running = t.config.running ∧ u.config.working = t.config.working := by simp)
    (hclasses : u.classes = t.classes := by simp)
    (hnumbers : u.sweep.count = t.sweep.count ∧ u.sweep.testCounter = t.sweep.testCounter := by simp) :
    s.KeepsBounds u :=
  h.counted (fun hk => hcounters ▸ hk) hconfig hclasses hnumbers

/-! #### Setters -/

theorem State.KeepsBounds.setPending (x : List Instr) : s.KeepsBounds (t.setPending x) := h.same
theorem State.KeepsBounds.setSfe (x : Sfe) : s.KeepsBounds (t.setSfe x) := h.same
theorem State.KeepsBounds.setTable (x : Positions) : s.KeepsBounds (t.setTable x) := h.same
theorem State.KeepsBounds.setDepartures (x : List DepEntry) : s.KeepsBounds (t.setDepartures x) := h.same
theorem State.KeepsBounds.setLink (x : Link) : s.KeepsBounds (t.setLink x) := h.same
theorem State.KeepsBounds.setEmission (x : Emission) : s.KeepsBounds (t.setEmission x) := h.same
theorem State.KeepsBounds.setModeCtl (x : ModeCtl) : s.KeepsBounds (t.setModeCtl x) := h.same
theorem State.KeepsBounds.setLamps (x : Four Lamp) : s.KeepsBounds (t.setLamps x) := h.same
theorem State.KeepsBounds.setDuty (x : Duty) : s.KeepsBounds (t.setDuty x) := h.same
theorem State.KeepsBounds.setVehicle (x : Vehicle) : s.KeepsBounds (t.setVehicle x) := h.same

theorem State.KeepsBounds.setDiag {x : Diag} (hx : x.counters = t.diag.counters) : s.KeepsBounds (t.setDiag x) :=
  h.same hx

theorem State.KeepsBounds.setSweep {x : SweepCtl} (hcount : x.count = t.sweep.count)
    (htest : x.testCounter = t.sweep.testCounter) : s.KeepsBounds (t.setSweep x) :=
  h.same (hnumbers := ⟨hcount, htest⟩)

/-- R56: a configuration with the same running copy needs its presence zeros in range in the working copy alone. -/
theorem State.KeepsBounds.setConfig {x : Configuration} (hrunning : x.running = t.config.running)
    (hworking : t.config.running.PzeroIn → t.config.working.PzeroIn → x.working.PzeroIn) :
    s.KeepsBounds (t.setConfig x) := by
  refine h.trans ⟨fun hc => ?_, id, id⟩
  rw [classifierIn_iff] at hc ⊢
  obtain ⟨hr, hw, hclasses⟩ := hc
  rw [setConfig_config, setConfig_classes, hrunning]
  exact ⟨hr, hworking hr hw, hclasses⟩

/-! #### Reports, counters, queues -/

/-- A counter that adds 1 and stops at 65535 stays in range. -/
theorem State.KeepsBounds.count {f : Counters → Counters}
    (hf : ∀ k : Counters, k.Bounded → (f k).Bounded := by
      intro k hk; simp_all [Counters.Bounded, saturatingSucc_le]) :
    s.KeepsBounds (t.count f) :=
  h.counted (hf _)

theorem State.KeepsBounds.countIf {c : Prop} [Decidable c] {f : Counters → Counters}
    (hf : ∀ k : Counters, k.Bounded → (f k).Bounded := by
      intro k hk; simp_all [Counters.Bounded, saturatingSucc_le]) :
    s.KeepsBounds (t.count fun k => if c then f k else k) :=
  h.count fun k hk => by
    split
    · exact hf k hk
    · exact hk

theorem State.KeepsBounds.reportLink (kind : LinkFault) (header : Byte) (payload : List Byte) :
    s.KeepsBounds (t.reportLink kind header payload) :=
  h.counted fun hk => hk.softReport _

/-- R165: the queue is the link's, TX_OVERFLOW the one counter. -/
theorem State.KeepsBounds.offerTx (e : TxEntry) : s.KeepsBounds (t.offerTx e) :=
  (h.setLink _).countIf (c := (t.offerOf e).overflow = true)
    (f := fun k => { k with txOverflow := saturatingSucc k.txOverflow })

theorem State.KeepsBounds.place (kind : FrameKind) (payload : List Byte) : s.KeepsBounds (t.place kind payload) :=
  h.offerTx _

theorem State.KeepsBounds.placeState : s.KeepsBounds t.placeState :=
  (h.place _ _).setEmission _

theorem State.KeepsBounds.rebuildReport : s.KeepsBounds t.rebuildReport := h.setEmission _

theorem State.KeepsBounds.emit : s.KeepsBounds t.emit := by
  unfold State.emit
  split
  · exact h.rebuildReport.placeState
  · exact h.placeState

theorem State.KeepsBounds.offerRx (f : RxFrame) : s.KeepsBounds (t.offerRx f) := by
  unfold State.offerRx
  split
  · exact h
  · split
    · exact (h.setLink _).count fun _ hk => hk.rxPlaced _
    · exact (h.setLink _).count fun _ hk => hk.rxDropped _

theorem State.KeepsBounds.takeFrame (f : RxFrame) : s.KeepsBounds (t.takeFrame f) := h.setLink _

theorem State.KeepsBounds.joinEntry (e : DepEntry) : s.KeepsBounds (t.joinEntry e) := by
  unfold State.joinEntry
  split
  · exact h
  · exact (h.setDepartures _).countIf

theorem State.KeepsBounds.withdrawProposals : s.KeepsBounds t.withdrawProposals := h.setLink _

theorem State.KeepsBounds.refreshDuty : s.KeepsBounds t.refreshDuty := h.setDuty _

theorem State.KeepsBounds.refreshOutputs : s.KeepsBounds t.refreshOutputs := (h.setLamps _).refreshDuty

/-! #### Sleep agreement and alerts -/

theorem State.KeepsBounds.placeRefusal (w : Window) (reason : Reason) : s.KeepsBounds (t.placeRefusal w reason) :=
  ((h.offerTx _).countIf).setModeCtl _

theorem State.KeepsBounds.testReasons : s.KeepsBounds t.testReasons := by
  rcases testReasons_cases t with heq | ⟨w, reason, -, heq⟩
  · rw [heq]
    exact h
  · rw [heq]
    exact h.placeRefusal w reason

theorem State.KeepsBounds.restartIdle : s.KeepsBounds t.restartIdle := by
  unfold State.restartIdle
  split
  · exact (h.setModeCtl _).testReasons
  · exact h

theorem State.KeepsBounds.openWindow : s.KeepsBounds t.openWindow := by
  unfold State.openWindow
  split
  · exact (h.setModeCtl _).testReasons
  · exact h

theorem State.KeepsBounds.closeWindow : s.KeepsBounds t.closeWindow := h.setModeCtl _

theorem State.KeepsBounds.propose : s.KeepsBounds t.propose := by
  unfold State.propose
  split
  · exact h.offerTx _
  · exact (h.offerTx _).restartIdle

theorem State.KeepsBounds.idleReached : s.KeepsBounds t.idleReached := by
  unfold State.idleReached
  split
  · exact h
  · split
    · exact h.restartIdle
    · split
      · exact h
      · exact h.propose

theorem State.KeepsBounds.endAlert (p : Pos) (after : Alert) : s.KeepsBounds (t.endAlert p after) := h.same

theorem State.KeepsBounds.sendAlert (p : Pos) (cls : Cls) (count : Nat) : s.KeepsBounds (t.sendAlert p cls count) :=
  (h.setTable _).place _ _

theorem State.KeepsBounds.raiseAlert (p : Pos) : s.KeepsBounds (t.raiseAlert p) := by
  unfold State.raiseAlert
  split
  · split
    · exact h.sendAlert _ _ _
    · exact h
  · exact h

theorem State.KeepsBounds.alertPeriod (p : Pos) : s.KeepsBounds (t.alertPeriod p) := by
  unfold State.alertPeriod
  split
  · exact h
  · split
    · split
      · split
        · exact h.sendAlert _ _ _
        · exact h.endAlert _ _
      · exact h
    all_goals exact h

/-! #### Changes of mode -/

theorem State.KeepsBounds.enterWatch : s.KeepsBounds t.enterWatch :=
  h.same (hnumbers := by simp [enterWatch_writes])

theorem State.KeepsBounds.leaveWatch : s.KeepsBounds t.leaveWatch :=
  h.same (hnumbers := by simp [leaveWatch_writes])

theorem State.KeepsBounds.enterStandby : s.KeepsBounds t.enterStandby := h.same

theorem State.KeepsBounds.haltEntry : s.KeepsBounds t.haltEntry := h.enterStandby.setLink _

theorem State.KeepsBounds.ownDecision : s.KeepsBounds t.ownDecision := by
  unfold State.ownDecision
  split
  · exact h.enterWatch
  · exact h.enterStandby

/-- R195: a wake keeps configuration and baselines, sweep numbers and counters. -/
theorem State.KeepsBounds.wake (pins : BitVec 5) : s.KeepsBounds (t.wake pins) := by
  refine h.trans ⟨fun hc => ?_, id, id⟩
  rw [classifierIn_iff] at hc ⊢
  obtain ⟨hrunning, hworking, hclasses⟩ := hc
  refine ⟨hrunning, hworking, fun p => ?_⟩
  show ((t.classes.map ClsState.atWake).get p).Within t.config.running p
  rw [Four.get_map]
  exact atWake_within (hclasses p)

/-- R209: a service exit starts the baselines at the zeros of the working copy, which then runs. -/
theorem State.KeepsBounds.serviceExit : s.KeepsBounds t.serviceExit := by
  refine h.trans ⟨fun hc => ?_, id, id⟩
  rw [classifierIn_iff] at hc ⊢
  obtain ⟨-, hworking, -⟩ := hc
  exact ⟨hworking, hworking, freshClasses_within hworking⟩

theorem State.KeepsBounds.haltFromService : s.KeepsBounds t.haltFromService := h.serviceExit.haltEntry

theorem State.KeepsBounds.heardWake (pins : BitVec 5) : s.KeepsBounds (t.heardWake pins) := by
  unfold State.heardWake
  split
  · exact h.closeWindow.restartIdle
  · exact h.leaveWatch
  · exact h.wake pins
  · exact h

theorem State.KeepsBounds.heardHalt : s.KeepsBounds t.heardHalt := by
  unfold State.heardHalt
  split
  · exact h.haltEntry
  · exact h.haltEntry
  · exact h.same
  · split
    · exact h.setDiag rfl
    · exact h.haltFromService

/-- R206: at a service entry the working copy becomes the running one's. -/
theorem State.KeepsBounds.serviceBlocks : s.KeepsBounds t.serviceBlocks :=
  have hwork : s.KeepsBounds t.endRecordWork.withdrawProposals := h.same
  (((((((hwork.setTable _).setDepartures _).setModeCtl _).setSweep (by simp) (by simp)).setDuty _).setConfig
    (by simp) fun hr _ => by simpa using hr)).refreshOutputs

theorem State.KeepsBounds.enterServiceMode : s.KeepsBounds t.enterServiceMode :=
  (h.serviceBlocks.setDiag (by simp)).rebuildReport.placeState

theorem State.KeepsBounds.ignitionBecameOn : s.KeepsBounds t.ignitionBecameOn := by
  have hbefore : s.KeepsBounds t.acknowledgeAlerts.withdrawProposals := h.same
  unfold State.ignitionBecameOn
  dsimp only
  split
  · exact (hbefore.setModeCtl _).leaveWatch
  · exact hbefore.setModeCtl _

theorem State.KeepsBounds.ignitionLeftOn : s.KeepsBounds t.ignitionLeftOn := h.same

theorem State.KeepsBounds.takeVehicleChange (ch : VehicleChange) : s.KeepsBounds (t.takeVehicleChange ch) := by
  unfold State.takeVehicleChange
  dsimp only
  split
  · exact ((h.setTable _).setDepartures _).ignitionBecameOn
  · split
    · exact ((h.setTable _).setDepartures _).ignitionLeftOn
    · exact (h.setTable _).setDepartures _

theorem State.KeepsBounds.deriveVehicle (after : Vehicle) : s.KeepsBounds (t.deriveVehicle after) :=
  ((h.setVehicle _).takeVehicleChange _).refreshOutputs

theorem State.KeepsBounds.doorReport (isOpen : Bool) : s.KeepsBounds (t.doorReport isOpen) := by
  unfold State.doorReport
  split
  · exact (h.setDepartures _).restartIdle
  · exact h

theorem State.KeepsBounds.acknowledge (set : Bool) : s.KeepsBounds (t.acknowledge set) := h.same

theorem State.KeepsBounds.vehicleFrom (n : StationNo) (payload : List Byte) :
    s.KeepsBounds (t.vehicleFrom n payload) := by
  unfold State.vehicleFrom
  split
  · exact ((h.deriveVehicle _).doorReport _).acknowledge _
  · exact h.count

theorem State.KeepsBounds.endWindow (w : Window) : s.KeepsBounds (t.endWindow w) := by
  unfold State.endWindow State.activeWindowEnd
  split
  · split
    · exact h.closeWindow.restartIdle
    · exact h.closeWindow.ownDecision
  · exact h.closeWindow

theorem State.KeepsBounds.aloneReached : s.KeepsBounds t.aloneReached := by
  unfold State.aloneReached
  split
  · exact h.setModeCtl _
  · exact h.ownDecision

theorem State.KeepsBounds.leftBehind : s.KeepsBounds t.leftBehind := by
  have hbefore : s.KeepsBounds t.requestWake.leaveWatch := State.KeepsBounds.leaveWatch (h.setLink _)
  unfold State.leftBehind
  dsimp only
  exact List.foldlRecOn positionsInOrder _ (motive := s.KeepsBounds) (hbefore.setModeCtl _) fun _ ht p _ =>
    ht.raiseAlert p

theorem State.KeepsBounds.wakeOnCause (pins : BitVec 5) : s.KeepsBounds (t.wakeOnCause pins) := by
  unfold State.wakeOnCause
  split
  · exact h.wake pins
  · exact h

theorem State.KeepsBounds.takeSample (sampled : StandbyWatch × Bool) (pins : BitVec 5) :
    s.KeepsBounds (t.takeSample sampled pins) := by
  unfold State.takeSample State.localWakeCause
  split
  · split
    · exact ((h.setSfe _).setLink _).setModeCtl _
    · exact (h.setSfe _).wake pins
  · exact h.setSfe _

/-! #### Records, Departure List, claims -/

theorem State.KeepsBounds.endClaimOf (r : Record) : s.KeepsBounds (t.endClaimOf r) := h.same

theorem State.KeepsBounds.searchOrSettle (p : Pos) : s.KeepsBounds (t.searchOrSettle p) := by
  unfold State.searchOrSettle
  split
  · exact h
  · split
    · exact ((h.setDepartures _).setTable _).offerTx _
    · exact h.setTable _

theorem State.KeepsBounds.yieldCutOff (p : Pos) : s.KeepsBounds (t.yieldCutOff p) := h.count.searchOrSettle p

theorem State.KeepsBounds.claimCutOff (c : ClaimRef) : s.KeepsBounds (t.claimCutOff c) := by
  unfold State.claimCutOff
  split
  · exact h
  · split
    · exact h.yieldCutOff _
    · exact h

theorem State.KeepsBounds.settleClaim (p : Pos) (tag : DepTag) : s.KeepsBounds (t.settleClaim p tag) :=
  (((h.setTable _).setDepartures _).count).setLamps _

theorem State.KeepsBounds.ownClaim (c : ClaimRef) : s.KeepsBounds (t.ownClaim c) := by
  unfold State.ownClaim
  split
  · exact h
  · split
    · exact h
    · split
      · exact h.settleClaim _ _
      · exact h.setTable _

theorem State.KeepsBounds.yieldToRival (p : Pos) : s.KeepsBounds (t.yieldToRival p) := by
  unfold State.yieldToRival
  split
  · exact (h.endClaimOf _).yieldCutOff p
  · exact h

theorem State.KeepsBounds.claimElsewhere (tag : DepTag) (listed : Bool) :
    s.KeepsBounds (t.claimElsewhere tag listed) := by
  unfold State.claimElsewhere
  split
  · exact h
  · exact h.count

theorem State.KeepsBounds.peerClaim (tag : DepTag) : s.KeepsBounds (t.peerClaim tag) := by
  unfold State.peerClaim
  dsimp only
  split
  · exact (h.setDepartures _).yieldToRival _
  · exact (h.setDepartures _).claimElsewhere _ _

theorem State.KeepsBounds.peerDepart (payload : List Byte) : s.KeepsBounds (t.peerDepart payload) := by
  unfold State.peerDepart
  split
  · exact h.joinEntry _
  · exact h

theorem State.KeepsBounds.arrive (p : Pos) (fromUnscanned : Bool) : s.KeepsBounds (t.arrive p fromUnscanned) := by
  unfold State.arrive
  split
  · exact h.setTable _
  · exact State.KeepsBounds.searchOrSettle (h.setTable _) p

theorem State.KeepsBounds.handOn (p : Pos) (r : Record) : s.KeepsBounds (t.handOn p r) :=
  ((h.setTable _).joinEntry _).place _ _

theorem State.KeepsBounds.endRecord (p : Pos) : s.KeepsBounds (t.endRecord p) := h.same

theorem State.KeepsBounds.depart (p : Pos) : s.KeepsBounds (t.depart p) := by
  unfold State.depart
  split
  · exact h
  · rename_i r _
    have hclaim : s.KeepsBounds ((t.endClaimOf r).withdrawAlertsOf p r) := h.same
    dsimp only
    split
    · exact (hclaim.handOn p r).endRecord p
    · exact hclaim.endRecord p

/-! #### The completion of a sweep -/

theorem State.KeepsBounds.takeSeatChange (p : Pos) (change : SeatChange) :
    s.KeepsBounds (t.takeSeatChange p change) := by
  cases change with
  | none => exact h
  | arrival fromUnscanned => exact h.arrive p fromUnscanned
  | departure => exact h.depart p
  | classChange => exact h.setTable _
  | exchange => exact (h.depart p).arrive p false

theorem State.KeepsBounds.takeClasses (before : Four Cls) (test : Bool) : s.KeepsBounds (t.takeClasses before test) :=
  List.foldlRecOn positionsInOrder _ (motive := s.KeepsBounds) h fun _ ht p _ => ht.takeSeatChange p _

theorem State.KeepsBounds.latchOpened : s.KeepsBounds t.latchOpened := by
  unfold State.latchOpened
  split
  · exact h.setTable _
  · exact h.place _ _

theorem State.KeepsBounds.takeLatch (event : LatchEvent) : s.KeepsBounds (t.takeLatch event) := by
  unfold State.takeLatch
  split
  · exact h
  · exact h
  · exact h.latchOpened
  · exact h.latchOpened
  · exact h.setTable _

theorem State.KeepsBounds.sendPendingRelease : s.KeepsBounds t.sendPendingRelease := by
  unfold State.sendPendingRelease
  split
  · exact (h.setTable _).place _ _
  · exact h

theorem State.KeepsBounds.tableStep (before : Four Cls) (test : Bool) (o : SensingOutcome) :
    s.KeepsBounds (t.tableStep before test o) :=
  (State.KeepsBounds.takeLatch ((h.takeClasses before test).setTable _) o.latchEvent).sendPendingRelease

/-- R23: reports one after another move SOFT_FAULTS alone. -/
theorem State.KeepsBounds.sensingStep (o : SensingOutcome) : s.KeepsBounds (t.sensingStep o) :=
  h.counted fun hk =>
    List.foldlRecOn o.reports Diag.reportMeas (motive := fun d => d.counters.Bounded) hk fun _ hd _ _ => hd.softReport _

/-- R38: step 2 does the work for a position, or nothing. -/
theorem State.KeepsBounds.classifierStep (o : SensingOutcome) (r : SweepReadings) (test : Bool) :
    s.KeepsBounds (t.classifierStep o r test) := by
  unfold State.classifierStep
  split
  · exact h
  · suffices hclassified : t.KeepsBounds (t.setClasses (Four.ofFn fun p => (t.classified o r p).1)) from
      (h.trans hclassified).setTable _
    refine ⟨fun hc => ?_, id, id⟩
    rw [classifierIn_iff] at hc ⊢
    obtain ⟨hrunning, hworking, hclasses⟩ := hc
    refine ⟨hrunning, hworking, fun p => ?_⟩
    rw [setClasses_classes, Four.get_ofFn, setClasses_config, State.classified]
    split
    · exact classify_within hrunning (hclasses p) _
    · exact hclasses p

theorem State.KeepsBounds.placeIfCalled : s.KeepsBounds t.placeIfCalled := by
  unfold State.placeIfCalled
  split
  · exact h.placeState
  · exact h

theorem State.KeepsBounds.fillOwnRow : s.KeepsBounds t.fillOwnRow := h.same

theorem State.KeepsBounds.reportStep : s.KeepsBounds t.reportStep :=
  h.rebuildReport.placeIfCalled.fillOwnRow.refreshDuty

theorem State.KeepsBounds.ladderStep : s.KeepsBounds t.ladderStep := h.same

theorem State.KeepsBounds.idleStep (changed : Bool) : s.KeepsBounds (t.idleStep changed) := by
  unfold State.idleStep
  split
  · exact h.restartIdle
  · exact h

theorem State.KeepsBounds.latchReason (event : LatchEvent) : s.KeepsBounds (t.latchReason event) := by
  unfold State.latchReason
  split
  · exact h.testReasons
  · exact h

theorem State.KeepsBounds.watchStep (ownChange : Bool) : s.KeepsBounds (t.watchStep ownChange) := h.same

theorem State.KeepsBounds.modeStep (c : OwnChanges) : s.KeepsBounds (t.modeStep c) :=
  have hends : s.KeepsBounds t.endAlertsByClass := h.same
  (((hends.idleStep _).latchReason _).setModeCtl _).watchStep _

theorem State.KeepsBounds.endFlight : s.KeepsBounds t.endFlight := h.setSweep rfl rfl

theorem State.KeepsBounds.completeSweep (number : Word16) (test : Bool) (tagAt : Option Pos) (r : SweepReadings) :
    s.KeepsBounds (t.completeSweep number test tagAt r) :=
  (((((h.sensingStep _).classifierStep _ _ _).tableStep _ _ _).ladderStep.reportStep).modeStep _).endFlight

/-! #### Row link -/

theorem State.KeepsBounds.stuckLine : s.KeepsBounds t.stuckLine := (h.reportLink _ _ _).setLink _

theorem State.KeepsBounds.edge : s.KeepsBounds t.edge := h.setLink _

theorem State.KeepsBounds.hearPulse (c : PulseClass) (pins : BitVec 5) : s.KeepsBounds (t.hearPulse c pins) := by
  unfold State.hearPulse
  split
  · exact h.reportLink _ _ _
  · exact h.heardWake pins
  · exact h.heardHalt
  · exact h
  · exact h

theorem State.KeepsBounds.hearAtRelease (length : Nat) (pins : BitVec 5) :
    s.KeepsBounds (t.hearAtRelease length pins) := by
  unfold State.hearAtRelease
  split
  · exact h.stuckLine.edge.wakeOnCause pins
  · exact h.edge.heardHalt
  · exact (h.edge.hearPulse .form pins).wakeOnCause pins
  · exact h.edge.heardWake pins
  · exact h

theorem State.KeepsBounds.startFrame : s.KeepsBounds t.startFrame := h.same

theorem State.KeepsBounds.release (n : StationNo) : s.KeepsBounds (t.release n) := h.same

theorem State.KeepsBounds.peerState (n : StationNo) (payload : List Byte) : s.KeepsBounds (t.peerState n payload) :=
  h.same

theorem State.KeepsBounds.frameCutOff (e : TxEntry) : s.KeepsBounds (t.frameCutOff e) := by
  unfold State.frameCutOff
  split
  · exact h.claimCutOff _
  · exact h.restartIdle
  · exact h

theorem State.KeepsBounds.reportFence (entered : Bool) (header : Byte) (payload : List Byte) :
    s.KeepsBounds (t.reportFence entered header payload) := by
  unfold State.reportFence
  split
  · exact h.reportLink _ _ _
  · exact h

theorem State.KeepsBounds.cutOff (e : TxEntry) : s.KeepsBounds (t.cutOff e) :=
  (((h.setLink _).reportLink _ _ _).reportFence _ _ _).frameCutOff e

theorem State.KeepsBounds.reportEcho (e : TxEntry) (echoed : Bool) : s.KeepsBounds (t.reportEcho e echoed) := by
  unfold State.reportEcho
  split
  · exact h
  · exact h.reportLink _ _ _

theorem State.KeepsBounds.sentReport (e : TxEntry) : s.KeepsBounds (t.sentReport e) := by
  unfold State.sentReport
  split
  · exact h.openWindow
  · exact h.same
  · exact h

theorem State.KeepsBounds.frameSent (e : TxEntry) (echoed : Bool) : s.KeepsBounds (t.frameSent e echoed) :=
  (((h.setLink _).count fun _ hk => hk.sent echoed).reportEcho e echoed).sentReport e

theorem State.KeepsBounds.hearProposal (kind : FrameKind) : s.KeepsBounds (t.hearProposal kind) := by
  unfold State.hearProposal
  split
  · exact h.withdrawProposals.openWindow
  · exact h

theorem State.KeepsBounds.accept (kind : FrameKind) (n : StationNo) (payload : List Byte) :
    s.KeepsBounds (t.accept kind n payload) :=
  have hheard : s.KeepsBounds (t.numberAndEcho.hear n).refreshDuty.restartAlone := h.same
  (hheard.hearProposal kind).offerRx _

theorem State.KeepsBounds.stationClash (kind : FrameKind) (header : Byte) (payload : List Byte) :
    s.KeepsBounds (t.stationClash kind header payload) :=
  have hheard : s.KeepsBounds t.numberAndEcho.restartAlone := h.same
  ((hheard.hearProposal kind).reportLink _ _ _).setLink _

theorem State.KeepsBounds.takeReading (r : Reading) (echoed : Bool) : s.KeepsBounds (t.takeReading r echoed) := by
  unfold State.takeReading State.wholeFrame
  split
  · split
    · split
      · exact h.stationClash _ _ _
      · exact h.accept _ _ _
    · exact h.count.reportLink _ _ _
  · exact h.reportLink _ _ _
  · exact h

theorem State.KeepsBounds.hearCells (r : Reading) (echoed : Bool) : s.KeepsBounds (t.hearCells r echoed) := by
  unfold State.hearCells
  split
  · exact h.edge
  · exact h.edge.takeReading r echoed

/-! #### Diagnosis -/

theorem State.KeepsBounds.restartService : s.KeepsBounds t.restartService := h.setDiag rfl

theorem State.KeepsBounds.reply (item : Nat) (result : Result) (data : List Byte) :
    s.KeepsBounds (t.reply item result data) :=
  h.place _ _

theorem State.KeepsBounds.refuse (item : Nat) (result : Result) : s.KeepsBounds (t.refuse item result) :=
  h.reply _ _ _

theorem State.KeepsBounds.answerRead (item : Nat) (data : Option (List Byte)) :
    s.KeepsBounds (t.answerRead item data) := by
  unfold State.answerRead
  split
  · exact h.reply _ _ _
  · exact h.refuse _ _

theorem State.KeepsBounds.clearCapture (arg : Nat) : s.KeepsBounds (t.setDiag (t.diag.clearCapture arg)) :=
  h.setDiag (by unfold Diag.clearCapture; split <;> rfl)

theorem State.KeepsBounds.afterReading (group : Nat) (clear : Bool) : s.KeepsBounds (t.afterReading group clear) := by
  unfold State.afterReading
  split
  · exact h.setLink _
  · split
    · exact h.count fun _ hk => hk.clearGroup group
    · exact h

theorem State.KeepsBounds.measure (arg : Nat) : s.KeepsBounds (t.measure arg) := by
  unfold State.measure
  split
  · exact h.refuse _ _
  · split
    · exact h.refuse _ _
    · split
      · exact h.refuse _ _
      · split
        · exact h.refuse _ _
        · exact h.setSweep rfl rfl

theorem State.KeepsBounds.serviceEntry (arg : Nat) : s.KeepsBounds (t.serviceEntry arg) := by
  unfold State.serviceEntry
  split
  · exact h.refuse _ _
  · split
    · exact h.refuse _ _
    · split
      · exact h.reply _ _ _
      · exact h.enterServiceMode.reply _ _ _

theorem State.KeepsBounds.serviceLeave (arg : Nat) : s.KeepsBounds (t.serviceLeave arg) := by
  unfold State.serviceLeave
  split
  · exact h.refuse _ _
  · split
    · exact h.refuse _ _
    · split
      · exact h.refuse _ _
      · exact h.serviceExit.reply _ _ _

theorem State.KeepsBounds.storeQuery (arg : Nat) : s.KeepsBounds (t.storeQuery arg) := by
  unfold State.storeQuery
  split
  · exact h.refuse _ _
  · split
    · exact h.refuse _ _
    · split
      · exact h.refuse _ _
      · exact h.setDiag rfl

theorem State.KeepsBounds.commitDone : s.KeepsBounds t.commitDone :=
  have hstored : ∀ store defaulted, s.KeepsBounds (t.setConfig { t.config with store, defaulted }) :=
    fun _ _ => h.setConfig rfl fun _ hw => hw
  ((hstored _ _).setDiag (by rfl)).reply _ _ _

theorem State.KeepsBounds.configFrame (item value : Nat) : s.KeepsBounds (t.configFrame item value) := by
  unfold State.configFrame
  split
  · exact h.refuse _ _
  · split
    · exact h.refuse _ _
    · split
      · exact h.refuse _ _
      · have hwritten : ∀ i, s.KeepsBounds
            (t.setConfig { t.config with working := (writeItem t.config.working i value).working }) :=
          fun i => h.setConfig rfl fun _ hw => writeItem_pzeroIn hw i value
        exact (hwritten _).reply _ _ _

/-! #### Supply and time -/

theorem State.KeepsBounds.lossOfSupply : s.KeepsBounds t.cutCommit.unpowered := by
  have hcut : s.KeepsBounds t.cutCommit :=
    h.same (hconfig := by unfold State.cutCommit; split <;> exact ⟨rfl, rfl⟩)
  exact hcut.same rfl ⟨rfl, rfl⟩ rfl ⟨rfl, rfl⟩

theorem State.KeepsBounds.tick : s.KeepsBounds t.tick := by
  unfold State.tick
  split
  · exact h.same rfl ⟨rfl, rfl⟩ rfl ⟨rfl, rfl⟩
  · exact h

end KeepsBounds

/-- R196: a power-on begins within every range, from whatever state. -/
theorem powerOnState_keepsBounds (s : State) (pending : List Instr) (freeCount : Nat) (store : Store)
    (pins : BitVec 5) : s.KeepsBounds (powerOnState pending freeCount store pins) :=
  ⟨fun _ => (classifierIn_iff _).2
      ⟨bootConf_pzeroIn store, bootConf_pzeroIn store, freshClasses_within (bootConf_pzeroIn store)⟩,
    fun _ => zero_bounded, fun _ => rfl⟩

/-- R28: a sweep start advances both sweep numbers. -/
theorem sweepStart_keepsBounds (s : State) (x : Emission) :
    s.KeepsBounds ((s.setSweep (s.sweep.start s.config.running)).setEmission x) :=
  ⟨id, id, start_inStep _⟩

/-! ### Every command and every step -/

/-- What a meaning answers keeps the bounds of the state it was given. -/
def State.AnswersWithin (s : State) (o : Out) : Prop := ∀ t, o = .next t → s.KeepsBounds t

section Answers

variable {s : State}

theorem answersWithin_next {t : State} (h : s.KeepsBounds t) : s.AnswersWithin (.next t) := by
  rintro _ ⟨⟩
  exact h

theorem answersWithin_onlyIf {c : Bool} {after : State} (h : s.KeepsBounds after) :
    s.AnswersWithin (onlyIf c after s) := by
  refine answersWithin_next ?_
  split
  · exact h
  · exact .refl s

theorem answersWithin_expire {p : Pos} {timer : Record → Timer} {limit : Nat} {f : Record → Record} :
    s.AnswersWithin (s.expire p timer limit f) :=
  answersWithin_onlyIf (((State.KeepsBounds.refl s).setTable _).setLamps _)

theorem answersWithin_handleFrame {kind : FrameKind} {owner : RxFrame → State → State}
    (h : ∀ f t, s.KeepsBounds t → s.KeepsBounds (owner f t)) : s.AnswersWithin (s.handleFrame kind owner) := by
  refine answersWithin_next ?_
  split
  · exact h _ _ ((State.KeepsBounds.refl s).takeFrame _)
  · exact .refl s

theorem answersWithin_handleQuery {item : Nat} {answer : Nat → State → State}
    (h : ∀ arg t, s.KeepsBounds t → s.KeepsBounds (answer arg t)) : s.AnswersWithin (s.handleQuery item answer) := by
  refine answersWithin_next ?_
  split
  · exact h _ _ ((State.KeepsBounds.refl s).takeFrame _).restartService
  · exact .refl s

end Answers

/-- Every command keeps the bounds. -/
theorem exec_answersWithin (s : State) (i : Instr) : s.AnswersWithin (exec i s) := by
  have h := State.KeepsBounds.refl s
  cases i with
  | powerOn pins => exact answersWithin_next (powerOnState_keepsBounds s _ _ _ _)
  | sweepStart => exact answersWithin_onlyIf (sweepStart_keepsBounds s _)
  | sweepCompletion r =>
    refine answersWithin_next ?_
    split
    · exact h.completeSweep _ _ _ _
    · exact h
  | oneShotCompletion r =>
    refine answersWithin_next ?_
    split
    · exact h.endFlight.place _ _
    · exact h
  | graceTimerExpiry p => exact answersWithin_expire
  | escalationTimerExpiry p => exact answersWithin_expire
  | chimeSecond p => exact answersWithin_expire
  | slowTimerExpiry p => exact answersWithin_expire
  | buckledRunExpiry p => exact answersWithin_expire
  | seatedTimeSecond p => exact answersWithin_onlyIf (h.setTable _)
  | lampFlashToggle p => exact answersWithin_onlyIf (h.setLamps _)
  | tellTaleFlashToggle => exact answersWithin_onlyIf (h.setDuty _)
  | departureEntryExpiry tag => exact answersWithin_onlyIf (h.setDepartures _)
  | rosterSilent n => exact answersWithin_onlyIf (h.setDuty _).refreshDuty
  | rosterLost n => exact answersWithin_onlyIf (h.setDuty _).refreshDuty
  | vehicleDataLost => exact answersWithin_onlyIf (h.deriveVehicle _)
  | emissionTimerExpiry => exact answersWithin_onlyIf h.emit
  | restartedHoldExpiry => exact answersWithin_onlyIf (h.setEmission _)
  | eventLossHoldExpiry => exact answersWithin_onlyIf (h.setLink _)
  | fenceEnd => exact answersWithin_onlyIf (h.setLink _)
  | stuckHoldEnd => exact answersWithin_onlyIf (h.setLink _)
  | lineStuck => exact answersWithin_onlyIf h.stuckLine
  | pulseEnd length pins => exact answersWithin_onlyIf (h.edge.hearPulse _ pins)
  | frameTxStart => exact answersWithin_onlyIf h.startFrame
  | arbitrationLost => exact answersWithin_onlyIf (h.setLink _).count
  | bitMismatch =>
    refine answersWithin_next ?_
    split
    · exact h.cutOff _
    · exact h
  | frameSent echoed =>
    refine answersWithin_next ?_
    split
    · exact h.frameSent _ echoed
    · exact h
  | wakePulseSendStart => exact answersWithin_onlyIf (h.setLink _)
  | wakePulseRelease heard pins =>
    refine answersWithin_onlyIf ?_
    split
    · exact (h.setLink _).wakeOnCause pins
    · exact (h.setLink _).hearAtRelease _ pins
  | frameReceptionEnd cells echoed => exact answersWithin_onlyIf (h.hearCells _ echoed)
  | sleepRefuseHandled => exact answersWithin_handleFrame fun _ _ ht => ht.closeWindow.restartIdle
  | ownClaimHandled =>
    refine answersWithin_next ?_
    split
    · exact (h.setLink _).ownClaim _
    · exact h
  | claimHandled =>
    show s.AnswersWithin (execClaimHandled s)
    refine answersWithin_handleFrame fun _ _ ht => ?_
    split
    · exact ht
    · exact ht.peerClaim _
  | departHandled =>
    show s.AnswersWithin (execDepartHandled s)
    refine answersWithin_handleFrame fun _ _ ht => ?_
    split
    · exact ht
    · exact ht.peerDepart _
  | rowReleaseHandled =>
    show s.AnswersWithin (execRowReleaseHandled s)
    exact answersWithin_handleFrame fun _ _ ht => ht.release _
  | alertHandled => exact answersWithin_handleFrame fun _ _ ht => ht.restartIdle
  | vehicleHandled => exact answersWithin_handleFrame fun _ _ ht => ht.vehicleFrom _ _
  | stateHandled =>
    show s.AnswersWithin (execStateHandled s)
    refine answersWithin_handleFrame fun _ _ ht => ?_
    split
    · exact ht.peerState _ _
    · exact ht
  | sleepProposeHandled => exact answersWithin_handleFrame fun _ _ ht => ht
  | readCapture =>
    show s.AnswersWithin (execReadCapture s)
    exact answersWithin_handleQuery fun _ _ ht => ht.answerRead _ _
  | clearCapture => exact answersWithin_handleQuery fun arg _ ht => (ht.clearCapture arg).reply _ _ _
  | readCounters =>
    show s.AnswersWithin (execReadCounters s)
    exact answersWithin_handleQuery fun _ _ ht => (ht.afterReading _ _).answerRead _ _
  | readPosition =>
    show s.AnswersWithin (execReadPosition s)
    exact answersWithin_handleQuery fun _ _ ht => ht.answerRead _ _
  | measure => exact answersWithin_handleQuery fun arg _ ht => ht.measure arg
  | readRoster =>
    show s.AnswersWithin (execReadRoster s)
    exact answersWithin_handleQuery fun _ _ ht => ht.answerRead _ _
  | readConfig =>
    show s.AnswersWithin (execReadConfig s)
    exact answersWithin_handleQuery fun _ _ ht => ht.answerRead _ _
  | enterService => exact answersWithin_handleQuery fun arg _ ht => ht.serviceEntry arg
  | leaveService => exact answersWithin_handleQuery fun arg _ ht => ht.serviceLeave arg
  | storeConfig => exact answersWithin_handleQuery fun arg _ ht => ht.storeQuery arg
  | configWrite => exact answersWithin_handleFrame fun _ _ ht => ht.restartService.configFrame _ _
  | commitCompletion =>
    refine answersWithin_onlyIf ?_
    split
    · exact h.commitDone.haltFromService
    · exact h.commitDone
  | serviceTimerExpiry => exact answersWithin_onlyIf h.serviceExit
  | idleTimerExpiry => exact answersWithin_onlyIf h.idleReached
  | windowEnd =>
    refine answersWithin_next ?_
    split
    · split
      · exact h.endWindow _
      · exact h
    · exact h
  | aloneTimerExpiry => exact answersWithin_onlyIf h.aloneReached
  | watchTimerExpiry => exact answersWithin_onlyIf h.enterStandby
  | leftBehindExpiry => exact answersWithin_onlyIf h.leftBehind
  | alertPeriodExpiry p => exact answersWithin_onlyIf (h.alertPeriod p)
  | standbyWatchSample ratios latchOpen pins =>
    refine answersWithin_next ?_
    split
    · exact h.takeSample _ pins
    · exact h
  | lossOfSupply => exact answersWithin_onlyIf h.lossOfSupply
  | diagQueryItemNotDefined =>
    refine answersWithin_next ?_
    split
    · exact (h.takeFrame _).restartService.refuse _ _
    · exact h

/-- A step passes a millisecond, or takes the front command on the rest of the queue. -/
theorem step_keepsBounds {s t : State} (h : step s = .next t) : s.KeepsBounds t := by
  unfold step at h
  split at h
  · exact answersWithin_next (State.KeepsBounds.refl s).tick t h
  · exact ((State.KeepsBounds.refl s).setPending _).trans (exec_answersWithin _ _ t h)

/-- Settles O59: the three bounds are what a step keeps. -/
theorem countersAndBaselinesStayBounded : Obligations.CountersAndBaselinesStayBounded := fun s t hstep => by
  obtain ⟨hclassifier, hcounters, hinStep⟩ := step_keepsBounds hstep
  exact ⟨hclassifier, hcounters, hinStep⟩

end Sys2Proof.Machine

namespace Sys2Proof

theorem Four.set_set {α : Type} (q : Four α) (p : Pos) (x y : α) : (q.set p x).set p y = q.set p y := by
  fin_cases p <;> rfl

theorem Four.set_get_self {α : Type} (q : Four α) (p : Pos) : q.set p (q.get p) = q := by
  fin_cases p <;> rfl

end Sys2Proof

namespace Sys2Proof.Machine

/-! ### The seats after a change of records -/

section Seats

variable (s : State) (p : Pos)

/-- R68, R116: a search writes the origin of the record it is made for, and nothing else of the seats. -/
theorem searchOrSettle_seats {r : Record} (h : s.recordAt p = some r) :
    ∃ o, (s.searchOrSettle p).table.seats
      = s.table.seats.set p { s.table.seats.get p with record := some { r with origin := o } } := by
  have hput : ∀ t : State, t.table = s.table → ∀ o, (t.updateRecord p fun r => { r with origin := o }).table.seats
      = s.table.seats.set p { s.table.seats.get p with record := some { r with origin := o } } := by
    intro t ht o
    have htr : t.recordAt p = some r := by rw [State.recordAt, ht]; exact h
    rw [updateRecord_of_some t htr, State.putRecord, ht]
  simp only [State.searchOrSettle, h]
  split
  · exact ⟨_, hput (s.setDepartures _) rfl _⟩
  · exact ⟨_, hput s rfl _⟩

/-- R67: an arrival puts its new record at its position, and leaves the rest of the seats. -/
theorem arrive_seats (fromUnscanned : Bool) :
    ∃ o, (s.arrive p fromUnscanned).table.seats
      = s.table.seats.set p { s.table.seats.get p with record := some { s.arrivalRecord p .boarded with origin := o } } := by
  cases fromUnscanned with
  | true => exact ⟨.restored, rfl⟩
  | false =>
    obtain ⟨o, ho⟩ := searchOrSettle_seats
      (s.updateSeat p fun seat => { seat with record := some (s.arrivalRecord p .boarded) }) p
      (r := s.arrivalRecord p .boarded) (by simp [State.recordAt, State.updateSeat])
    refine ⟨o, ho.trans ?_⟩
    simp [State.updateSeat, Four.set_set]

/-- R72, R75: the end of a record leaves its position without one, and the rest of the seats as they are. -/
theorem endRecord_seats :
    (s.endRecord p).table.seats = s.table.seats.set p { s.table.seats.get p with record := none } := rfl

theorem depart_seats :
    (s.depart p).table.seats = s.table.seats.set p { s.table.seats.get p with record := none } := by
  unfold State.depart
  split
  · next h =>
    rw [State.recordAt] at h
    rw [← h]
    exact (Four.set_get_self _ _).symm
  · next r h =>
    dsimp only
    rw [endRecord_seats]
    split <;> simp [handOn_seats]

end Seats

/-! ### A record of its seat's class (R64) -/

/-- R64: what the seat holds is a record of this class where it is an occupant class, and none elsewhere. -/
def Seat.HoldsFor (seat : Seat) (cls : Cls) : Prop :=
  seat.record.map Record.cls = if cls.isOccupant then some cls else none

section HoldsFor

variable {seat : Seat} {cls : Cls}

theorem holdsFor_of_none (hr : seat.record = none) (hc : cls.isOccupant = false) : seat.HoldsFor cls := by
  simp [Seat.HoldsFor, hr, hc]

theorem holdsFor_of_some {r : Record} (hr : seat.record = some r) (hcls : r.cls = cls) (hc : cls.isOccupant = true) :
    seat.HoldsFor cls := by
  simp [Seat.HoldsFor, hr, hcls, hc]

theorem Seat.HoldsFor.exists_record (h : seat.HoldsFor cls) (hc : cls.isOccupant = true) :
    ∃ r, seat.record = some r ∧ r.cls = cls := by
  simpa [Seat.HoldsFor, hc] using h

theorem Seat.HoldsFor.record_none (h : seat.HoldsFor cls) (hc : cls.isOccupant = false) : seat.record = none := by
  simpa [Seat.HoldsFor, hc] using h

end HoldsFor

theorem recordsFit_iff (s : State) :
    s.RecordsFit ↔ ∀ p, (s.table.seats.get p).HoldsFor (s.table.seats.get p).cls := by
  refine forall_congr' fun p => ?_
  unfold Seat.HoldsFor State.recordAt
  cases (s.table.seats.get p).record <;> cases (s.table.seats.get p).cls.isOccupant <;> simp

/-! ### What becomes of the occupants at a completion (R66, R70, R71) -/

section SeatChanges

variable {before after : Cls} {test exchanged : Bool}

theorem seatChange_arrives (hb : before.isOccupant = false) (ha : after.isOccupant = true) :
    seatChange before after test exchanged = .arrival (decide (before = .unscanned)) := by
  simp [seatChange, hb, ha, beq_eq_decide]

theorem seatChange_leaves (hb : before.isOccupant = true) (ha : after.isOccupant = false) :
    seatChange before after test exchanged = .departure := by
  simp [seatChange, hb, ha]

theorem seatChange_between (hb : before.isOccupant = true) (ha : after.isOccupant = true) (hne : before ≠ after) :
    seatChange before after test exchanged = .classChange := by
  simp [seatChange, hb, ha, hne]

theorem seatChange_stays (hb : before.isOccupant = true) :
    seatChange before before test exchanged = if exchanged = true ∧ test = false then .exchange else .none := by
  simp [seatChange, hb]

theorem seatChange_vacant (hb : before.isOccupant = false) (ha : after.isOccupant = false) :
    seatChange before after test exchanged = .none := by
  simp [seatChange, hb, ha]

end SeatChanges

section Occupants

variable (s : State)

/-- R66: the work of one position, by its class before and as it stands. -/
def State.takePosition (before : Four Cls) (test : Bool) (p : Pos) : State :=
  s.takeSeatChange p
    (seatChange (before.get p) (s.table.seats.get p).cls test
      (restraintExchanged (s.table.seats.get p).cls (s.recordAt p) (s.sfe.positions.get p).tagView))

theorem takeClasses_eq (before : Four Cls) (test : Bool) :
    s.takeClasses before test = positionsInOrder.foldl (fun t p => t.takePosition before test p) s := rfl

/-- R66: the work of one position leaves the other seats. -/
theorem takeSeatChange_other (change : SeatChange) {p q : Pos} (h : q ≠ p) :
    (s.takeSeatChange p change).table.seats.get q = s.table.seats.get q := by
  have harrive : ∀ (t : State) (u : Bool), (t.arrive p u).table.seats.get q = t.table.seats.get q := by
    intro t u
    obtain ⟨o, ho⟩ := arrive_seats t p u
    rw [ho, Four.get_set_other _ _ _ _ h]
  have hdepart : (s.depart p).table.seats.get q = s.table.seats.get q := by
    rw [depart_seats, Four.get_set_other _ _ _ _ h]
  cases change with
  | none => rfl
  | arrival fromUnscanned => exact harrive s fromUnscanned
  | departure => exact hdepart
  | classChange => exact Four.get_set_other _ _ _ _ h
  | exchange => exact (harrive _ false).trans hdepart

/-- R67: an arrival in an occupant class leaves a record of that class. -/
theorem arrive_holdsFor {p : Pos} (fromUnscanned : Bool) (hc : (s.table.seats.get p).cls.isOccupant = true) :
    ((s.arrive p fromUnscanned).table.seats.get p).HoldsFor (s.table.seats.get p).cls := by
  obtain ⟨o, ho⟩ := arrive_seats s p fromUnscanned
  rw [ho, Four.get_set_self]
  exact holdsFor_of_some rfl rfl hc

/-- R71: an exchange leaves a record of the class that stands. -/
theorem exchange_holdsFor {p : Pos} (hc : (s.table.seats.get p).cls.isOccupant = true) :
    (((s.depart p).arrive p false).table.seats.get p).HoldsFor (s.table.seats.get p).cls := by
  have hkept : ((s.depart p).table.seats.get p).cls = (s.table.seats.get p).cls := by
    rw [depart_seats, Four.get_set_self]
  rw [← hkept]
  exact arrive_holdsFor _ _ (hkept ▸ hc)

/-- R72: a departure from a class that is no occupant class leaves no record. -/
theorem depart_holdsFor {p : Pos} (hc : (s.table.seats.get p).cls.isOccupant = false) :
    ((s.depart p).table.seats.get p).HoldsFor (s.table.seats.get p).cls := by
  rw [depart_seats, Four.get_set_self]
  exact holdsFor_of_none rfl hc

/-- R70: a change between occupant classes gives the record its new class. -/
theorem classChange_holdsFor {p : Pos} {r : Record} (hr : s.recordAt p = some r)
    (hc : (s.table.seats.get p).cls.isOccupant = true) :
    ((s.takeSeatChange p .classChange).table.seats.get p).HoldsFor (s.table.seats.get p).cls := by
  simp only [State.takeSeatChange, updateRecord_of_some s hr, State.putRecord, Four.get_set_self]
  exact holdsFor_of_some rfl rfl hc

/-- R66: a position that held a record for its class before holds one for its class as it stands, once its change is
taken. -/
theorem takePosition_holdsFor (before : Four Cls) (test : Bool) {p : Pos}
    (h : (s.table.seats.get p).HoldsFor (before.get p)) :
    ((s.takePosition before test p).table.seats.get p).HoldsFor (s.table.seats.get p).cls := by
  unfold State.takePosition
  cases hb : (before.get p).isOccupant with
  | true =>
    cases hc : (s.table.seats.get p).cls.isOccupant with
    | true =>
      by_cases heq : before.get p = (s.table.seats.get p).cls
      · rw [heq] at h
        rw [heq, seatChange_stays hc]
        split
        · exact exchange_holdsFor s hc
        · exact h
      · obtain ⟨r, hr, -⟩ := h.exists_record hb
        rw [seatChange_between hb hc heq]
        exact classChange_holdsFor s hr hc
    | false =>
      rw [seatChange_leaves hb hc]
      exact depart_holdsFor s hc
  | false =>
    cases hc : (s.table.seats.get p).cls.isOccupant with
    | true =>
      rw [seatChange_arrives hb hc]
      exact arrive_holdsFor s _ hc
    | false =>
      rw [seatChange_vacant hb hc]
      exact holdsFor_of_none (h.record_none hb) hc

theorem takeSeatChange_get_cls (p q : Pos) (change : SeatChange) :
    ((s.takeSeatChange p change).table.seats.get q).cls = (s.table.seats.get q).cls := by
  simpa using congrArg (Four.get · q) (takeSeatChange_keepsCls s p change)

end Occupants

/-- R66: with the listed positions still to be taken, each holding a record for its class before, and every other
position fitting, all of them fit once the listed ones are taken. -/
theorem foldl_takePosition_fit (before : Four Cls) (test : Bool) (ps : List Pos) (s : State) (hnodup : ps.Nodup)
    (hlisted : ∀ p ∈ ps, (s.table.seats.get p).HoldsFor (before.get p))
    (hrest : ∀ p, p ∉ ps → (s.table.seats.get p).HoldsFor (s.table.seats.get p).cls) :
    (ps.foldl (fun t p => t.takePosition before test p) s).RecordsFit := by
  induction ps generalizing s with
  | nil => exact (recordsFit_iff s).2 fun p => hrest p (List.not_mem_nil)
  | cons p ps ih =>
    obtain ⟨hp, hps⟩ := List.nodup_cons.1 hnodup
    have hother : ∀ q, q ≠ p → (s.takePosition before test p).table.seats.get q = s.table.seats.get q :=
      fun q hq => takeSeatChange_other s _ hq
    have hcls : ∀ q, ((s.takePosition before test p).table.seats.get q).cls = (s.table.seats.get q).cls :=
      fun q => takeSeatChange_get_cls s p q _
    refine ih (s.takePosition before test p) hps (fun q hq => ?_) fun q hq => ?_
    · rw [hother q fun h => hp (h ▸ hq)]
      exact hlisted q (List.mem_cons_of_mem p hq)
    · rw [hcls]
      by_cases h : q = p
      · subst h
        exact takePosition_holdsFor s before test (hlisted q List.mem_cons_self)
      · rw [hother q h]
        exact hrest q (by simp [h, hq])

/-- R66: records that fitted the classes before fit the classes as they stand, once the class changes are taken. -/
theorem takeClasses_recordsFit (s : State) (before : Four Cls) (test : Bool)
    (h : ∀ p, (s.table.seats.get p).HoldsFor (before.get p)) : (s.takeClasses before test).RecordsFit := by
  rw [takeClasses_eq]
  exact foldl_takePosition_fit before test positionsInOrder s (by decide) (fun p _ => h p)
    fun p hp => absurd (mem_positionsInOrder p) hp

end Sys2Proof.Machine

namespace Sys2Proof.Machine

/-! ### What leaves a record's class -/

section RecordClass

variable (r : Record) (env : LadderEnv)

@[simp] theorem atLevel_cls (level : Level) : (r.atLevel level).cls = r.cls := rfl

@[simp] theorem toLevel2_cls : (r.toLevel2 env).cls = r.cls := by
  unfold Record.toLevel2
  split <;> rfl

@[simp] theorem toLevel1_cls : (r.toLevel1 env).cls = r.cls := by
  unfold Record.toLevel1
  repeat' split
  all_goals simp

@[simp] theorem leaveGrace_cls : (r.leaveGrace env).cls = r.cls := toLevel1_cls _ env

@[simp] theorem toGrace_cls : (r.toGrace env).cls = r.cls := by
  unfold Record.toGrace
  split <;> simp

@[simp] theorem becomeDue_cls : (r.becomeDue env).cls = r.cls := by
  unfold Record.becomeDue
  repeat' split
  all_goals simp

@[simp] theorem evaluate_cls (belt : BeltState) : (r.evaluate env belt).cls = r.cls := by
  unfold Record.evaluate
  repeat' split
  all_goals simp

@[simp] theorem speedRise_cls : (r.speedRise env).cls = r.cls := by
  unfold Record.speedRise
  split <;> simp

@[simp] theorem speedFall_cls : r.speedFall.cls = r.cls := by
  unfold Record.speedFall
  split <;> rfl

@[simp] theorem afterSettlement_cls : (r.afterSettlement env).cls = r.cls := by
  unfold Record.afterSettlement
  repeat' split
  all_goals simp

@[simp] theorem settle_cls : (r.settle env).cls = r.cls := by
  unfold Record.settle
  split
  · simp [Record.inherit]
  all_goals rfl

@[simp] theorem chimeTick_cls : (r.chimeTick env).cls = r.cls := by
  unfold Record.chimeTick
  dsimp only
  split <;> simp

@[simp] theorem beltChange_cls (belt : BeltState) : (r.beltChange belt).cls = r.cls := by
  unfold Record.beltChange
  split <;> rfl

end RecordClass

/-! ### Seats with the same occupant (R64) -/

/-- The seat has kept its class, and the class of its record. -/
def Seat.SameOccupant (a b : Seat) : Prop := b.cls = a.cls ∧ b.record.map Record.cls = a.record.map Record.cls

section SameOccupant

theorem sameOccupant_refl (a : Seat) : a.SameOccupant a := ⟨rfl, rfl⟩

theorem sameOccupant_trans {a b c : Seat} (hab : a.SameOccupant b) (hbc : b.SameOccupant c) : a.SameOccupant c :=
  ⟨hbc.1.trans hab.1, hbc.2.trans hab.2⟩

/-- A change of the record that leaves its class, and any change of the securing state. -/
theorem sameOccupant_map (a : Seat) (securing : Option Level) {f : Record → Record} (hf : ∀ r, (f r).cls = r.cls) :
    a.SameOccupant { a with record := a.record.map f, securing := securing } :=
  ⟨rfl, by cases a.record <;> simp [hf]⟩

theorem evaluate_sameOccupant (env : LadderEnv) (belt : BeltState) (a : Seat) : a.SameOccupant (a.evaluate env belt) :=
  sameOccupant_map a _ fun r => evaluate_cls r env belt

theorem step4_sameOccupant (env : LadderEnv) (sfe : SfePosition) (a : Seat) : a.SameOccupant (a.step4 env sfe) :=
  sameOccupant_trans (sameOccupant_map a (securingAfter a.cls sfe.tagView a.securing) (f := Record.rekind) fun _ => rfl)
    (evaluate_sameOccupant env sfe.belt _)

theorem vehicleEvents_sameOccupant (env : LadderEnv) (ch : VehicleChange) (belt : BeltState) (a : Seat) :
    a.SameOccupant (a.vehicleEvents env ch belt) := by
  have hignition : a.SameOccupant (if (ch.becameOn || ch.leftOn) = true then a.evaluate env belt else a) := by
    split
    · exact evaluate_sameOccupant env belt a
    · exact sameOccupant_refl a
  have hspeed : ∀ b : Seat, b.SameOccupant
      (if ch.speedRose = true then { b with record := b.record.map fun r => r.speedRise env }
       else if ch.speedFell = true then { b with record := b.record.map Record.speedFall } else b) := by
    intro b
    repeat' split
    · exact sameOccupant_map b _ fun r => speedRise_cls r env
    · exact sameOccupant_map b _ speedFall_cls
    · exact sameOccupant_refl b
  have htrip : ∀ b : Seat, b.SameOccupant
      (if ch.tripEnded = true then
        { b with record := b.record.map fun r => r.tripEnd belt, securing := b.securing.map fun _ => .quiet }
       else b) := by
    intro b
    split
    · exact sameOccupant_map b _ fun _ => rfl
    · exact sameOccupant_refl b
  exact sameOccupant_trans (sameOccupant_trans hignition (hspeed _)) (htrip _)

end SameOccupant

/-! ### Fitting records through each operation (R64) -/

section Fitting

variable {s t : State}

/-- Where every seat keeps its occupant, the records go on fitting. -/
theorem State.RecordsFit.of_sameOccupants (h : s.RecordsFit)
    (hs : ∀ p, (s.table.seats.get p).SameOccupant (t.table.seats.get p)) : t.RecordsFit := by
  rw [recordsFit_iff] at h ⊢
  intro p
  obtain ⟨hcls, hrecord⟩ := hs p
  simpa only [Seat.HoldsFor, hcls, hrecord] using h p

theorem State.RecordsFit.of_seats (h : s.RecordsFit) (hs : t.table.seats = s.table.seats) : t.RecordsFit :=
  h.of_sameOccupants fun _ => hs ▸ sameOccupant_refl _

theorem State.RecordsFit.of_table (h : s.RecordsFit) (ht : t.table = s.table) : t.RecordsFit :=
  h.of_seats (ht ▸ rfl)

theorem State.RecordsFit.of_set (h : s.RecordsFit) {p : Pos} {x : Seat}
    (ht : t.table.seats = s.table.seats.set p x) (hx : (s.table.seats.get p).SameOccupant x) : t.RecordsFit := by
  refine h.of_sameOccupants fun q => ?_
  rw [ht, Four.get_set]
  split
  · next hq => exact hq ▸ hx
  · exact sameOccupant_refl _

/-- R62, R82: a fresh table holds no record, and no occupant class. -/
theorem recordsFit_of_freshSeats {c : Conf} (hs : s.table.seats = freshSeats c) : s.RecordsFit := by
  rw [recordsFit_iff]
  intro p
  rw [hs]
  cases h : isPosition c p <;> simp [freshSeats, h, Seat.HoldsFor, Cls.isOccupant]

/-! #### Records and alerts -/

theorem State.RecordsFit.mapSeats (h : s.RecordsFit) {f : Pos → Seat → Seat}
    (hf : ∀ p (seat : Seat), seat.SameOccupant (f p seat)) : (s.mapSeats f).RecordsFit :=
  h.of_sameOccupants fun p => by simpa [State.mapSeats] using hf p _

theorem State.RecordsFit.updateRecord (h : s.RecordsFit) (p : Pos) {f : Record → Record}
    (hf : ∀ r, (f r).cls = r.cls) : (s.updateRecord p f).RecordsFit :=
  h.of_set rfl (sameOccupant_map _ _ hf)

theorem State.RecordsFit.endAlert (h : s.RecordsFit) (p : Pos) (after : Alert) : (s.endAlert p after).RecordsFit := by
  unfold State.endAlert
  repeat' split
  · exact (h.updateRecord p (f := fun r => { r with alert := after }) fun _ => rfl).of_table rfl
  · exact h
  · exact h

theorem State.RecordsFit.acknowledgeAlerts (h : s.RecordsFit) : s.acknowledgeAlerts.RecordsFit :=
  List.foldlRecOn positionsInOrder _ h fun _ ht p _ => ht.endAlert p _

theorem State.RecordsFit.sendAlert (h : s.RecordsFit) (p : Pos) (cls : Cls) (count : Nat) :
    (s.sendAlert p cls count).RecordsFit :=
  (h.updateRecord p (f := fun r => { r with alert := .active count (.running 0) }) fun _ => rfl).of_table rfl

theorem State.RecordsFit.raiseAlert (h : s.RecordsFit) (p : Pos) : (s.raiseAlert p).RecordsFit := by
  unfold State.raiseAlert
  repeat' split
  · exact h.sendAlert p _ _
  · exact h
  · exact h

theorem State.RecordsFit.alertPeriod (h : s.RecordsFit) (p : Pos) : (s.alertPeriod p).RecordsFit := by
  unfold State.alertPeriod
  repeat' split
  · exact h
  · exact h.sendAlert p _ _
  · exact h.endAlert p _
  all_goals exact h

theorem State.RecordsFit.leftBehind (h : s.RecordsFit) : s.leftBehind.RecordsFit := by
  unfold State.leftBehind
  exact List.foldlRecOn positionsInOrder State.raiseAlert (motive := State.RecordsFit) (h.of_table (by simp))
    fun _ ht p _ => ht.raiseAlert p

theorem State.RecordsFit.alertSent (h : s.RecordsFit) (payload : List Byte) : (s.alertSent payload).RecordsFit := by
  unfold State.alertSent
  split
  · exact h.endAlert _ _
  · exact h

/-! #### Claims -/

theorem State.RecordsFit.searchOrSettle (h : s.RecordsFit) (p : Pos) : (s.searchOrSettle p).RecordsFit := by
  cases hr : s.recordAt p with
  | none => simpa only [State.searchOrSettle, hr] using h
  | some r =>
    obtain ⟨o, ho⟩ := searchOrSettle_seats s p hr
    rw [State.recordAt] at hr
    exact h.of_set ho ⟨rfl, by simp [hr]⟩

theorem State.RecordsFit.yieldCutOff (h : s.RecordsFit) (p : Pos) : (s.yieldCutOff p).RecordsFit := by
  have hcount : ∀ f, (s.count f).RecordsFit := fun _ => h.of_table rfl
  exact (hcount _).searchOrSettle p

theorem State.RecordsFit.claimCutOff (h : s.RecordsFit) (c : ClaimRef) : (s.claimCutOff c).RecordsFit := by
  unfold State.claimCutOff
  repeat' split
  · exact h
  · exact h.yieldCutOff _
  · exact h

theorem State.RecordsFit.yieldToRival (h : s.RecordsFit) (p : Pos) : (s.yieldToRival p).RecordsFit := by
  unfold State.yieldToRival
  split
  · exact State.RecordsFit.yieldCutOff (h.of_table (by simp)) p
  · exact h

theorem State.RecordsFit.peerClaim (h : s.RecordsFit) (tag : DepTag) : (s.peerClaim tag).RecordsFit := by
  have hlist : (s.setDepartures (removeTag s.departures tag)).RecordsFit := h.of_table rfl
  unfold State.peerClaim
  dsimp only
  split
  · exact hlist.yieldToRival _
  · exact hlist.of_table (by simp)

theorem State.RecordsFit.ownClaim (h : s.RecordsFit) (c : ClaimRef) : (s.ownClaim c).RecordsFit := by
  unfold State.ownClaim
  repeat' split
  · exact h
  · exact h
  · exact (h.updateRecord _ fun r => settle_cls r _).of_table rfl
  · exact h.updateRecord _ fun _ => rfl

/-! #### Changes of mode -/

theorem State.RecordsFit.enterStandby (h : s.RecordsFit) : s.enterStandby.RecordsFit :=
  h.of_sameOccupants fun p => by
    simpa [enterStandby_writes] using sameOccupant_map (s.table.seats.get p) _ (f := Record.stopTimers) fun _ => rfl

theorem State.RecordsFit.haltEntry (h : s.RecordsFit) : s.haltEntry.RecordsFit := h.enterStandby.of_table rfl

theorem State.RecordsFit.ownDecision (h : s.RecordsFit) : s.ownDecision.RecordsFit := by
  unfold State.ownDecision
  split
  · exact h.of_table (by simp)
  · exact h.enterStandby

theorem wake_recordsFit (s : State) (pins : BitVec 5) : (s.wake pins).RecordsFit := recordsFit_of_freshSeats rfl

theorem serviceExit_recordsFit (s : State) : s.serviceExit.RecordsFit := recordsFit_of_freshSeats rfl

theorem enterServiceMode_recordsFit (s : State) : s.enterServiceMode.RecordsFit :=
  recordsFit_of_freshSeats (c := s.config.running) (by simp [State.enterServiceMode, State.serviceBlocks])

theorem State.RecordsFit.heardWake (h : s.RecordsFit) (pins : BitVec 5) : (s.heardWake pins).RecordsFit := by
  unfold State.heardWake
  split
  · exact h.of_table (by simp)
  · exact h.of_table (by simp)
  · exact wake_recordsFit s pins
  · exact h

theorem State.RecordsFit.heardHalt (h : s.RecordsFit) : s.heardHalt.RecordsFit := by
  unfold State.heardHalt
  split
  · exact h.haltEntry
  · exact h.haltEntry
  · exact h.of_table (by simp)
  · split
    · exact h.of_table rfl
    · exact (serviceExit_recordsFit s).haltEntry

theorem State.RecordsFit.wakeOnCause (h : s.RecordsFit) (pins : BitVec 5) : (s.wakeOnCause pins).RecordsFit := by
  unfold State.wakeOnCause
  split
  · exact wake_recordsFit s pins
  · exact h

theorem State.RecordsFit.takeSample (h : s.RecordsFit) (sampled : StandbyWatch × Bool) (pins : BitVec 5) :
    (s.takeSample sampled pins).RecordsFit := by
  unfold State.takeSample State.localWakeCause
  repeat' split
  · exact h.of_table rfl
  · exact wake_recordsFit _ pins
  · exact h.of_table rfl

theorem State.RecordsFit.hearPulse (h : s.RecordsFit) (c : PulseClass) (pins : BitVec 5) :
    (s.hearPulse c pins).RecordsFit := by
  unfold State.hearPulse
  split
  · exact h.of_table rfl
  · exact h.heardWake pins
  · exact h.heardHalt
  · exact h
  · exact h

theorem State.RecordsFit.hearAtRelease (h : s.RecordsFit) (length : Nat) (pins : BitVec 5) :
    (s.hearAtRelease length pins).RecordsFit := by
  have hedge : s.edge.RecordsFit := h.of_table rfl
  unfold State.hearAtRelease
  split
  · have hstuck : s.stuckLine.edge.RecordsFit := h.of_table rfl
    exact hstuck.wakeOnCause pins
  · exact hedge.heardHalt
  · exact (hedge.hearPulse _ pins).wakeOnCause pins
  · exact hedge.heardWake pins
  · exact h

theorem State.RecordsFit.endWindow (h : s.RecordsFit) (w : Window) : (s.endWindow w).RecordsFit := by
  have hclosed : s.closeWindow.RecordsFit := h.of_table rfl
  unfold State.endWindow State.activeWindowEnd
  repeat' split
  · exact hclosed.of_table (by simp)
  · exact hclosed.ownDecision
  · exact hclosed

theorem State.RecordsFit.aloneReached (h : s.RecordsFit) : s.aloneReached.RecordsFit := by
  unfold State.aloneReached
  split
  · exact h.of_table rfl
  · exact h.ownDecision

/-! #### Vehicle data -/

theorem State.RecordsFit.ignitionBecameOn (h : s.RecordsFit) : s.ignitionBecameOn.RecordsFit := by
  unfold State.ignitionBecameOn
  dsimp only
  split
  · exact h.acknowledgeAlerts.of_table (by simp)
  · exact h.acknowledgeAlerts.of_table rfl

theorem State.RecordsFit.takeVehicleChange (h : s.RecordsFit) (ch : VehicleChange) :
    (s.takeVehicleChange ch).RecordsFit := by
  have hseats : ((s.mapSeats fun p seat => seat.vehicleEvents s.ladderEnv ch (s.sfe.positions.get p).belt).setDepartures
      (if ch.tripEnded then [] else s.departures)).RecordsFit :=
    (h.mapSeats fun p seat => vehicleEvents_sameOccupant _ ch _ seat).of_table rfl
  unfold State.takeVehicleChange
  dsimp only
  split
  · exact hseats.ignitionBecameOn
  · split
    · exact hseats.of_table (by simp)
    · exact hseats

theorem State.RecordsFit.deriveVehicle (h : s.RecordsFit) (after : Vehicle) : (s.deriveVehicle after).RecordsFit := by
  have hvehicle : ∀ v, (s.setVehicle v).RecordsFit := fun _ => h.of_table rfl
  exact ((hvehicle _).takeVehicleChange _).of_table rfl

theorem State.RecordsFit.vehicleFrom (h : s.RecordsFit) (n : StationNo) (payload : List Byte) :
    (s.vehicleFrom n payload).RecordsFit := by
  have hdoor : ∀ t : State, t.RecordsFit → ∀ isOpen, (t.doorReport isOpen).RecordsFit := by
    intro t ht isOpen
    unfold State.doorReport
    split
    · exact ht.of_table (by simp)
    · exact ht
  unfold State.vehicleFrom State.takeVehicle State.acknowledge
  repeat' split
  · exact (hdoor _ (h.deriveVehicle _) _).acknowledgeAlerts
  · exact hdoor _ (h.deriveVehicle _) _
  · exact h.of_table rfl

/-! #### The end of a transmission -/

theorem State.RecordsFit.cutOff (h : s.RecordsFit) (e : TxEntry) : (s.cutOff e).RecordsFit := by
  have hframe : ∀ t : State, t.RecordsFit → (t.frameCutOff e).RecordsFit := by
    intro t ht
    unfold State.frameCutOff
    split
    · exact ht.claimCutOff _
    · exact ht.of_table (by simp)
    · exact ht
  exact hframe _ (h.of_table (by simp))

theorem State.RecordsFit.frameSent (h : s.RecordsFit) (e : TxEntry) (echoed : Bool) :
    (s.frameSent e echoed).RecordsFit := by
  have hsent : (((s.setLink (s.link.sent e)).count fun k => k.sent echoed).reportEcho e echoed).RecordsFit :=
    h.of_table (by simp)
  unfold State.frameSent State.sentReport
  split
  · exact hsent.of_table (by simp)
  · exact hsent.alertSent _
  · exact hsent

/-! #### The completion of a sweep -/

theorem State.RecordsFit.takeBelts (h : s.RecordsFit) (changed : Four Bool) : (s.takeBelts changed).RecordsFit :=
  h.mapSeats fun p seat => by
    split
    · exact sameOccupant_map seat _ fun r => beltChange_cls r _
    · exact sameOccupant_refl seat

/-- R66, R76, R78: once step 3 is done, records that fitted the classes before the completion fit those it settled. -/
theorem tableStep_recordsFit (before : Four Cls) (test : Bool) (o : SensingOutcome)
    (h : ∀ p, (s.table.seats.get p).HoldsFor (before.get p)) : (s.tableStep before test o).RecordsFit :=
  ((takeClasses_recordsFit s before test h).takeBelts o.beltChanged).of_seats (by simp [State.tableStep])

theorem State.RecordsFit.ladderStep (h : s.RecordsFit) : s.ladderStep.RecordsFit :=
  (h.mapSeats fun p seat => step4_sameOccupant s.ladderEnv (s.sfe.positions.get p) seat).of_table rfl

theorem State.RecordsFit.endAlertsByClass (h : s.RecordsFit) : s.endAlertsByClass.RecordsFit :=
  List.foldlRecOn positionsInOrder _ h fun _ ht p _ => by
    split
    · exact ht.endAlert p _
    · exact ht

theorem State.RecordsFit.vacantStep (h : s.RecordsFit) : s.vacantStep.RecordsFit := by
  unfold State.vacantStep
  repeat' split
  · exact h.of_table rfl
  · exact h.enterStandby
  · exact h.of_table rfl
  · exact h

theorem State.RecordsFit.modeStep (h : s.RecordsFit) (c : OwnChanges) : (s.modeStep c).RecordsFit := by
  have hwatch : ∀ t : State, t.RecordsFit → ∀ ownChange, (t.watchStep ownChange).RecordsFit := by
    intro t ht ownChange
    unfold State.watchStep
    split
    · exact ht.vacantStep.of_table (by simp)
    · exact State.RecordsFit.vacantStep (ht.of_table (by simp))
  exact hwatch _ (h.endAlertsByClass.of_table (by simp)) _

/-- Step 2 leaves the records as they stand. -/
theorem classifiedBy_record (number : Word16) (test : Bool) (tagAt : Option Pos) (r : SweepReadings) (p : Pos) :
    ((s.classifiedBy number test tagAt r).table.seats.get p).record = (s.table.seats.get p).record := by
  unfold State.classifiedBy State.classifierStep
  split <;> simp [State.mapSeats]

theorem State.RecordsFit.completeSweep (h : s.RecordsFit) (number : Word16) (test : Bool) (tagAt : Option Pos)
    (r : SweepReadings) : (s.completeSweep number test tagAt r).RecordsFit := by
  have hbefore : ∀ p, ((s.classifiedBy number test tagAt r).table.seats.get p).HoldsFor
      ((s.table.seats.map Seat.cls).get p) := fun p => by
    rw [Four.get_map, Seat.HoldsFor, classifiedBy_record]
    exact (recordsFit_iff s).1 h p
  have hladders := (tableStep_recordsFit _ test (sense s.config.running number test tagAt r s.sfe) hbefore).ladderStep
  have hreport : (s.beforeStepSix number test tagAt r).RecordsFit :=
    hladders.of_table (by simp [State.beforeStepSix])
  rw [completeSweep_eq_modeStep]
  exact (hreport.modeStep _).of_table rfl

/-! #### Service, supply and time -/

theorem State.RecordsFit.serviceEntry (h : s.RecordsFit) (arg : Nat) : (s.serviceEntry arg).RecordsFit := by
  unfold State.serviceEntry
  repeat' split
  · exact h.of_table (by simp)
  · exact h.of_table (by simp)
  · exact h.of_table (by simp)
  · exact (enterServiceMode_recordsFit s).of_table (by simp)

theorem State.RecordsFit.serviceLeave (h : s.RecordsFit) (arg : Nat) : (s.serviceLeave arg).RecordsFit := by
  unfold State.serviceLeave
  repeat' split
  · exact h.of_table (by simp)
  · exact h.of_table (by simp)
  · exact h.of_table (by simp)
  · exact (serviceExit_recordsFit s).of_table (by simp)

theorem State.RecordsFit.tick (h : s.RecordsFit) : s.tick.RecordsFit := by
  unfold State.tick
  split
  · refine h.of_sameOccupants fun p => ?_
    unfold State.millisecond
    dsimp only
    split
    · rw [Four.get_map]
      exact sameOccupant_map _ _ fun _ => rfl
    · exact sameOccupant_refl _
  · exact h

end Fitting

end Sys2Proof.Machine

namespace Sys2Proof.Machine

/-! ### Every command and every step keeps the records fitting (R64) -/

/-- Records fit in whatever next state is answered. -/
def AnswersFitting (o : Out) : Prop := ∀ t, o = .next t → t.RecordsFit

section AnswersFitting

variable {s : State}

theorem answersFitting_next {t : State} (h : t.RecordsFit) : AnswersFitting (.next t) := by
  rintro _ ⟨⟩
  exact h

theorem answersFitting_onlyIf {c : Bool} {after : State} (h : s.RecordsFit) (hafter : after.RecordsFit) :
    AnswersFitting (onlyIf c after s) := by
  refine answersFitting_next ?_
  split
  · exact hafter
  · exact h

/-- A guarded command that leaves the position table. -/
theorem answersFitting_onlyIf_of_table {c : Bool} {after : State} (h : s.RecordsFit) (ht : after.table = s.table) :
    AnswersFitting (onlyIf c after s) :=
  answersFitting_onlyIf h (h.of_table ht)

theorem answersFitting_expire (h : s.RecordsFit) {p : Pos} {timer : Record → Timer} {limit : Nat} {f : Record → Record}
    (hf : ∀ r, (f r).cls = r.cls) : AnswersFitting (s.expire p timer limit f) :=
  answersFitting_onlyIf h ((h.updateRecord p hf).of_table rfl)

theorem answersFitting_handleFrame (h : s.RecordsFit) {kind : FrameKind} {owner : RxFrame → State → State}
    (howner : ∀ f t, t.RecordsFit → (owner f t).RecordsFit) : AnswersFitting (s.handleFrame kind owner) := by
  refine answersFitting_next ?_
  split
  · exact howner _ _ (h.of_table rfl)
  · exact h

theorem answersFitting_handleQuery (h : s.RecordsFit) {item : Nat} {answer : Nat → State → State}
    (hanswer : ∀ arg t, t.RecordsFit → (answer arg t).RecordsFit) : AnswersFitting (s.handleQuery item answer) := by
  refine answersFitting_next ?_
  split
  · exact hanswer _ _ (h.of_table rfl)
  · exact h

/-- A query whose answer leaves the position table. -/
theorem answersFitting_handleQuery_of_table (h : s.RecordsFit) {item : Nat} {answer : Nat → State → State}
    (ht : ∀ arg (t : State), (answer arg t).table = t.table) : AnswersFitting (s.handleQuery item answer) :=
  answersFitting_handleQuery h fun arg t hfit => hfit.of_table (ht arg t)

end AnswersFitting

/-- Every command keeps the records fitting. -/
theorem exec_answersFitting {s : State} (h : s.RecordsFit) (i : Instr) : AnswersFitting (exec i s) := by
  cases i with
  | powerOn pins => exact answersFitting_next (recordsFit_of_freshSeats rfl)
  | sweepCompletion r =>
    refine answersFitting_next ?_
    split
    · exact h.completeSweep _ _ _ r
    · exact h
  | oneShotCompletion r =>
    refine answersFitting_next ?_
    split
    · exact h.of_table (by simp)
    · exact h
  | graceTimerExpiry p => exact answersFitting_expire h fun r => leaveGrace_cls r _
  | escalationTimerExpiry p => exact answersFitting_expire h fun r => toLevel2_cls r _
  | chimeSecond p => exact answersFitting_expire h fun r => chimeTick_cls r _
  | slowTimerExpiry p | buckledRunExpiry p => exact answersFitting_expire h fun _ => rfl
  | seatedTimeSecond p => exact answersFitting_onlyIf h (h.updateRecord p fun _ => rfl)
  | sweepStart | lampFlashToggle | tellTaleFlashToggle | departureEntryExpiry | rosterSilent | rosterLost
  | restartedHoldExpiry | eventLossHoldExpiry | fenceEnd | stuckHoldEnd | lineStuck | arbitrationLost
  | wakePulseSendStart => exact answersFitting_onlyIf_of_table h rfl
  | vehicleDataLost => exact answersFitting_onlyIf h (h.deriveVehicle _)
  | emissionTimerExpiry => exact answersFitting_onlyIf_of_table h (by simp)
  | pulseEnd length pins =>
    have hedge : s.edge.RecordsFit := h.of_table rfl
    exact answersFitting_onlyIf h (hedge.hearPulse _ pins)
  | frameTxStart => exact answersFitting_onlyIf_of_table h (by simp)
  | bitMismatch =>
    refine answersFitting_next ?_
    split
    · exact h.cutOff _
    · exact h
  | frameSent echoed =>
    refine answersFitting_next ?_
    split
    · exact h.frameSent _ echoed
    · exact h
  | wakePulseRelease heard pins =>
    have hreleased : (s.setLink { s.link with drive := .released, wakePending := false }).RecordsFit := h.of_table rfl
    refine answersFitting_onlyIf h ?_
    split
    · exact hreleased.wakeOnCause pins
    · exact hreleased.hearAtRelease _ pins
  | frameReceptionEnd cells echoed => exact answersFitting_onlyIf_of_table h (by simp)
  | ownClaimHandled =>
    have hslot : (s.setLink { s.link with selfSlot := none }).RecordsFit := h.of_table rfl
    refine answersFitting_next ?_
    split
    · exact hslot.ownClaim _
    · exact h
  | claimHandled =>
    show AnswersFitting (execClaimHandled s)
    refine answersFitting_handleFrame h fun _ _ ht => ?_
    split
    · exact ht
    · exact ht.peerClaim _
  | departHandled =>
    show AnswersFitting (execDepartHandled s)
    refine answersFitting_handleFrame h fun _ _ ht => ?_
    split
    · exact ht
    · exact ht.of_table (by simp)
  | sleepRefuseHandled | rowReleaseHandled | alertHandled | sleepProposeHandled | configWrite =>
    simp only [exec, execSleepRefuseHandled, execRowReleaseHandled, execAlertHandled, execSleepProposeHandled,
      execConfigWrite]
    exact answersFitting_handleFrame h fun _ _ ht => ht.of_table (by simp)
  | vehicleHandled => exact answersFitting_handleFrame h fun _ _ ht => ht.vehicleFrom _ _
  | stateHandled =>
    show AnswersFitting (execStateHandled s)
    refine answersFitting_handleFrame h fun _ _ ht => ?_
    split
    · exact ht.of_table (by simp)
    · exact ht
  | readCapture | clearCapture | readCounters | readPosition | measure | readRoster | readConfig | storeConfig =>
    simp only [exec, execReadCapture, execClearCapture, execReadCounters, execReadPosition, execMeasure,
      execReadRoster, execReadConfig, execStoreConfig]
    exact answersFitting_handleQuery_of_table h fun _ _ => by simp
  | enterService => exact answersFitting_handleQuery h fun arg _ ht => ht.serviceEntry arg
  | leaveService => exact answersFitting_handleQuery h fun arg _ ht => ht.serviceLeave arg
  | commitCompletion =>
    refine answersFitting_onlyIf h ?_
    split
    · exact (serviceExit_recordsFit s.commitDone).haltEntry
    · exact h.of_table (by simp)
  | serviceTimerExpiry => exact answersFitting_onlyIf h (serviceExit_recordsFit s)
  | idleTimerExpiry => exact answersFitting_onlyIf_of_table h (by simp)
  | windowEnd =>
    refine answersFitting_next ?_
    split
    · split
      · exact h.endWindow _
      · exact h
    · exact h
  | aloneTimerExpiry => exact answersFitting_onlyIf h h.aloneReached
  | watchTimerExpiry => exact answersFitting_onlyIf h h.enterStandby
  | leftBehindExpiry => exact answersFitting_onlyIf h h.leftBehind
  | alertPeriodExpiry p => exact answersFitting_onlyIf h (h.alertPeriod p)
  | standbyWatchSample ratios latchOpen pins =>
    refine answersFitting_next ?_
    split
    · exact h.takeSample _ pins
    · exact h
  | lossOfSupply => exact answersFitting_onlyIf_of_table h (by simp [State.unpowered])
  | diagQueryItemNotDefined =>
    refine answersFitting_next ?_
    split
    · exact h.of_table (by simp)
    · exact h

/-- Settles O56: a step passes a millisecond, or takes the front command on the rest of the queue. -/
theorem recordsStayFitting : Obligations.RecordsStayFitting := fun s t h hstep => by
  unfold step at hstep
  split at hstep
  · exact answersFitting_next h.tick t hstep
  · next i rest _ =>
    have hrest : (s.setPending rest).RecordsFit := h.of_table rfl
    exact exec_answersFitting hrest i t hstep

end Sys2Proof.Machine

namespace Sys2Proof.Machine

/-! ### Arrivals (R67 to R69) -/

section Arrivals

variable (s : State) (p : Pos)

theorem putRecord_recordAt (r : Record) : (s.putRecord p r).recordAt p = some r := by
  simp [State.putRecord, State.recordAt]

theorem putRecord_putRecord (r r' : Record) : (s.putRecord p r).putRecord p r' = s.putRecord p r' := by
  simp [State.putRecord, Four.set_set]

/-- R67: the values of the table. -/
theorem arrivalRecord_first (origin : Origin) : s.FirstRecord p (s.arrivalRecord p origin) := by
  refine ⟨rfl, rfl, by simp [State.arrivalRecord, newRecord], rfl, rfl, rfl, rfl, rfl, rfl, rfl, rfl, rfl, rfl, rfl,
    fun g hc hv => ?_, fun hc => ?_⟩
  · simp [State.arrivalRecord, newRecord, tagPartOf, hc, hv]
  · simp [State.arrivalRecord, newRecord, tagPartOf, hc]

/-- R68, R114: what comes of a search does not turn on the record that stood at the position before. -/
theorem searched_of_putRecord {t : State} {r r' : Record} (h : (s.putRecord p r').Searched t p r) :
    s.Searched t p r := by
  obtain ⟨hfound, hnone⟩ := h
  constructor
  · intro before e after kind hm hl hb he
    rw [hfound before e after kind hm hl hb he]
    exact congrArg (State.offerTx · _) (putRecord_putRecord
      (s.setDepartures (s.departures.filter fun d => decide (d.tag ≠ e.tag))) p r' { r with origin := .claiming e })
  · intro hn
    rw [hnone hn, putRecord_putRecord]
    rfl

end Arrivals

/-- Settles O15: the arrival's record, put at its position, is what the search is made for. -/
theorem arrivalCreatesRecord : Obligations.ArrivalCreatesRecord := fun s p =>
  ⟨s.arrivalRecord p .boarded, arrivalRecord_first s p _, rfl,
    searched_of_putRecord s p (searchOrSettle_searched _ (putRecord_recordAt s p (s.arrivalRecord p .boarded)))⟩

/-! ### Class changes and belt changes (R70, R71, R76) -/

theorem restraintExchanged_iff (cls : Cls) (record : Option Record) (view : TagView) :
    restraintExchanged cls record view = true ↔
      cls = .csOccupied ∧ ∃ r g seen, record = some r ∧ r.tag = some g ∧ view = .present seen
        ∧ g.serial ≠ seen.serial := by
  constructor
  · intro h
    unfold restraintExchanged at h
    split at h
    · next r seen =>
      cases hg : r.tag with
      | none => simp [hg] at h
      | some g => exact ⟨rfl, r, g, seen, rfl, hg, rfl, by simpa [hg] using h⟩
    · contradiction
  · rintro ⟨rfl, r, g, seen, rfl, hg, rfl, hne⟩
    simp [restraintExchanged, hg, hne]

section BeltChanges

variable (s : State) (changed : Four Bool) (p : Pos)

theorem takeBelts_get :
    (s.takeBelts changed).table.seats.get p
      = if changed.get p = true then
          { s.table.seats.get p with
            record := (s.recordAt p).map fun r => r.beltChange (s.sfe.positions.get p).belt }
        else s.table.seats.get p := by
  simp [State.takeBelts, State.mapSeats, State.recordAt]

theorem takeBelts_recordAt :
    (s.takeBelts changed).recordAt p
      = if changed.get p = true then (s.recordAt p).map fun r => r.beltChange (s.sfe.positions.get p).belt
        else s.recordAt p := by
  rw [State.recordAt, takeBelts_get]
  split <;> rfl

theorem beltChange_of_buckled (r : Record) {belt : BeltState} (h : belt = .buckled) :
    r.beltChange belt = { r with everBuckled := true, buckledRun := .running 0 } := by
  simp [Record.beltChange, h]

theorem beltChange_of_not_buckled (r : Record) {belt : BeltState} (h : belt ≠ .buckled) :
    r.beltChange belt = { r with buckledRun := .stopped } := by
  simp [Record.beltChange, h]

end BeltChanges

/-- R70: a class change keeps the record, with its new class and the tag part that goes with it. -/
theorem takeSeatChange_classChange {s : State} {p : Pos} {r : Record} (h : s.recordAt p = some r) :
    s.takeSeatChange p .classChange
      = s.putRecord p (r.changeClass (s.table.seats.get p).cls (s.sfe.positions.get p).tagView) :=
  updateRecord_of_some s h _

/-- Settles O17: the work of one position is `State.takePosition`, its change by the rows of `seatChange`; then the
belts seat by seat. -/
theorem occupantChanges : Obligations.OccupantChanges := by
  refine ⟨fun s before test one hone => ?_, fun before after test exchanged => ?_, restraintExchanged_iff,
    fun s p => ⟨rfl, rfl, fun _ => rfl, rfl, fun r cls hr hcls => ?_⟩, fun s changed => ⟨rfl, fun p => ?_⟩⟩
  · have hone' : ∀ p u, one p u = u.takePosition before test p := hone
    simp [takeClasses_eq, positionsInOrder, hone']
  · exact ⟨seatChange_arrives, seatChange_leaves, seatChange_between,
      fun hb heq => by rw [heq]; exact seatChange_stays hb, seatChange_vacant⟩
  · rw [takeSeatChange_classChange hr, ← hcls]
    refine ⟨fun hc => ?_, fun hc hrc => ?_, fun g hc hrc hg => ?_⟩
    · simp [Record.changeClass, hc]
    · simp [Record.changeClass, hc, hrc]
    · simp [Record.changeClass, hc, hrc, tagPartOf, hg]
  · rw [takeBelts_recordAt, takeBelts_get]
    refine ⟨by split <;> rfl, by split <;> rfl, fun hn => by simp [hn], fun hr => by simp [hr], fun r hc hr => ?_⟩
    rw [if_pos hc, hr]
    exact ⟨fun hb => congrArg some (beltChange_of_buckled r hb), fun hb => congrArg some (beltChange_of_not_buckled r hb)⟩

/-! ### Latch and row release (R78 to R80) -/

theorem underWay_iff (s : State) :
    s.underWay = true ↔ s.vehicle.ignition = .on ∧ s.config.running.vTrip ≤ s.effSpeed := by
  simp [State.underWay, State.ignitionOn, Vehicle.effIgnition, State.atSpeed]

/-- R78: an opening under way, and any other. -/
theorem latchOpened_eq (s : State) :
    (s.underWay = true →
        s.latchOpened = { s with table := { s.table with unlatched := true, releasePending := true } })
      ∧ (¬ s.underWay = true → s.latchOpened = s.place .rowRelease []) := by
  refine ⟨fun h => ?_, fun h => ?_⟩
  · simp only [State.latchOpened, h, if_true]
    rfl
  · simp [State.latchOpened, h]

/-- Settles O18: each row by the opening, the closing and the pending release. -/
theorem latchEvents : Obligations.LatchEvents := fun s => by
  rw [← underWay_iff]
  obtain ⟨hunder, hother⟩ := latchOpened_eq s
  refine ⟨fun event hevent => ?_, rfl, rfl, rfl, fun hp hl hu => ?_, fun h => ?_⟩
  · have hopening : s.takeLatch event = s.latchOpened := by
      rcases hevent with rfl | rfl <;> rfl
    rw [hopening]
    exact ⟨fun hi hv => hunder ((underWay_iff s).2 ⟨hi, hv⟩), hother⟩
  · simp only [State.sendPendingRelease, hp, hl, hu]
    rfl
  · have hstays : (s.table.releasePending && s.sfe.latch == some .opened && !s.underWay) = false := by
      rcases h with h | h | h <;> simp [h]
    simp [State.sendPendingRelease, hstays]

end Sys2Proof.Machine

namespace Sys2Proof.Machine

/-! ### What ends with a record (R74, R121, R193) -/

section RecordEnded

variable (s : State)

/-- R121: where no CLAIM is named, none ends. -/
theorem claimsEnded_false (l : Link) : l.claimsEnded (fun _ => false) = l := by
  cases l
  simp [Link.claimsEnded]

/-- R74, R121: the claim of a record ends in the CLAIMs that record owns. -/
theorem endClaimOf_eq (r : Record) : s.endClaimOf r = s.setLink (s.link.claimsEnded r.owns) := by
  have hother : (∀ e, r.origin ≠ .claiming e) → s.link.claimsEnded r.owns = s.link := by
    intro h
    have howns : r.owns = fun _ => false := by
      funext c
      unfold Record.owns
      split
      · next e he => exact absurd he (h e)
      all_goals rfl
    rw [howns, claimsEnded_false]
  unfold State.endClaimOf
  split
  · next e he =>
    have howns : r.owns = fun c => c.isFor r.id e.tag := by
      funext c
      simp only [Record.owns, he, ClaimRef.isFor]
    rw [howns]
    rfl
  all_goals
    next he =>
    rw [hother (by simp [he])]
    rfl

/-- R193: with the record its ACTIVE alert ends, in the ALERTs of its position that wait. -/
theorem withdrawAlertsOf_eq (p : Pos) (r : Record) :
    s.withdrawAlertsOf p r = s.setLink (s.link.without fun x => r.alert.isActive && x.alertsFor p) := by
  unfold State.withdrawAlertsOf
  cases r.alert.isActive with
  | true => rfl
  | false =>
    simp only [Bool.false_and, without_false]
    rfl

theorem claimAndAlertEnded_eq (p : Pos) (r : Record) :
    (s.endClaimOf r).withdrawAlertsOf p r = s.setLink (s.link.recordEnded p r) := by
  rw [withdrawAlertsOf_eq, endClaimOf_eq]
  rfl

end RecordEnded

/-! ### The entry of a departure (R72, R107 to R111) -/

section Entry

variable (s : State)

/-- R109: the tag is pending or settled at a record exactly where it is among the held tags. -/
theorem holdsTag_iff (tag : DepTag) : s.table.holdsTag tag = true ↔ tag ∈ s.heldTags := by
  have hrecord : ∀ r : Record, r.holdsTag tag = true ↔ r.heldTag = some tag := by
    intro r
    cases ho : r.origin with
    | claiming e => simp only [Record.holdsTag, Record.heldTag, ho, beq_iff_eq, Option.some.injEq]
    | moved t => simp only [Record.holdsTag, Record.heldTag, ho, beq_iff_eq, Option.some.injEq]
    | boarded | restored | untraced =>
      simp only [Record.holdsTag, Record.heldTag, ho, Bool.false_eq_true, reduceCtorEq]
  rw [Positions.holdsTag, Four.any_iff, State.heldTags, List.mem_filterMap]
  refine exists_congr fun p => ?_
  simp [mem_positionsInOrder, State.recordAt, Option.any_eq_true, Option.bind_eq_some_iff, hrecord]

/-- R110: an entry whose tag is neither held nor listed joins a list with room at its tail. -/
theorem joinEntry_of_new {e : DepEntry} (hheld : e.tag ∉ s.heldTags) (hlisted : e.tag ∉ s.departures.map DepEntry.tag)
    (hroom : s.departures.length < 8) : s.joinEntry e = s.setDepartures (s.departures ++ [e]) := by
  have hholds : s.table.holdsTag e.tag = false := by
    rw [← Bool.not_eq_true, holdsTag_iff]
    exact hheld
  have hany : s.departures.any (fun x => x.tag == e.tag) = false := by
    rw [List.any_eq_false]
    intro x hx heq
    exact hlisted (List.mem_map.2 ⟨x, hx, by simpa using heq⟩)
  have hevicts : joinEvicts s.departures e = false := by
    rw [joinEvicts, hany, departureCapacity, decide_eq_false (Nat.not_le.2 hroom), Bool.and_false]
  simp only [State.joinEntry, hholds, joinList, hany, departureCapacity, hroom, hevicts]
  rfl

/-- R165: what a placed frame makes of the link and of the counters goes by the straps, the link and the counters. -/
theorem place_congr {t : State} (hstraps : t.straps = s.straps) (hlink : t.link = s.link) (hdiag : t.diag = s.diag)
    (kind : FrameKind) (payload : List Byte) :
    (t.place kind payload).link = (s.place kind payload).link
      ∧ (t.place kind payload).diag = (s.place kind payload).diag := by
  have hoffer : ∀ e, t.offerOf e = s.offerOf e := fun e => by
    rw [State.offerOf, State.validStraps, hstraps, hlink]
    rfl
  unfold State.place State.offerTx
  rw [hoffer, hlink, hdiag]
  exact ⟨rfl, rfl⟩

/-- R164, R167: a station with valid straps and room in its transmit queue takes the frame behind the rest. -/
theorem place_of_room {kind : FrameKind} (hk : kind ≠ .state) (hv : s.validStraps = true)
    (hroom : s.link.txq.length < 6) (payload : List Byte) :
    (s.place kind payload).link = { s.link with txq := s.link.txq ++ [newEntry kind payload none] }
      ∧ (s.place kind payload).diag = s.diag := by
  have hoffer : s.offerOf (newEntry kind payload none)
      = { txq := s.link.txq ++ [newEntry kind payload none], taken := true, overflow := false } := by
    rw [State.offerOf, if_pos hv]
    exact offerEntry_room _ _ hk hroom
  simp [State.place, State.offerTx, hoffer]

end Entry

/-! ### Departures (R72 to R75) -/

section Departures

variable (s : State) (p : Pos)

/-- R72 to R75: a departure by the link its record leaves. -/
theorem depart_eq {r : Record} (h : s.recordAt p = some r) :
    s.depart p
      = (if s.leavesHistory then (s.setLink (s.link.recordEnded p r)).handOn p r
         else s.setLink (s.link.recordEnded p r)).endRecord p := by
  simp only [State.depart, h, claimAndAlertEnded_eq]

theorem leavesHistory_iff : s.leavesHistory = true ↔ s.vehicle.ignition = .on ∧ s.validStraps = true := by
  simp [State.leavesHistory, State.ignitionOn, Vehicle.effIgnition]

theorem depart_frame :
    s.depart p = { s with
      table := (s.depart p).table, departures := (s.depart p).departures, link := (s.depart p).link
      lamps := (s.depart p).lamps, modeCtl := (s.depart p).modeCtl, diag := (s.depart p).diag } := by
  obtain ⟨hpending, hpowered, hfree, hstraps, hconfig, hsfe, hsweep, hclasses, hduty, hemission, hvehicle⟩ :=
    depart_keeps s p
  rw [← hpending, ← hpowered, ← hfree, ← hstraps, ← hconfig, ← hsfe, ← hsweep, ← hclasses, ← hduty, ← hemission,
    ← hvehicle]

/-- R72, R75: with the record its lamp goes off, and the left-behind timer is tested. -/
theorem depart_lampAndTimer {r : Record} (h : s.recordAt p = some r) :
    (s.depart p).lamps = s.lamps.set p .off
      ∧ (s.depart p).modeCtl = { s.modeCtl with
          leftBehindMs := if (s.depart p).table.anyQualifies then s.modeCtl.leftBehindMs else 0 } := by
  have hend : ∀ t : State, t.lamps = s.lamps → t.modeCtl = s.modeCtl →
      (t.endRecord p).lamps = s.lamps.set p .off
        ∧ (t.endRecord p).modeCtl = { s.modeCtl with
            leftBehindMs := if (t.endRecord p).table.anyQualifies then s.modeCtl.leftBehindMs else 0 } := by
    intro t hl hm
    rw [← hl, ← hm]
    exact ⟨rfl, rfl⟩
  rw [depart_eq s p h]
  split <;> exact hend _ (by simp) (by simp)

/-- R72: what a departure hands on, where its tag is new and the list has room. -/
theorem handOn_of_new {r : Record} {e : DepEntry} (he : e = s.departureEntry p r (s.table.departureSeq + 1))
    (hheld : e.tag ∉ s.heldTags) (hlisted : e.tag ∉ s.departures.map DepEntry.tag)
    (hroom : s.departures.length < 8) :
    (s.handOn p r).table.departureSeq = s.table.departureSeq + 1
      ∧ (s.handOn p r).departures = s.departures ++ [e]
      ∧ (s.handOn p r).link = (s.place .depart (departPayload e)).link
      ∧ (s.handOn p r).diag = (s.place .depart (departPayload e)).diag := by
  have hjoin : (s.setTable { s.table with departureSeq := s.table.departureSeq + 1 }).joinEntry e
      = (s.setTable { s.table with departureSeq := s.table.departureSeq + 1 }).setDepartures (s.departures ++ [e]) :=
    joinEntry_of_new _ hheld hlisted hroom
  simp only [State.handOn, ← he, hjoin]
  exact ⟨rfl, rfl, place_congr s rfl rfl rfl _ _⟩

theorem endRecord_departureSeq : (s.endRecord p).table.departureSeq = s.table.departureSeq := rfl

end Departures

/-- Settles O16: the seats by `depart_seats`, the rest by what the departure hands on and what ends with the record. -/
theorem departureHandsHistoryOn : Obligations.DepartureHandsHistoryOn := by
  rintro s p r e l hr rfl rfl
  obtain ⟨hlamps, hmode⟩ := depart_lampAndTimer s p hr
  refine ⟨?_, hlamps, fun q hq => ?_, ?_, depart_frame s p, hmode, fun hon hv hlisted hheld hroom => ?_, fun hno => ?_⟩
  · rw [State.recordAt, depart_seats, Four.get_set_self]
  · rw [depart_seats, Four.get_set_other _ _ _ _ hq]
  · rw [depart_seats, Four.get_set_self]
  · obtain ⟨hseq, hlist, hlink, hdiag⟩ := handOn_of_new (s.setLink (s.link.recordEnded p r)) p rfl hheld hlisted hroom
    rw [depart_eq s p hr, if_pos ((leavesHistory_iff s).2 ⟨hon, hv⟩)]
    simp only [endRecord_departureSeq, endRecord_keeps, hseq, hlist, hlink, hdiag]
    exact ⟨rfl, rfl, rfl, rfl, fun hq => place_of_room (s.setLink (s.link.recordEnded p r)) (by decide) hv hq _⟩
  · have hnone : ¬ s.leavesHistory = true := by
      rw [leavesHistory_iff]
      rintro ⟨hon, hv⟩
      rcases hno with h | h
      · exact h hon
      · simp [hv] at h
    rw [depart_eq s p hr, if_neg hnone]
    exact ⟨rfl, rfl, rfl, rfl⟩

end Sys2Proof.Machine

namespace Sys2Proof.Machine

/-! ### What a ladder moves of a record (section 5.3) -/

/-- Of the record only level, grace-used and the ladder timers have moved. -/
def Record.Moved (r r' : Record) : Prop :=
  ∃ level graceUsed graceTimer escalation chimeTimer slowTimer,
    r' = { r with level, graceUsed, graceTimer, escalation, chimeTimer, slowTimer }

/-- The record has moved so to a level, with each ladder timer at its level. -/
structure Record.Enters (r r' : Record) : Prop where
  moved : r.Moved r'
  timers : r'.TimersFit

section Moved

variable (r : Record) (env : LadderEnv)

theorem moved_refl : r.Moved r := ⟨_, _, _, _, _, _, rfl⟩

theorem moved_trans {r r' r'' : Record} (h : r.Moved r') (h' : r'.Moved r'') : r.Moved r'' := by
  obtain ⟨_, _, _, _, _, _, rfl⟩ := h
  obtain ⟨_, _, _, _, _, _, rfl⟩ := h'
  exact ⟨_, _, _, _, _, _, rfl⟩

theorem Record.Moved.kind {r r' : Record} (h : r.Moved r') : r'.kind = r.kind := by
  obtain ⟨_, _, _, _, _, _, rfl⟩ := h
  rfl

theorem Record.Moved.chimeUsed {r r' : Record} (h : r.Moved r') : r'.chimeUsed = r.chimeUsed := by
  obtain ⟨_, _, _, _, _, _, rfl⟩ := h
  rfl

/-- R101: what a ladder moves, a trip end sets anew. -/
theorem Record.Moved.tripEnd_eq {r r' : Record} (h : r.Moved r') (belt : BeltState) :
    r'.tripEnd belt = r.tripEnd belt := by
  obtain ⟨_, _, _, _, _, _, rfl⟩ := h
  rfl

theorem Record.Enters.of_moved {r r' r'' : Record} (h : r'.Enters r'') (hm : r.Moved r') : r.Enters r'' :=
  ⟨moved_trans hm h.moved, h.timers⟩

theorem atLevel_enters (level : Level) : r.Enters (r.atLevel level) :=
  ⟨⟨_, _, _, _, _, _, rfl⟩, by simp [Record.TimersFit, Record.atLevel]⟩

theorem toLevel2_enters : r.Enters (r.toLevel2 env) := by
  unfold Record.toLevel2
  split
  · exact atLevel_enters r .spent
  · exact ⟨⟨_, _, _, _, _, _, rfl⟩, by simp [Record.TimersFit, Record.atLevel]⟩

theorem toLevel1_enters : r.Enters (r.toLevel1 env) := by
  unfold Record.toLevel1
  repeat' split
  · exact toLevel2_enters r env
  · exact ⟨⟨_, _, _, _, _, _, rfl⟩, by simp [Record.TimersFit, Record.atLevel]⟩
  · exact atLevel_enters r .level1

theorem leaveGrace_enters : r.Enters (r.leaveGrace env) :=
  (toLevel1_enters _ env).of_moved ⟨_, _, _, _, _, _, rfl⟩

theorem toGrace_enters : r.Enters (r.toGrace env) := by
  unfold Record.toGrace
  split
  · exact leaveGrace_enters r env
  · exact ⟨⟨_, _, _, _, _, _, rfl⟩, by simp [Record.TimersFit, Record.atLevel]⟩

theorem becomeDue_enters : r.Enters (r.becomeDue env) := by
  unfold Record.becomeDue
  repeat' split
  · exact toLevel2_enters r env
  · exact toLevel1_enters r env
  · exact toLevel1_enters r env
  · exact toGrace_enters r env

end Moved

/-! ### The due condition and the level it gives (R87) -/

theorem isDue_iff (kind : ReminderKind) (belt : BeltState) (ignitionOn : Bool) :
    isDue kind belt ignitionOn = true
      ↔ kind ≠ .none ∧ (belt = .unbuckled ∨ belt = .fault) ∧ ignitionOn = true := by
  cases belt <;> simp [isDue, BeltState.unfastened]

section Evaluate

variable {r : Record} {env : LadderEnv} {belt : BeltState}

theorem evaluate_of_notDue (h : isDue r.kind belt env.ignitionOn = false) :
    r.evaluate env belt = r.atLevel .quiet := by
  simp [Record.evaluate, h]

theorem evaluate_of_becomesDue (h : isDue r.kind belt env.ignitionOn = true) (hq : r.level = .quiet) :
    r.evaluate env belt = r.becomeDue env := by
  simp [Record.evaluate, h, hq]

theorem evaluate_of_staysDue (h : isDue r.kind belt env.ignitionOn = true) (hq : r.level ≠ .quiet) :
    r.evaluate env belt = r := by
  simp [Record.evaluate, h, hq]

theorem evaluate_moved : r.Moved (r.evaluate env belt) := by
  unfold Record.evaluate
  repeat' split
  · exact (becomeDue_enters r env).moved
  · exact moved_refl r
  · exact (atLevel_enters r .quiet).moved

end Evaluate

theorem securingLevel_of_due {belt : BeltState} {ignitionOn : Bool}
    (h : (belt = .unbuckled ∨ belt = .fault) ∧ ignitionOn = true) : securingLevel belt ignitionOn = .level1 :=
  if_pos ((isDue_iff .secure belt ignitionOn).2 ⟨by decide, h⟩)

theorem securingLevel_of_notDue {belt : BeltState} {ignitionOn : Bool}
    (h : ¬ ((belt = .unbuckled ∨ belt = .fault) ∧ ignitionOn = true)) : securingLevel belt ignitionOn = .quiet :=
  if_neg fun hd => h ((isDue_iff .secure belt ignitionOn).1 hd).2

/-! ### Ladders that go on being due (R87) -/

/-- R87: each ladder timer of the record runs at its level, and a level other than QUIET stands only while due. -/
def Record.LadderDue (belt : BeltState) (ignitionOn : Bool) (r : Record) : Prop :=
  r.TimersFit ∧ (r.level ≠ .quiet → isDue r.kind belt ignitionOn = true)

/-- R87: the same of the record and the securing state of a seat. -/
def Seat.LaddersDue (belt : BeltState) (ignitionOn : Bool) (seat : Seat) : Prop :=
  (∀ r, seat.record = some r → r.LadderDue belt ignitionOn)
    ∧ ∀ l, seat.securing = some l → l ≠ .quiet → isDue .secure belt ignitionOn = true

theorem laddersDue_iff (s : State) :
    s.LaddersDue ↔ ∀ p, (s.table.seats.get p).LaddersDue (s.sfe.positions.get p).belt s.ignitionOn := by
  simp [State.LaddersDue, Seat.LaddersDue, Record.LadderDue, isDue_iff, State.ignitionOn, Vehicle.effIgnition,
    State.recordAt]

/-- The record has kept kind and level, its chime time has not risen, and ladder timers that fitted fit. -/
structure Record.KeepsLadder (r r' : Record) : Prop where
  kind : r'.kind = r.kind
  level : r'.level = r.level
  chime : r'.chimeUsed ≤ r.chimeUsed
  timers : r.TimersFit → r'.TimersFit

section LadderDue

variable {r r' : Record} {belt : BeltState} {ignitionOn : Bool} {env : LadderEnv}

theorem keepsLadder_refl (r : Record) : r.KeepsLadder r := ⟨rfl, rfl, le_refl _, id⟩

theorem Record.LadderDue.of_keeps (h : r.LadderDue belt ignitionOn) (hk : r.KeepsLadder r') :
    r'.LadderDue belt ignitionOn := by
  obtain ⟨hkind, hlevel, -, htimers⟩ := hk
  obtain ⟨hfit, hdue⟩ := h
  exact ⟨htimers hfit, by rwa [hkind, hlevel]⟩

/-- A ladder at a level other than QUIET is due, so any level it goes to is. -/
theorem Record.LadderDue.of_enters (h : r.LadderDue belt ignitionOn) (hlevel : r.level ≠ .quiet)
    (he : r.Enters r') : r'.LadderDue belt ignitionOn :=
  ⟨he.timers, fun _ => he.moved.kind ▸ h.2 hlevel⟩

/-- A running ladder timer stands at a level other than QUIET. -/
theorem Record.TimersFit.not_quiet (h : r.TimersFit)
    (ht : r.graceTimer ≠ .stopped ∨ r.escalation ≠ .stopped ∨ r.chimeTimer ≠ .stopped ∨ r.slowTimer ≠ .stopped) :
    r.level ≠ .quiet := by
  obtain ⟨hgrace, hescalation, hchime, hslow⟩ := h
  rcases ht with ht | ht | ht | ht
  · simp [hgrace ht]
  · simp [hescalation ht]
  · simp [hchime ht]
  · simp [hslow ht]

theorem atLevel_quiet_ladderDue (r : Record) : (r.atLevel .quiet).LadderDue belt ignitionOn :=
  ⟨(atLevel_enters r .quiet).timers, fun h => absurd rfl h⟩

/-- R87: whatever the level before, an evaluation leaves a level that is due. -/
theorem evaluate_ladderDue (h : r.TimersFit) : (r.evaluate env belt).LadderDue belt env.ignitionOn := by
  cases hd : isDue r.kind belt env.ignitionOn with
  | false =>
    rw [evaluate_of_notDue hd]
    exact atLevel_quiet_ladderDue r
  | true =>
    refine ⟨?_, fun _ => by rwa [evaluate_moved.kind]⟩
    by_cases hq : r.level = .quiet
    · rw [evaluate_of_becomesDue hd hq]
      exact (becomeDue_enters r env).timers
    · rwa [evaluate_of_staysDue hd hq]

theorem speedRise_ladderDue (h : r.LadderDue belt ignitionOn) : (r.speedRise env).LadderDue belt ignitionOn := by
  unfold Record.speedRise
  split
  · next hl => exact h.of_enters (by simp [hl]) (leaveGrace_enters r env)
  · next hl => exact h.of_enters (by simp [hl]) (toLevel1_enters r env)
  · exact h.of_keeps ⟨rfl, rfl, le_refl _, fun ⟨hg, he, hc, _⟩ => ⟨hg, he, hc, fun hs => absurd rfl hs⟩⟩
  · exact h
  · exact h

theorem speedFall_ladderDue (h : r.LadderDue belt ignitionOn) : r.speedFall.LadderDue belt ignitionOn := by
  unfold Record.speedFall
  split
  · exact h.of_keeps ⟨rfl, rfl, le_refl _, fun ⟨hg, _, hc, hs⟩ => ⟨hg, fun he => absurd rfl he, hc, hs⟩⟩
  · next hl => exact h.of_keeps ⟨rfl, rfl, le_refl _, fun ⟨hg, he, hc, _⟩ => ⟨hg, he, hc, fun _ => hl⟩⟩
  all_goals exact h

theorem afterSettlement_ladderDue (h : r.LadderDue belt ignitionOn) :
    (r.afterSettlement env).LadderDue belt ignitionOn := by
  unfold Record.afterSettlement
  split
  · exact h
  · exact h
  · next hl =>
    split
    · exact h.of_enters (by simp [hl]) (toLevel2_enters r env)
    · exact h.of_enters (by simp [hl]) (atLevel_enters r .level1)
  · next hl =>
    split
    · exact h.of_enters (by simp [hl]) (toLevel2_enters r env)
    · exact h
  · next hl =>
    split
    · exact h.of_enters (by simp [hl]) (atLevel_enters r .spent)
    · exact h

theorem settle_ladderDue (h : r.LadderDue belt ignitionOn) : (r.settle env).LadderDue belt ignitionOn := by
  unfold Record.settle
  split
  · next e _ =>
    have hinherit : (r.inherit env.conf.chimeLimit e).LadderDue belt ignitionOn := h
    exact afterSettlement_ladderDue hinherit
  all_goals exact h

theorem chimeTick_ladderDue (h : r.LadderDue belt ignitionOn) (ht : r.chimeTimer ≠ .stopped) :
    (r.chimeTick env).LadderDue belt ignitionOn := by
  have hlevel : r.level ≠ .quiet := h.1.not_quiet (.inr (.inr (.inl ht)))
  have hused : ∀ used, { r with chimeUsed := used }.LadderDue belt ignitionOn := fun _ => h
  unfold Record.chimeTick
  dsimp only
  split
  · exact (hused (min (r.chimeUsed + 1) env.conf.chimeLimit)).of_enters hlevel (atLevel_enters _ .spent)
  · obtain ⟨⟨hgrace, hescalation, hchime, hslow⟩, hdue⟩ := h
    exact ⟨⟨hgrace, hescalation, fun _ => hchime ht, hslow⟩, hdue⟩

end LadderDue

/-! ### Chime time within its limit (R94) -/

section Chime

variable {r : Record} {env : LadderEnv}

theorem speedRise_moved : r.Moved (r.speedRise env) := by
  unfold Record.speedRise
  split
  · exact (leaveGrace_enters r env).moved
  · exact (toLevel1_enters r env).moved
  · exact ⟨_, _, _, _, _, _, rfl⟩
  · exact moved_refl r
  · exact moved_refl r

theorem speedFall_moved : r.Moved r.speedFall := by
  unfold Record.speedFall
  split
  · exact ⟨_, _, _, _, _, _, rfl⟩
  · exact ⟨_, _, _, _, _, _, rfl⟩
  all_goals exact moved_refl r

theorem afterSettlement_moved : r.Moved (r.afterSettlement env) := by
  unfold Record.afterSettlement
  repeat' split
  · exact moved_refl r
  · exact moved_refl r
  · exact (toLevel2_enters r env).moved
  · exact (atLevel_enters r .level1).moved
  · exact (toLevel2_enters r env).moved
  · exact moved_refl r
  · exact (atLevel_enters r .spent).moved
  · exact moved_refl r

/-- R99: inherited chime time is cut at the limit. -/
theorem settle_chimeUsed_le (h : r.chimeUsed ≤ env.conf.chimeLimit) :
    (r.settle env).chimeUsed ≤ env.conf.chimeLimit := by
  unfold Record.settle
  split
  · next e _ =>
    have hmoved := (afterSettlement_moved (r := r.inherit env.conf.chimeLimit e) (env := env)).chimeUsed
    exact hmoved.trans_le (min_le_right _ _)
  all_goals exact h

/-- R92: a chime second is cut at the limit. -/
theorem chimeTick_chimeUsed_le : (r.chimeTick env).chimeUsed ≤ env.conf.chimeLimit := by
  unfold Record.chimeTick
  dsimp only
  split <;> exact min_le_right _ _

end Chime

end Sys2Proof.Machine

namespace Sys2Proof.Machine

/-! ### Seats that keep their ladder -/

/-- The seat has kept its securing state and the ladder of its record. -/
def Seat.KeepsLadders (a b : Seat) : Prop :=
  b.securing = a.securing ∧ Option.Rel Record.KeepsLadder a.record b.record

section SeatLadders

variable {a b : Seat} {belt : BeltState} {ignitionOn : Bool}

theorem keepsLadders_map (a : Seat) {f : Record → Record} (hf : ∀ r : Record, r.KeepsLadder (f r)) :
    a.KeepsLadders { a with record := a.record.map f } := by
  refine ⟨rfl, ?_⟩
  cases a.record with
  | none => exact .none
  | some r => exact .some (hf r)

theorem keepsLadders_refl (a : Seat) : a.KeepsLadders a := by
  simpa using keepsLadders_map a (f := id) keepsLadder_refl

theorem Seat.KeepsLadders.level (h : a.KeepsLadders b) : b.level = a.level := by
  obtain ⟨hsecuring, hrecord⟩ := h
  unfold Seat.level
  revert hrecord
  cases a.record <;> cases b.record <;> intro hrecord <;> cases hrecord
  · rw [hsecuring]
  · next hk => exact hk.level

theorem Seat.KeepsLadders.exists_record (h : a.KeepsLadders b) {r' : Record} (hr : b.record = some r') :
    ∃ r, a.record = some r ∧ r.KeepsLadder r' := by
  obtain ⟨-, hrecord⟩ := h
  rw [hr] at hrecord
  cases ha : a.record with
  | none =>
    rw [ha] at hrecord
    cases hrecord
  | some r =>
    rw [ha] at hrecord
    cases hrecord with
    | some hk => exact ⟨r, rfl, hk⟩

theorem Seat.LaddersDue.of_keeps (h : a.LaddersDue belt ignitionOn) (hk : a.KeepsLadders b) :
    b.LaddersDue belt ignitionOn := by
  obtain ⟨hrecord, hsecuring⟩ := h
  refine ⟨fun r' hr' => ?_, hk.1 ▸ hsecuring⟩
  obtain ⟨r, hr, hkeep⟩ := hk.exists_record hr'
  exact (hrecord r hr).of_keeps hkeep

/-- A change of the record that keeps it due, with the securing state as it stands. -/
theorem Seat.LaddersDue.map (h : a.LaddersDue belt ignitionOn) {f : Record → Record}
    (hf : ∀ r, a.record = some r → r.LadderDue belt ignitionOn → (f r).LadderDue belt ignitionOn) :
    { a with record := a.record.map f }.LaddersDue belt ignitionOn := by
  obtain ⟨hrecord, hsecuring⟩ := h
  refine ⟨fun r' hr' => ?_, hsecuring⟩
  obtain ⟨r, hr, rfl⟩ := Option.map_eq_some_iff.1 hr'
  exact hf r hr (hrecord r hr)

/-- R62: a seat with neither a record nor a securing state. -/
theorem laddersDue_of_vacant (hr : a.record = none) (hs : a.securing = none) : a.LaddersDue belt ignitionOn := by
  simp [Seat.LaddersDue, hr, hs]

/-- R88: whatever the levels before, an evaluated seat is due. -/
theorem evaluate_laddersDue {env : LadderEnv} (h : ∀ r, a.record = some r → r.TimersFit) :
    (a.evaluate env belt).LaddersDue belt env.ignitionOn := by
  refine ⟨fun r' hr' => ?_, fun l hl hq => ?_⟩
  · obtain ⟨r, hr, rfl⟩ := Option.map_eq_some_iff.1 hr'
    exact evaluate_ladderDue (h r hr)
  · obtain ⟨l', -, rfl⟩ := Option.map_eq_some_iff.1 hl
    by_contra hd
    exact hq (if_neg hd)

end SeatLadders

/-! ### Ladders kept from a state to a later one -/

/-- From s to t chime time stays within its limit, and levels and timers stay due. -/
structure State.KeepsLadders (s t : State) : Prop where
  chime : s.ChimeWithin → t.ChimeWithin
  ladders : s.LaddersDue → t.LaddersDue

section KeepsLadders

variable {s t u : State}

theorem State.KeepsLadders.trans (h : s.KeepsLadders t) (h' : t.KeepsLadders u) : s.KeepsLadders u :=
  ⟨h'.chime ∘ h.chime, h'.ladders ∘ h.ladders⟩

/-- What the ladder of a seat is judged by stands: running configuration, belts and ignition. -/
def State.SameLadderReadings (s t : State) : Prop :=
  t.config.running = s.config.running ∧ t.sfe.positions = s.sfe.positions ∧ t.vehicle.ignition = s.vehicle.ignition

@[simp] theorem sameLadderReadings_iff (s t : State) :
    s.SameLadderReadings t ↔ t.config.running = s.config.running ∧ t.sfe.positions = s.sfe.positions
      ∧ t.vehicle.ignition = s.vehicle.ignition := Iff.rfl

theorem keepsLadders_of_seats (hseats : ∀ p, (s.table.seats.get p).KeepsLadders (t.table.seats.get p))
    (hread : s.SameLadderReadings t) : s.KeepsLadders t := by
  obtain ⟨hconf, hbelts, hignition⟩ := hread
  refine ⟨fun hc p r' hr' => ?_, fun hl => ?_⟩
  · obtain ⟨r, hr, hk⟩ := (hseats p).exists_record hr'
    rw [hconf]
    exact hk.chime.trans (hc p r hr)
  · rw [laddersDue_iff] at hl ⊢
    intro p
    have hon : t.ignitionOn = s.ignitionOn := by simp [State.ignitionOn, Vehicle.effIgnition, hignition]
    rw [hbelts, hon]
    exact (hl p).of_keeps (hseats p)

theorem keepsLadders_of_table (h : t.table.seats = s.table.seats ∧ s.SameLadderReadings t) : s.KeepsLadders t :=
  keepsLadders_of_seats (fun _ => h.1 ▸ keepsLadders_refl _) h.2

/-- R94, R87: a change of the record at one position that keeps it within its limit and due. -/
theorem keepsLadders_updateRecord (p : Pos) {f : Record → Record}
    (hchime : ∀ r, s.recordAt p = some r → r.chimeUsed ≤ s.config.running.chimeLimit →
      (f r).chimeUsed ≤ s.config.running.chimeLimit)
    (hdue : ∀ r, s.recordAt p = some r → r.LadderDue (s.sfe.positions.get p).belt s.ignitionOn →
      (f r).LadderDue (s.sfe.positions.get p).belt s.ignitionOn) : s.KeepsLadders (s.updateRecord p f) := by
  refine ⟨fun hc q r' hr' => ?_, fun hl => ?_⟩
  · rw [updateRecord_recordAt] at hr'
    split at hr'
    · next hq =>
      subst hq
      obtain ⟨r, hr, rfl⟩ := Option.map_eq_some_iff.1 hr'
      exact hchime r hr (hc q r hr)
    · exact hc q r' hr'
  · rw [laddersDue_iff] at hl ⊢
    intro q
    rw [State.updateRecord, State.updateSeat, setTable_table, Four.get_set]
    split
    · next hq =>
      subst hq
      exact (hl q).map (hdue)
    · exact hl q

/-- A table without records and securing states has no ladder. -/
theorem keepsLadders_of_vacant
    (h : ∀ p, (t.table.seats.get p).record = none ∧ (t.table.seats.get p).securing = none) : s.KeepsLadders t := by
  refine ⟨fun _ p r hr => ?_, fun _ => (laddersDue_iff t).2 fun p => laddersDue_of_vacant (h p).1 (h p).2⟩
  rw [State.recordAt, (h p).1] at hr
  cases hr

end KeepsLadders

/-- R62, R82: the seats of a fresh table are vacant. -/
theorem freshSeats_vacant (c : Conf) (p : Pos) :
    ((freshSeats c).get p).record = none ∧ ((freshSeats c).get p).securing = none := by
  simp [freshSeats]

/-! ### Lamps that show the levels (R102) -/

section Lamps

theorem lampOf_shows (level : Level) (before : Lamp) : (lampOf true level before).Shows level := by
  cases level <;> cases before <;> exact trivial

theorem lampOf_inactive (level : Level) (before : Lamp) : lampOf false level before = .off := rfl

theorem toggle_shows {lamp : Lamp} {level : Level} (h : lamp.Shows level) : lamp.toggle.Shows level := by
  cases lamp with
  | off | steady => exact h
  | flashing on ms => cases level <;> exact h

theorem tick_shows {lamp : Lamp} {level : Level} (h : lamp.Shows level) : lamp.tick.Shows level := by
  cases lamp with
  | off | steady => exact h
  | flashing on ms => cases level <;> exact h

variable {s t : State}

/-- R102: lamps that have just followed the levels show them. -/
theorem refreshLamps_lampsShow (s : State) : s.refreshLamps.LampsShow := fun _ p => by
  rw [refreshLamps_get]
  simp only [refreshLamps_keeps]
  split
  · next h =>
    rw [h]
    exact lampOf_shows _ _
  · next h =>
    rw [beq_false_of_ne h]
    rfl

/-- Where supply and mode stand, each lamp goes on showing its level. -/
theorem State.LampsShow.of_lamps (h : s.LampsShow)
    (hlamps : ∀ p, ((s.lamps.get p).Shows (s.table.seats.get p).level → (t.lamps.get p).Shows (t.table.seats.get p).level)
      ∧ (s.lamps.get p = .off → t.lamps.get p = .off))
    (hread : t.powered = s.powered ∧ t.modeCtl.mode = s.modeCtl.mode) : t.LampsShow := by
  obtain ⟨hpowered, hmode⟩ := hread
  intro hp p
  obtain ⟨hshows, hoff⟩ := hlamps p
  have hs := h (hpowered ▸ hp) p
  rw [hmode]
  split
  · next hm =>
    rw [if_pos hm] at hs
    exact hshows hs
  · next hm =>
    rw [if_neg hm] at hs
    exact hoff hs

theorem State.LampsShow.of_levels (h : s.LampsShow)
    (hlevels : ∀ p, (t.table.seats.get p).level = (s.table.seats.get p).level)
    (hread : t.powered = s.powered ∧ t.modeCtl.mode = s.modeCtl.mode ∧ t.lamps = s.lamps) :
    t.LampsShow := by
  obtain ⟨hpowered, hmode, hlamps⟩ := hread
  refine h.of_lamps (fun p => ?_) ⟨hpowered, hmode⟩
  rw [hlamps, hlevels]
  exact ⟨id, id⟩

end Lamps

/-! ### The duty outputs and the Reminder View (R127, R140) -/

section DutyOutputs

variable {s t : State}

/-- R140: a chime output that has just followed the chime request is justified. -/
theorem refreshDuty_chimeJustified (s : State) : s.refreshDuty.ChimeJustified := by
  obtain ⟨-, hchime, -, hview, hyielded⟩ := refreshDuty_writes s
  intro h
  rw [hchime] at h
  simp only [State.chimeWanted, State.outputsDriven, State.ignitionOn, Vehicle.effIgnition, Bool.and_eq_true,
    beq_iff_eq] at h
  obtain ⟨⟨⟨hduty, hmode⟩, hignition⟩, hlevel⟩ := h
  refine ⟨?_, hmode, hignition, ?_⟩
  · simpa [State.holdsDuty, State.validStraps, hyielded] using hduty
  · simpa [Duty.anyLevel2, hview] using hlevel

theorem State.ViewKept.of_view (h : s.ViewKept)
    (hread : t.straps = s.straps ∧ t.duty.yielded = s.duty.yielded ∧ t.duty.view = s.duty.view) :
    t.ViewKept := by
  obtain ⟨hstraps, hyielded, hview⟩ := hread
  simpa [State.ViewKept, State.holdsDuty, State.validStraps, hstraps, hyielded, hview] using h

theorem refreshDuty_viewKept (h : s.ViewKept) : s.refreshDuty.ViewKept :=
  h.of_view (by simp [refreshDuty_writes])

/-- R142: an empty view is kept whoever holds duty. -/
theorem viewKept_of_empty (h : s.duty.view = List.replicate 12 .empty) : s.ViewKept := fun _ row hrow => by
  rw [h] at hrow
  exact List.eq_of_mem_replicate hrow

/-- Where straps, mode, ignition, yield, view and chime stand, a justified chime stays so. -/
theorem State.ChimeJustified.of_duty (h : s.ChimeJustified)
    (hread : t.straps = s.straps ∧ t.duty.yielded = s.duty.yielded ∧ t.duty.view = s.duty.view
      ∧ t.duty.chime = s.duty.chime ∧ t.modeCtl.mode = s.modeCtl.mode ∧ t.vehicle.ignition = s.vehicle.ignition) :
    t.ChimeJustified := by
  obtain ⟨hstraps, hyielded, hview, hchime, hmode, hignition⟩ := hread
  simpa [State.ChimeJustified, State.holdsDuty, State.validStraps, Duty.anyLevel2, hstraps, hyielded, hview, hchime,
    hmode, hignition] using h

end DutyOutputs

end Sys2Proof.Machine

namespace Sys2Proof.Machine

/-! ### What a change of the record leaves of its ladder -/

theorem stopTimers_keepsLadder (r : Record) : r.KeepsLadder r.stopTimers :=
  ⟨rfl, rfl, le_refl _, fun _ => by simp [Record.TimersFit, Record.stopTimers]⟩

theorem endBuckledRun_keepsLadder (r : Record) : r.KeepsLadder r.endBuckledRun :=
  ⟨rfl, rfl, Nat.zero_le _, id⟩

theorem beltChange_keepsLadder (belt : BeltState) (r : Record) : r.KeepsLadder (r.beltChange belt) := by
  unfold Record.beltChange
  split <;> exact ⟨rfl, rfl, le_refl _, id⟩

theorem tick_ne_stopped {limit : Nat} {timer : Timer} (h : timer.tick limit ≠ .stopped) : timer ≠ .stopped := by
  rintro rfl
  exact h rfl

theorem tick_keepsLadder (c : Conf) (r : Record) : r.KeepsLadder (r.tick c) := by
  refine ⟨rfl, rfl, le_refl _, fun ⟨hgrace, hescalation, hchime, hslow⟩ => ⟨?_, ?_, ?_, ?_⟩⟩
  · exact fun h => hgrace (tick_ne_stopped h)
  · exact fun h => hescalation (tick_ne_stopped h)
  · exact fun h => hchime (tick_ne_stopped h)
  · exact fun h => hslow (tick_ne_stopped h)

/-! ### Vehicle data at a ladder (R88, R178) -/

section VehicleEvents

/-- R88: the ignition's part of the vehicle data events at a record. -/
def Record.ignitionEvent (env : LadderEnv) (ch : VehicleChange) (belt : BeltState) (r : Record) : Record :=
  if ch.becameOn || ch.leftOn then r.evaluate env belt else r

/-- R88: the speed's part. -/
def Record.speedEvent (env : LadderEnv) (ch : VehicleChange) (r : Record) : Record :=
  if ch.speedRose then r.speedRise env else if ch.speedFell then r.speedFall else r

/-- R101: the trip end's part. -/
def Record.tripEvent (ch : VehicleChange) (belt : BeltState) (r : Record) : Record :=
  if ch.tripEnded then r.tripEnd belt else r

/-- R88: the vehicle data events at a record, the ignition first, then the speed, then the trip end (log entry 33). -/
def Record.vehicleEvents (env : LadderEnv) (ch : VehicleChange) (belt : BeltState) (r : Record) : Record :=
  ((r.ignitionEvent env ch belt).speedEvent env ch).tripEvent ch belt

/-- R96, R101: the vehicle data events at a securing state; the speed is none of them. -/
def securingEvents (env : LadderEnv) (ch : VehicleChange) (belt : BeltState) (level : Level) : Level :=
  if ch.tripEnded then .quiet
  else if ch.becameOn || ch.leftOn then securingLevel belt env.ignitionOn
  else level

variable (env : LadderEnv) (ch : VehicleChange) (belt : BeltState)

theorem seat_vehicleEvents_eq (seat : Seat) :
    seat.vehicleEvents env ch belt
      = { seat with
          record := seat.record.map (Record.vehicleEvents env ch belt)
          securing := seat.securing.map (securingEvents env ch belt) } := by
  obtain ⟨cls, record, securing⟩ := seat
  unfold Seat.vehicleEvents Record.vehicleEvents securingEvents Record.tripEvent Record.speedEvent
    Record.ignitionEvent Seat.evaluate
  cases record <;> cases securing <;> (repeat' split) <;> simp_all

theorem ignitionEvent_moved (r : Record) : r.Moved (r.ignitionEvent env ch belt) := by
  unfold Record.ignitionEvent
  split
  · exact evaluate_moved
  · exact moved_refl r

theorem speedEvent_moved (r : Record) : r.Moved (r.speedEvent env ch) := by
  unfold Record.speedEvent
  repeat' split
  · exact speedRise_moved
  · exact speedFall_moved
  · exact moved_refl r

/-- R94: vehicle data do not raise chime time. -/
theorem vehicleEvents_chimeUsed_le (r : Record) : (r.vehicleEvents env ch belt).chimeUsed ≤ r.chimeUsed := by
  have hmoved := moved_trans (ignitionEvent_moved env ch belt r) (speedEvent_moved env ch _)
  unfold Record.vehicleEvents Record.tripEvent
  split
  · exact Nat.zero_le _
  · exact hmoved.chimeUsed.le

variable {env ch belt} {wasOn : Bool}

/-- R87: a ladder that was due under the ignition before is due under the one after, where a change of the ignition is
named as one. -/
theorem vehicleEvents_ladderDue {r : Record} (h : r.LadderDue belt wasOn)
    (hch : (ch.becameOn || ch.leftOn) = false → env.ignitionOn = wasOn) :
    (r.vehicleEvents env ch belt).LadderDue belt env.ignitionOn := by
  have hignition : (r.ignitionEvent env ch belt).LadderDue belt env.ignitionOn := by
    unfold Record.ignitionEvent
    split
    · exact evaluate_ladderDue h.1
    · next hc => rwa [hch (by simpa using hc)]
  have hspeed : ((r.ignitionEvent env ch belt).speedEvent env ch).LadderDue belt env.ignitionOn := by
    unfold Record.speedEvent
    repeat' split
    · exact speedRise_ladderDue hignition
    · exact speedFall_ladderDue hignition
    · exact hignition
  unfold Record.vehicleEvents Record.tripEvent
  split
  · exact atLevel_quiet_ladderDue _
  · exact hspeed

theorem seat_vehicleEvents_laddersDue {seat : Seat} (h : seat.LaddersDue belt wasOn)
    (hch : (ch.becameOn || ch.leftOn) = false → env.ignitionOn = wasOn) :
    (seat.vehicleEvents env ch belt).LaddersDue belt env.ignitionOn := by
  obtain ⟨hrecord, hsecuring⟩ := h
  rw [seat_vehicleEvents_eq]
  refine ⟨fun r' hr' => ?_, fun l' hl' hq => ?_⟩
  · obtain ⟨r, hr, rfl⟩ := Option.map_eq_some_iff.1 hr'
    exact vehicleEvents_ladderDue (hrecord r hr) hch
  · obtain ⟨l, hl, rfl⟩ := Option.map_eq_some_iff.1 hl'
    unfold securingEvents at hq
    split at hq
    · exact absurd rfl hq
    · split at hq
      · by_contra hd
        exact hq (if_neg hd)
      · next hc =>
        rw [hch (by simpa using hc)]
        exact hsecuring l hl hq

end VehicleEvents

/-- R178: where the change names none, the ignition is as much ON after as before. -/
theorem vehicleChange_ignition {c : Conf} {before after : Vehicle}
    (h : ((vehicleChange c before after).becameOn || (vehicleChange c before after).leftOn) = false) :
    (after.effIgnition == .on) = (before.effIgnition == .on) := by
  simp only [vehicleChange] at h
  cases hb : before.effIgnition == .on <;> cases ha : after.effIgnition == .on <;> simp_all

/-- The state whose ladders have taken a change of the vehicle data, before the mode controller does. -/
def State.laddersTaken (s : State) (ch : VehicleChange) : State :=
  s.mapSeats fun p seat => seat.vehicleEvents s.ladderEnv ch (s.sfe.positions.get p).belt

section LaddersTaken

variable (s : State)

/-- R87, R94: the ladders take the vehicle data as they change. -/
theorem laddersTaken_keepsLadders (after : Vehicle) (trip : Bool) :
    s.KeepsLadders ((s.setVehicle { after with trip := trip }).laddersTaken
      (vehicleChange s.config.running s.vehicle after)) := by
  refine ⟨fun hc p r' hr' => ?_, fun hl => ?_⟩
  · simp only [State.laddersTaken, State.recordAt, State.mapSeats, setTable_table, Four.get_ofFn,
      seat_vehicleEvents_eq] at hr'
    obtain ⟨r, hr, rfl⟩ := Option.map_eq_some_iff.1 hr'
    exact (vehicleEvents_chimeUsed_le _ _ _ r).trans (hc p r hr)
  · rw [laddersDue_iff] at hl ⊢
    intro p
    simp only [State.laddersTaken, State.mapSeats, setTable_table, Four.get_ofFn]
    exact seat_vehicleEvents_laddersDue (hl p) vehicleChange_ignition

end LaddersTaken

/-! ### Records and ladders at a completion (R29) -/

/-- Each record is a new one, with no chime time and its timers in order, or has kept the ladder of the record that
stood at its position. -/
def State.RecordsFrom (s t : State) : Prop :=
  ∀ p r', t.recordAt p = some r' →
    (r'.chimeUsed = 0 ∧ r'.TimersFit) ∨ ∃ r, s.recordAt p = some r ∧ r.KeepsLadder r'

section RecordsFrom

variable {s t u : State}

theorem recordsFrom_of_seats (h : ∀ p, (t.table.seats.get p).record = (s.table.seats.get p).record) :
    s.RecordsFrom t := fun p r' hr' => .inr ⟨r', (h p).symm.trans hr', keepsLadder_refl r'⟩

theorem recordsFrom_trans (h : s.RecordsFrom t) (h' : t.RecordsFrom u) : s.RecordsFrom u := by
  intro p r'' hr''
  obtain hnew | ⟨r', hr', hk'⟩ := h' p r'' hr''
  · exact .inl hnew
  · obtain ⟨hused, hfit⟩ | ⟨r, hr, hk⟩ := h p r' hr'
    · exact .inl ⟨Nat.eq_zero_of_le_zero (hused ▸ hk'.chime), hk'.timers hfit⟩
    · exact .inr ⟨r, hr, hk'.kind.trans hk.kind, hk'.level.trans hk.level, hk'.chime.trans hk.chime,
        hk'.timers ∘ hk.timers⟩

theorem recordsFrom_mapSeats {f : Pos → Seat → Seat}
    (hf : ∀ p (seat : Seat) r', (f p seat).record = some r' → ∃ r, seat.record = some r ∧ r.KeepsLadder r') :
    s.RecordsFrom (s.mapSeats f) := fun p r' hr' => by
  simp only [State.recordAt, State.mapSeats, setTable_table, Four.get_ofFn] at hr'
  exact .inr (hf p _ r' hr')

variable (s)

/-- R67, R75: a position that takes a new record, or none. -/
theorem recordsFrom_of_set {p : Pos} {record : Option Record}
    (hseats : t.table.seats = s.table.seats.set p { s.table.seats.get p with record := record })
    (hnew : ∀ r, record = some r → r.chimeUsed = 0 ∧ r.TimersFit) : s.RecordsFrom t := fun q r' hr' => by
  rw [State.recordAt, hseats, Four.get_set] at hr'
  split at hr'
  · exact .inl (hnew r' hr')
  · exact .inr ⟨r', hr', keepsLadder_refl r'⟩

theorem arrive_recordsFrom (p : Pos) (fromUnscanned : Bool) : s.RecordsFrom (s.arrive p fromUnscanned) := by
  obtain ⟨o, ho⟩ := arrive_seats s p fromUnscanned
  refine recordsFrom_of_set s ho fun r hr => ?_
  cases hr
  exact ⟨rfl, by simp [Record.TimersFit, State.arrivalRecord, newRecord]⟩

theorem depart_recordsFrom (p : Pos) : s.RecordsFrom (s.depart p) :=
  recordsFrom_of_set s (depart_seats s p) fun _ hr => by cases hr

theorem takeSeatChange_recordsFrom (p : Pos) (change : SeatChange) : s.RecordsFrom (s.takeSeatChange p change) := by
  cases change with
  | none => exact recordsFrom_of_seats fun _ => rfl
  | arrival fromUnscanned => exact arrive_recordsFrom s p fromUnscanned
  | departure => exact depart_recordsFrom s p
  | classChange =>
    intro q r' hr'
    rw [State.takeSeatChange, updateRecord_recordAt] at hr'
    split at hr'
    · next hq =>
      obtain ⟨r, hr, rfl⟩ := Option.map_eq_some_iff.1 hr'
      exact .inr ⟨r, hq ▸ hr, rfl, rfl, le_refl _, id⟩
    · exact .inr ⟨r', hr', keepsLadder_refl r'⟩
  | exchange => exact recordsFrom_trans (depart_recordsFrom s p) (arrive_recordsFrom _ p false)

theorem takeClasses_recordsFrom (before : Four Cls) (test : Bool) : s.RecordsFrom (s.takeClasses before test) :=
  List.foldlRecOn positionsInOrder _ (motive := s.RecordsFrom) (recordsFrom_of_seats fun _ => rfl) fun t ht p _ =>
    recordsFrom_trans ht (takeSeatChange_recordsFrom t p _)

theorem takeBelts_recordsFrom (changed : Four Bool) : s.RecordsFrom (s.takeBelts changed) :=
  recordsFrom_mapSeats fun p seat r' hr' => by
    split at hr'
    · obtain ⟨r, hr, rfl⟩ := Option.map_eq_some_iff.1 hr'
      exact ⟨r, hr, beltChange_keepsLadder _ r⟩
    · exact ⟨r', hr', keepsLadder_refl r'⟩

theorem tableStep_recordsFrom (before : Four Cls) (test : Bool) (o : SensingOutcome) :
    s.RecordsFrom (s.tableStep before test o) :=
  recordsFrom_trans (takeClasses_recordsFrom s before test)
    (recordsFrom_trans (takeBelts_recordsFrom _ o.beltChanged)
      (recordsFrom_of_seats fun p => by simp [State.tableStep]))

end RecordsFrom

section Completion

variable (s : State)

theorem ladderStep_seats_get (p : Pos) :
    s.ladderStep.table.seats.get p = (s.table.seats.get p).step4 s.ladderEnv (s.sfe.positions.get p) := by
  simp [State.ladderStep, State.mapSeats]

theorem ladderStep_recordAt (p : Pos) :
    s.ladderStep.recordAt p
      = (s.recordAt p).map fun r => r.rekind.evaluate s.ladderEnv (s.sfe.positions.get p).belt := by
  rw [State.recordAt, ladderStep_seats_get]
  simp [Seat.step4, Seat.evaluate, State.recordAt, Function.comp_def]

theorem ladderStep_laddersDue (h : ∀ p r, s.recordAt p = some r → r.TimersFit) : s.ladderStep.LaddersDue := by
  rw [laddersDue_iff]
  intro p
  rw [ladderStep_seats_get]
  refine evaluate_laddersDue fun r' hr' => ?_
  obtain ⟨r, hr, rfl⟩ := Option.map_eq_some_iff.1 hr'
  exact h p r hr

theorem ladderStep_chimeWithin (h : s.ChimeWithin) : s.ladderStep.ChimeWithin := fun p r' hr' => by
  rw [ladderStep_recordAt] at hr'
  obtain ⟨r, hr, rfl⟩ := Option.map_eq_some_iff.1 hr'
  exact evaluate_moved.chimeUsed.trans_le (h p r hr)

theorem ladderStep_lampsShow : s.ladderStep.LampsShow := refreshLamps_lampsShow _

/-- R85 to R88: step 4 keeps the chime time of records that come from s, and makes every ladder due. -/
theorem ladderStep_keepsLadders {t : State} (h : s.RecordsFrom t)
    (hconf : t.config.running = s.config.running) : s.KeepsLadders t.ladderStep := by
  refine ⟨fun hc => ladderStep_chimeWithin t fun p r' hr' => ?_, fun hl => ladderStep_laddersDue t fun p r' hr' => ?_⟩
  · rw [hconf]
    obtain ⟨hused, -⟩ | ⟨r, hr, hk⟩ := h p r' hr'
    · exact hused ▸ Nat.zero_le _
    · exact hk.chime.trans (hc p r hr)
  · obtain ⟨-, hfit⟩ | ⟨r, hr, hk⟩ := h p r' hr'
    · exact hfit
    · exact hk.timers ((hl p).1 r hr).1

variable (number : Word16) (test : Bool) (tagAt : Option Pos) (r : SweepReadings)

/-- R29: the completion once its step 4 is done. -/
def State.afterStepFour : State :=
  ((s.classifiedBy number test tagAt r).tableStep (s.table.seats.map Seat.cls) test
    (sense s.config.running number test tagAt r s.sfe)).ladderStep

theorem beforeStepSix_eq : s.beforeStepSix number test tagAt r = (s.afterStepFour number test tagAt r).reportStep := rfl

theorem afterStepFour_keepsLadders : s.KeepsLadders (s.afterStepFour number test tagAt r) := by
  have hclassified : s.RecordsFrom (s.classifiedBy number test tagAt r) :=
    recordsFrom_of_seats (classifiedBy_record number test tagAt r)
  exact ladderStep_keepsLadders s (recordsFrom_trans hclassified (tableStep_recordsFrom _ _ test _))
    (by simp [State.classifiedBy])

theorem afterStepFour_lampsShow : (s.afterStepFour number test tagAt r).LampsShow := ladderStep_lampsShow _

end Completion

end Sys2Proof.Machine

namespace Sys2Proof.Machine

/-! ### Ladders and outputs kept from a state to a later one -/

/-- What the outputs are judged by stands too: supply, straps, mode and the outputs themselves. -/
def State.SameReadings (s t : State) : Prop :=
  s.SameLadderReadings t ∧ t.powered = s.powered ∧ t.modeCtl.mode = s.modeCtl.mode ∧ t.lamps = s.lamps
    ∧ t.straps = s.straps ∧ t.duty.yielded = s.duty.yielded ∧ t.duty.view = s.duty.view ∧ t.duty.chime = s.duty.chime

@[simp] theorem sameReadings_iff (s t : State) :
    s.SameReadings t ↔ s.SameLadderReadings t ∧ t.powered = s.powered ∧ t.modeCtl.mode = s.modeCtl.mode
      ∧ t.lamps = s.lamps ∧ t.straps = s.straps ∧ t.duty.yielded = s.duty.yielded ∧ t.duty.view = s.duty.view
      ∧ t.duty.chime = s.duty.chime := Iff.rfl

/-- From s to t the ladders are kept, the lamps go on showing the levels, and the chime and the view stay justified. -/
structure State.KeepsReminders (s t : State) : Prop extends s.KeepsLadders t where
  lamps : s.LampsShow → t.LampsShow
  duty : s.ChimeJustified ∧ s.ViewKept → t.ChimeJustified ∧ t.ViewKept

theorem keepsReminders_refl (s : State) : s.KeepsReminders s := ⟨⟨id, id⟩, id, id⟩

section KeepsReminders

variable {s t u : State}

theorem State.KeepsReminders.trans (h : s.KeepsReminders t) (h' : t.KeepsReminders u) : s.KeepsReminders u :=
  ⟨h.toKeepsLadders.trans h'.toKeepsLadders, h'.lamps ∘ h.lamps, h'.duty ∘ h.duty⟩

theorem keepsReminders_of_seats (hseats : ∀ p, (s.table.seats.get p).KeepsLadders (t.table.seats.get p))
    (hread : s.SameReadings t) : s.KeepsReminders t := by
  obtain ⟨hladder, hpowered, hmode, hlamps, hstraps, hyielded, hview, hchime⟩ := hread
  obtain ⟨-, -, hignition⟩ := id hladder
  exact ⟨keepsLadders_of_seats hseats hladder,
    fun h => h.of_levels (fun p => (hseats p).level) ⟨hpowered, hmode, hlamps⟩,
    fun ⟨hc, hv⟩ => ⟨hc.of_duty ⟨hstraps, hyielded, hview, hchime, hmode, hignition⟩,
      hv.of_view ⟨hstraps, hyielded, hview⟩⟩⟩

/-- A change outside what ladders and outputs are judged by. -/
theorem keepsReminders_of_same (h : t.table.seats = s.table.seats ∧ s.SameReadings t) : s.KeepsReminders t :=
  keepsReminders_of_seats (fun _ => h.1 ▸ keepsLadders_refl _) h.2

theorem State.KeepsReminders.same (h : s.KeepsReminders t)
    (hsame : u.table.seats = t.table.seats ∧ t.SameReadings u) : s.KeepsReminders u :=
  h.trans (keepsReminders_of_same hsame)

theorem State.KeepsReminders.after_same (h : t.KeepsReminders u)
    (hsame : t.table.seats = s.table.seats ∧ s.SameReadings t) : s.KeepsReminders u :=
  (keepsReminders_of_same hsame).trans h

/-- A change of the record at one position that keeps its ladder. -/
theorem keepsReminders_updateRecord (s : State) (p : Pos) {f : Record → Record}
    (hf : ∀ r : Record, r.KeepsLadder (f r)) : s.KeepsReminders (s.updateRecord p f) := by
  refine keepsReminders_of_seats (fun q => ?_) (by simp)
  rw [State.updateRecord, State.updateSeat, setTable_table, Four.get_set]
  split
  · next hq => exact hq ▸ keepsLadders_map _ hf
  · exact keepsLadders_refl _

/-- R102: after a change of ladders the lamps follow the levels. -/
theorem State.KeepsLadders.refreshLamps (h : s.KeepsLadders t)
    (hread : t.straps = s.straps ∧ t.duty = s.duty ∧ t.modeCtl.mode = s.modeCtl.mode
      ∧ t.vehicle.ignition = s.vehicle.ignition) : s.KeepsReminders t.refreshLamps := by
  obtain ⟨hstraps, hduty, hmode, hignition⟩ := hread
  refine ⟨h.trans (keepsLadders_of_table (by simp)), fun _ => refreshLamps_lampsShow t, fun ⟨hc, hv⟩ => ⟨?_, ?_⟩⟩
  · exact hc.of_duty (by simp [hstraps, hduty, hmode, hignition])
  · exact hv.of_view (by simp [hstraps, hduty])

/-- R138: after a change of the view the chime follows it. -/
theorem State.KeepsLadders.refreshDuty (h : s.KeepsLadders t) (hlamps : s.LampsShow → t.LampsShow)
    (hview : s.ViewKept → t.ViewKept) : s.KeepsReminders t.refreshDuty :=
  ⟨h.trans (keepsLadders_of_table (by simp)), fun hl => (hlamps hl).of_levels (fun p => by simp) (by simp),
    fun ⟨_, hv⟩ => ⟨refreshDuty_chimeJustified t, refreshDuty_viewKept (hview hv)⟩⟩

/-- R102, R138: after a change of mode, ladders or vehicle data all outputs follow. -/
theorem State.KeepsLadders.refreshOutputs (h : s.KeepsLadders t) (hview : s.ViewKept → t.ViewKept) :
    s.KeepsReminders t.refreshOutputs :=
  (h.trans (keepsLadders_of_table (by simp))).refreshDuty (fun _ => refreshLamps_lampsShow t)
    fun hv => (hview hv).of_view (by simp)

/-- The duty unit has changed its roster and its view, and the chime follows. -/
theorem keepsReminders_setDuty (s : State) {d : Duty} (hview : s.ViewKept → (s.setDuty d).ViewKept) :
    s.KeepsReminders (s.setDuty d).refreshDuty :=
  State.KeepsLadders.refreshDuty (keepsLadders_of_table (by simp)) (fun hl => hl.of_levels (fun _ => rfl) (by simp)) hview

end KeepsReminders

/-! ### What keeps the mode -/

section KeepsMode

variable (s : State)

@[simp] theorem testReasons_mode : s.testReasons.modeCtl.mode = s.modeCtl.mode := by
  obtain h | ⟨w, reason, -, h⟩ := testReasons_cases s
  · rw [h]
  · rw [h, (placeRefusal_writes s w reason).1]

@[simp] theorem closeWindow_mode : s.closeWindow.modeCtl.mode = s.modeCtl.mode := rfl

@[simp] theorem restartAlone_mode : s.restartAlone.modeCtl.mode = s.modeCtl.mode := rfl

@[simp] theorem testLeftBehind_mode : s.testLeftBehind.modeCtl.mode = s.modeCtl.mode := rfl

@[simp] theorem restartIdle_mode : s.restartIdle.modeCtl.mode = s.modeCtl.mode := by
  unfold State.restartIdle
  split <;> simp

@[simp] theorem openWindow_mode : s.openWindow.modeCtl.mode = s.modeCtl.mode := by
  unfold State.openWindow
  split <;> simp

@[simp] theorem idleStep_mode (changed : Bool) : (s.idleStep changed).modeCtl.mode = s.modeCtl.mode := by
  unfold State.idleStep
  split <;> simp

@[simp] theorem latchReason_mode (event : LatchEvent) : (s.latchReason event).modeCtl.mode = s.modeCtl.mode := by
  unfold State.latchReason
  split <;> simp

@[simp] theorem doorReport_mode (isOpen : Bool) : (s.doorReport isOpen).modeCtl.mode = s.modeCtl.mode := by
  unfold State.doorReport
  split <;> simp

@[simp] theorem hearProposal_mode (kind : FrameKind) : (s.hearProposal kind).modeCtl.mode = s.modeCtl.mode := by
  unfold State.hearProposal
  split <;> simp

@[simp] theorem stationClash_mode (kind : FrameKind) (header : Byte) (payload : List Byte) :
    (s.stationClash kind header payload).modeCtl.mode = s.modeCtl.mode := by
  simp [State.stationClash, State.markClash]

@[simp] theorem propose_mode : s.propose.modeCtl.mode = s.modeCtl.mode := by
  unfold State.propose
  split <;> simp

@[simp] theorem idleReached_mode : s.idleReached.modeCtl.mode = s.modeCtl.mode := by
  unfold State.idleReached
  repeat' split
  all_goals simp

end KeepsMode

end Sys2Proof.Machine

namespace Sys2Proof.Machine

/-! ### What each operation keeps of ladders and outputs -/

section Operations

variable (s : State)

/-- A record's alert moves, its ladder stands (R193). -/
theorem setAlert_keepsReminders (p : Pos) (after : Alert) :
    s.KeepsReminders (s.updateRecord p fun r => { r with alert := after }) :=
  keepsReminders_updateRecord s p fun _ => ⟨rfl, rfl, le_refl _, id⟩

theorem setOrigin_keepsReminders (p : Pos) (origin : Origin) :
    s.KeepsReminders (s.updateRecord p fun r => { r with origin := origin }) :=
  keepsReminders_updateRecord s p fun _ => ⟨rfl, rfl, le_refl _, id⟩

/-! ### Alerts -/

theorem endAlert_keepsReminders (p : Pos) (after : Alert) : s.KeepsReminders (s.endAlert p after) := by
  unfold State.endAlert
  repeat' split
  · exact (setAlert_keepsReminders s p after).same (by simp)
  · exact keepsReminders_refl s
  · exact keepsReminders_refl s

theorem acknowledgeAlerts_keepsReminders : s.KeepsReminders s.acknowledgeAlerts :=
  List.foldlRecOn positionsInOrder _ (motive := s.KeepsReminders) (keepsReminders_refl s) fun _ ht p _ =>
    ht.trans (endAlert_keepsReminders _ p _)

theorem endAlertsByClass_keepsReminders : s.KeepsReminders s.endAlertsByClass :=
  List.foldlRecOn positionsInOrder _ (motive := s.KeepsReminders) (keepsReminders_refl s) fun t ht p _ => by
    split
    · exact ht.trans (endAlert_keepsReminders t p _)
    · exact ht

theorem sendAlert_keepsReminders (p : Pos) (cls : Cls) (count : Nat) : s.KeepsReminders (s.sendAlert p cls count) := by
  unfold State.sendAlert
  exact (setAlert_keepsReminders s p (.active count (.running 0))).same (by simp)

theorem raiseAlert_keepsReminders (p : Pos) : s.KeepsReminders (s.raiseAlert p) := by
  unfold State.raiseAlert
  repeat' split
  · exact sendAlert_keepsReminders s p _ _
  all_goals exact keepsReminders_refl s

theorem alertPeriod_keepsReminders (p : Pos) : s.KeepsReminders (s.alertPeriod p) := by
  unfold State.alertPeriod
  repeat' split
  · exact keepsReminders_refl s
  · exact sendAlert_keepsReminders s p _ _
  · exact endAlert_keepsReminders s p _
  all_goals exact keepsReminders_refl s

theorem alertSent_keepsReminders (payload : List Byte) : s.KeepsReminders (s.alertSent payload) := by
  unfold State.alertSent
  split
  · exact endAlert_keepsReminders s _ _
  · exact keepsReminders_refl s

/-! ### Changes of mode -/

theorem enterWatch_keepsReminders : s.KeepsReminders s.enterWatch :=
  State.KeepsLadders.refreshOutputs (keepsLadders_of_table (by simp)) fun hv => hv.of_view (by simp)

theorem leaveWatch_keepsReminders : s.KeepsReminders s.leaveWatch :=
  State.KeepsLadders.refreshOutputs (keepsLadders_of_table (by simp)) fun hv => hv.of_view (by simp)

theorem enterStandby_keepsReminders : s.KeepsReminders s.enterStandby := by
  refine State.KeepsLadders.refreshOutputs (keepsLadders_of_seats (fun p => ?_) ?_) fun hv => hv.of_view (by simp)
  · simpa using keepsLadders_map (s.table.seats.get p) stopTimers_keepsLadder
  · simp [Sfe.armWatch]

theorem haltEntry_keepsReminders : s.KeepsReminders s.haltEntry := by
  unfold State.haltEntry
  exact (enterStandby_keepsReminders s).same (by simp)

theorem ownDecision_keepsReminders : s.KeepsReminders s.ownDecision := by
  unfold State.ownDecision
  split
  · exact enterWatch_keepsReminders s
  · exact enterStandby_keepsReminders s

/-- R82, R102, R142: a fresh table with all lamps off and a fresh duty unit. -/
theorem keepsReminders_of_fresh {t : State} {c : Conf} {yielded : Bool} (hseats : t.table.seats = freshSeats c)
    (hlamps : t.lamps = Four.const .off) (hduty : t.duty = freshDuty yielded) : s.KeepsReminders t := by
  have hvacant : ∀ p, (t.table.seats.get p).record = none ∧ (t.table.seats.get p).securing = none :=
    fun p => hseats ▸ freshSeats_vacant c p
  refine ⟨keepsLadders_of_vacant hvacant, fun _ _ p => ?_, fun _ => ⟨fun h => ?_, ?_⟩⟩
  · obtain ⟨hrecord, hsecuring⟩ := hvacant p
    have hlevel : (t.table.seats.get p).level = .quiet := by simp [Seat.level, hrecord, hsecuring]
    rw [hlamps, hlevel, Four.get_const]
    split
    · exact trivial
    · rfl
  · rw [hduty] at h
    cases h
  · exact viewKept_of_empty (by rw [hduty]; rfl)

theorem wake_keepsReminders (pins : BitVec 5) : s.KeepsReminders (s.wake pins) :=
  keepsReminders_of_fresh s rfl rfl rfl

theorem serviceExit_keepsReminders : s.KeepsReminders s.serviceExit :=
  keepsReminders_of_fresh s rfl rfl rfl

theorem haltFromService_keepsReminders : s.KeepsReminders s.haltFromService :=
  (serviceExit_keepsReminders s).trans (haltEntry_keepsReminders _)

theorem serviceBlocks_keepsReminders : s.KeepsReminders s.serviceBlocks :=
  State.KeepsLadders.refreshOutputs (keepsLadders_of_vacant fun p => by simp [freshSeats])
    fun _ => viewKept_of_empty (by simp)

theorem enterServiceMode_keepsReminders : s.KeepsReminders s.enterServiceMode := by
  unfold State.enterServiceMode
  exact (serviceBlocks_keepsReminders s).same (by simp)

theorem heardWake_keepsReminders (pins : BitVec 5) : s.KeepsReminders (s.heardWake pins) := by
  unfold State.heardWake
  split
  · exact keepsReminders_of_same (by simp)
  · exact leaveWatch_keepsReminders s
  · exact wake_keepsReminders s pins
  · exact keepsReminders_refl s

theorem haltInStandby_keepsReminders : s.KeepsReminders s.haltInStandby := by
  have hpositions : s.haltInStandby.sfe.positions = s.sfe.positions := by
    simp only [State.haltInStandby, setLink_sfe, setModeCtl_sfe, setSfe_sfe]
    split <;> rfl
  have hmode : s.haltInStandby.modeCtl.mode = s.modeCtl.mode := rfl
  exact keepsReminders_of_same (by simp [hpositions, hmode])

theorem heardHalt_keepsReminders : s.KeepsReminders s.heardHalt := by
  unfold State.heardHalt
  split
  · exact haltEntry_keepsReminders s
  · exact haltEntry_keepsReminders s
  · exact haltInStandby_keepsReminders s
  · split
    · exact keepsReminders_of_same (by simp)
    · exact haltFromService_keepsReminders s

theorem wakeOnCause_keepsReminders (pins : BitVec 5) : s.KeepsReminders (s.wakeOnCause pins) := by
  unfold State.wakeOnCause
  split
  · exact wake_keepsReminders s pins
  · exact keepsReminders_refl s

theorem takeSample_keepsReminders (sampled : StandbyWatch × Bool) (pins : BitVec 5) :
    s.KeepsReminders (s.takeSample sampled pins) := by
  unfold State.takeSample State.localWakeCause
  repeat' split
  · exact keepsReminders_of_same (by simp)
  · exact (wake_keepsReminders _ pins).after_same (by simp)
  · exact keepsReminders_of_same (by simp)

theorem hearPulse_keepsReminders (c : PulseClass) (pins : BitVec 5) : s.KeepsReminders (s.hearPulse c pins) := by
  unfold State.hearPulse
  split
  · exact keepsReminders_of_same (by simp)
  · exact heardWake_keepsReminders s pins
  · exact heardHalt_keepsReminders s
  all_goals exact keepsReminders_refl s

theorem edge_keepsReminders : s.KeepsReminders s.edge := keepsReminders_of_same (by simp)

theorem hearAtRelease_keepsReminders (length : Nat) (pins : BitVec 5) :
    s.KeepsReminders (s.hearAtRelease length pins) := by
  have hedge := edge_keepsReminders s
  have hstuck : s.KeepsReminders s.stuckLine.edge := keepsReminders_of_same (by simp)
  unfold State.hearAtRelease
  split
  · exact hstuck.trans (wakeOnCause_keepsReminders _ pins)
  · exact hedge.trans (heardHalt_keepsReminders _)
  · exact (hedge.trans (hearPulse_keepsReminders _ _ pins)).trans (wakeOnCause_keepsReminders _ pins)
  · exact hedge.trans (heardWake_keepsReminders _ pins)
  · exact keepsReminders_refl s

theorem leftBehind_keepsReminders : s.KeepsReminders s.leftBehind := by
  have hleft : s.KeepsReminders s.requestWake.leaveWatch :=
    (leaveWatch_keepsReminders s.requestWake).after_same (by simp)
  unfold State.leftBehind
  exact List.foldlRecOn positionsInOrder State.raiseAlert (motive := s.KeepsReminders)
    (hleft.same (by simp)) fun t ht p _ => ht.trans (raiseAlert_keepsReminders t p)

theorem closeWindow_keepsReminders : s.KeepsReminders s.closeWindow := keepsReminders_of_same (by simp)

theorem endWindow_keepsReminders (w : Window) : s.KeepsReminders (s.endWindow w) := by
  unfold State.endWindow State.activeWindowEnd
  repeat' split
  · exact keepsReminders_of_same (by simp)
  · exact (closeWindow_keepsReminders s).trans (ownDecision_keepsReminders _)
  · exact closeWindow_keepsReminders s

theorem aloneReached_keepsReminders : s.KeepsReminders s.aloneReached := by
  unfold State.aloneReached
  split
  · exact keepsReminders_of_same (by simp)
  · exact ownDecision_keepsReminders s

theorem lossOfSupply_keepsReminders : s.KeepsReminders s.cutCommit.unpowered := by
  have hrunning : s.cutCommit.config.running = s.config.running := by
    unfold State.cutCommit
    split <;> rfl
  refine ⟨keepsLadders_of_table (by simp [State.unpowered, hrunning]), fun _ h => ?_, fun ⟨_, hv⟩ => ⟨fun h => ?_, ?_⟩⟩
  · cases h
  · cases h
  · exact hv.of_view (by simp [State.unpowered])

/-! ### Claims (R68, R117 to R121) -/

theorem searchOrSettle_keepsReminders (p : Pos) : s.KeepsReminders (s.searchOrSettle p) := by
  unfold State.searchOrSettle State.takeMatch
  repeat' split
  · exact keepsReminders_refl s
  · next m _ =>
    have hclaims := setOrigin_keepsReminders (s.setDepartures (removeTag s.departures m.entry.tag)) p
      (.claiming m.entry)
    exact (hclaims.after_same (by simp)).same (by simp)
  · exact setOrigin_keepsReminders s p _

theorem yieldCutOff_keepsReminders (p : Pos) : s.KeepsReminders (s.yieldCutOff p) := by
  unfold State.yieldCutOff
  exact (searchOrSettle_keepsReminders _ p).after_same (by simp)

theorem claimCutOff_keepsReminders (c : ClaimRef) : s.KeepsReminders (s.claimCutOff c) := by
  unfold State.claimCutOff
  repeat' split
  · exact keepsReminders_refl s
  · exact yieldCutOff_keepsReminders s _
  · exact keepsReminders_refl s

theorem yieldToRival_keepsReminders (p : Pos) : s.KeepsReminders (s.yieldToRival p) := by
  unfold State.yieldToRival
  split
  · exact (yieldCutOff_keepsReminders _ p).after_same (by simp)
  · exact keepsReminders_refl s

theorem peerClaim_keepsReminders (tag : DepTag) : s.KeepsReminders (s.peerClaim tag) := by
  unfold State.peerClaim
  dsimp only
  split
  · exact (yieldToRival_keepsReminders _ _).after_same (by simp)
  · exact keepsReminders_of_same (by simp)

/-- R99, R100: a settlement may move the ladder, and the lamps follow. -/
theorem settleClaim_keepsReminders (p : Pos) (tag : DepTag) : s.KeepsReminders (s.settleClaim p tag) := by
  have hrecord : s.KeepsLadders (s.updateRecord p fun r => r.settle s.ladderEnv) :=
    keepsLadders_updateRecord p (fun _ _ hc => settle_chimeUsed_le hc) fun _ _ hd => settle_ladderDue hd
  exact State.KeepsLadders.refreshLamps (hrecord.trans (keepsLadders_of_table ⟨rfl, rfl, rfl, rfl⟩)) (by simp)

theorem ownClaim_keepsReminders (c : ClaimRef) : s.KeepsReminders (s.ownClaim c) := by
  unfold State.ownClaim
  repeat' split
  · exact keepsReminders_refl s
  · exact keepsReminders_refl s
  · exact settleClaim_keepsReminders s _ _
  · exact setOrigin_keepsReminders s _ _

/-! ### The end of a transmission -/

theorem cutOff_keepsReminders (e : TxEntry) : s.KeepsReminders (s.cutOff e) := by
  have hreported : s.KeepsReminders (((s.setLink s.link.mismatch).reportLink .bitMismatch (headerByte e.kind s.station)
      e.payload).reportFence (fenceRun ≤ s.link.mismatchRun + 1) (headerByte e.kind s.station) e.payload) :=
    keepsReminders_of_same (by simp)
  unfold State.cutOff
  refine hreported.trans ?_
  unfold State.frameCutOff
  split
  · exact claimCutOff_keepsReminders _ _
  · exact keepsReminders_of_same (by simp)
  · exact keepsReminders_refl _

theorem frameSent_keepsReminders (e : TxEntry) (echoed : Bool) : s.KeepsReminders (s.frameSent e echoed) := by
  have hsent : s.KeepsReminders (((s.setLink (s.link.sent e)).count fun k => k.sent echoed).reportEcho e echoed) :=
    keepsReminders_of_same (by simp)
  unfold State.frameSent
  refine hsent.trans ?_
  unfold State.sentReport
  split
  · exact keepsReminders_of_same (by simp)
  · exact alertSent_keepsReminders _ _
  · exact keepsReminders_refl _

/-! ### The duty unit (R127 to R136) -/

/-- R129: a roster slot is nothing of the view. -/
theorem setSlot_viewKept (n : StationNo) (slot : RosterSlot) (h : s.ViewKept) :
    (s.setDuty (s.duty.setSlot n slot)).ViewKept :=
  h.of_view (by simp [Duty.setSlot])

/-- R136: emptying a row. -/
theorem State.ViewKept.setRow_empty {s : State} {d : Duty} (n : StationNo) (h : (s.setDuty d).ViewKept) :
    (s.setDuty (d.setRow n .empty)).ViewKept := fun hduty row hrow => by
  obtain hin | rfl := List.mem_or_eq_of_mem_set hrow
  · exact h hduty row hin
  · rfl

/-- R127: a station that holds duty may fill any row. -/
theorem viewKept_of_holdsDuty {s : State} (h : s.holdsDuty = true) : s.ViewKept := fun hduty => by
  rw [h] at hduty
  cases hduty

theorem hear_keepsReminders (n : StationNo) : s.KeepsReminders (s.hear n).refreshDuty := by
  unfold State.hear
  split
  · exact keepsReminders_setDuty s (setSlot_viewKept s n _)
  · exact State.KeepsLadders.refreshDuty (keepsReminders_refl s).toKeepsLadders id id

theorem release_keepsReminders (n : StationNo) : s.KeepsReminders (s.release n) := by
  unfold State.release
  split
  · refine keepsReminders_setDuty s fun hv => ?_
    have hslot := setSlot_viewKept s n { state := .released, ms := (s.duty.slot n).ms } hv
    split
    · exact hslot.setRow_empty n
    · exact hslot
  · exact keepsReminders_refl s

theorem peerState_keepsReminders (n : StationNo) (payload : List Byte) : s.KeepsReminders (s.peerState n payload) := by
  unfold State.peerState
  repeat' split
  · exact keepsReminders_setDuty s fun _ => viewKept_of_empty rfl
  · next htakes =>
    have hduty : s.holdsDuty = true := by
      simp only [State.takesRow, Bool.and_eq_true] at htakes
      exact htakes.1.1
    exact keepsReminders_setDuty s fun _ => viewKept_of_holdsDuty hduty
  · exact keepsReminders_refl s

theorem fillOwnRow_viewKept (h : s.ViewKept) : s.fillOwnRow.ViewKept := by
  unfold State.fillOwnRow
  split
  · next hduty => exact viewKept_of_holdsDuty hduty
  · exact h

theorem accept_keepsReminders (kind : FrameKind) (n : StationNo) (payload : List Byte) :
    s.KeepsReminders (s.accept kind n payload) := by
  have hheard : s.KeepsReminders (s.numberAndEcho.hear n).refreshDuty :=
    (hear_keepsReminders _ n).after_same (by simp)
  unfold State.accept
  exact hheard.same (by simp)

theorem hearCells_keepsReminders (r : Reading) (echoed : Bool) : s.KeepsReminders (s.hearCells r echoed) := by
  have hedge := edge_keepsReminders s
  unfold State.hearCells State.takeReading State.wholeFrame
  repeat' split
  · exact hedge
  · exact hedge.same (by simp)
  · exact hedge.trans (accept_keepsReminders _ _ _ _)
  · exact hedge.same (by simp)
  · exact hedge.same (by simp)
  · exact hedge

/-! ### Service -/

theorem serviceEntry_keepsReminders (arg : Nat) : s.KeepsReminders (s.serviceEntry arg) := by
  unfold State.serviceEntry
  repeat' split
  · exact keepsReminders_of_same (by simp)
  · exact keepsReminders_of_same (by simp)
  · exact keepsReminders_of_same (by simp)
  · exact (enterServiceMode_keepsReminders s).same (by simp)

theorem serviceLeave_keepsReminders (arg : Nat) : s.KeepsReminders (s.serviceLeave arg) := by
  unfold State.serviceLeave
  repeat' split
  · exact keepsReminders_of_same (by simp)
  · exact keepsReminders_of_same (by simp)
  · exact keepsReminders_of_same (by simp)
  · exact (serviceExit_keepsReminders s).same (by simp)

/-! ### Time -/

theorem tick_keepsReminders : s.KeepsReminders s.tick := by
  unfold State.tick
  split
  · have hseats : ∀ p, (s.table.seats.get p).KeepsLadders (s.millisecond.table.seats.get p) := fun p => by
      unfold State.millisecond
      dsimp only
      split
      · rw [Four.get_map]
        exact keepsLadders_map _ (tick_keepsLadder s.config.running)
      · exact keepsLadders_refl _
    have hvehicle : s.millisecond.vehicle.ignition = s.vehicle.ignition := by
      show (s.vehicle.tick s.modeCtl.mode).ignition = _
      unfold Vehicle.tick
      split <;> rfl
    refine ⟨keepsLadders_of_seats hseats ⟨rfl, rfl, hvehicle⟩, fun h => h.of_lamps (fun p => ?_) ⟨rfl, rfl⟩,
      fun ⟨hc, hv⟩ => ⟨hc.of_duty ⟨rfl, rfl, rfl, rfl, rfl, hvehicle⟩, hv.of_view ⟨rfl, rfl, rfl⟩⟩⟩
    have hlamp : s.millisecond.lamps.get p = (s.lamps.get p).tick := Four.get_map _ _ _
    rw [hlamp, (hseats p).level]
    exact ⟨tick_shows, fun hoff => by rw [hoff]; rfl⟩
  · exact keepsReminders_refl s

end Operations

end Sys2Proof.Machine

namespace Sys2Proof.Machine

/-! ### Vehicle data (R88, R178) -/

section DeriveVehicle

variable (s : State)

theorem ignitionBecameOn_keepsLadders : s.KeepsLadders s.ignitionBecameOn := by
  refine (acknowledgeAlerts_keepsReminders s).toKeepsLadders.trans ?_
  unfold State.ignitionBecameOn
  dsimp only
  split
  · exact keepsLadders_of_table (by simp)
  · exact keepsLadders_of_table (by simp)

theorem ignitionLeftOn_keepsLadders : s.KeepsLadders s.ignitionLeftOn := keepsLadders_of_table (by simp)

/-- R178: what the mode controller does about the ignition leaves the ladders. -/
theorem takeVehicleChange_keepsLadders (ch : VehicleChange) :
    (s.laddersTaken ch).KeepsLadders (s.takeVehicleChange ch) := by
  have hlist : (s.laddersTaken ch).KeepsLadders
      ((s.laddersTaken ch).setDepartures (if ch.tripEnded then [] else s.departures)) := keepsLadders_of_table (by simp)
  unfold State.takeVehicleChange
  dsimp only
  split
  · exact hlist.trans (ignitionBecameOn_keepsLadders _)
  · split
    · exact hlist.trans (ignitionLeftOn_keepsLadders _)
    · exact hlist

theorem takeVehicleChange_view (ch : VehicleChange) :
    (s.takeVehicleChange ch).duty.view = s.duty.view ∧ (s.takeVehicleChange ch).duty.yielded = s.duty.yielded := by
  unfold State.takeVehicleChange State.ignitionBecameOn
  dsimp only
  repeat' split
  all_goals simp [State.leaveWatch, State.refreshOutputs, refreshDuty_writes]

theorem deriveVehicle_keepsReminders (after : Vehicle) : s.KeepsReminders (s.deriveVehicle after) := by
  unfold State.deriveVehicle
  exact ((laddersTaken_keepsLadders s after _).trans (takeVehicleChange_keepsLadders _ _)).refreshOutputs
    fun hv => hv.of_view (by simp [takeVehicleChange_view])

theorem vehicleFrom_keepsReminders (n : StationNo) (payload : List Byte) :
    s.KeepsReminders (s.vehicleFrom n payload) := by
  have hderived := deriveVehicle_keepsReminders s (s.vehicle.take (vehicleOfPayload payload))
  unfold State.vehicleFrom State.takeVehicle State.acknowledge
  repeat' split
  · exact (hderived.same (by simp)).trans (acknowledgeAlerts_keepsReminders _)
  · exact hderived.same (by simp)
  · exact keepsReminders_of_same (by simp)

end DeriveVehicle

/-! ### The completion of a sweep (R29) -/

section Completion

variable (s : State)

theorem vacantStep_keepsReminders : s.KeepsReminders s.vacantStep := by
  unfold State.vacantStep
  repeat' split
  · exact keepsReminders_of_same (by simp)
  · exact enterStandby_keepsReminders s
  · exact keepsReminders_of_same (by simp)
  · exact keepsReminders_refl s

theorem wakeOthers_keepsReminders (ownChange : Bool) : s.KeepsReminders (s.wakeOthers ownChange) := by
  unfold State.wakeOthers
  split
  · exact (leaveWatch_keepsReminders s.requestWake).after_same (by simp)
  · exact keepsReminders_refl s

theorem watchStep_keepsReminders (ownChange : Bool) : s.KeepsReminders (s.watchStep ownChange) := by
  unfold State.watchStep
  split
  · exact (vacantStep_keepsReminders s).trans (wakeOthers_keepsReminders _ ownChange)
  · exact (wakeOthers_keepsReminders s ownChange).trans (vacantStep_keepsReminders _)

theorem modeStep_keepsReminders (c : OwnChanges) : s.KeepsReminders (s.modeStep c) := by
  unfold State.modeStep
  exact ((endAlertsByClass_keepsReminders s).same (by simp)).trans (watchStep_keepsReminders _ _)

variable (number : Word16) (test : Bool) (tagAt : Option Pos) (r : SweepReadings)

/-- R29: at the end of step 5 the lamps show the levels of step 4, and the chime follows the own row. -/
theorem beforeStepSix_keepsReminders : s.KeepsReminders (s.beforeStepSix number test tagAt r) := by
  rw [beforeStepSix_eq, State.reportStep]
  refine State.KeepsLadders.refreshDuty
    ((afterStepFour_keepsLadders s number test tagAt r).trans (keepsLadders_of_table (by simp))) (fun _ => ?_) fun hv => ?_
  · exact (afterStepFour_lampsShow s number test tagAt r).of_levels (fun p => by simp) (by simp)
  · exact fillOwnRow_viewKept _ (hv.of_view (by simp [State.afterStepFour, State.classifiedBy]))

theorem completeSweep_keepsReminders : s.KeepsReminders (s.completeSweep number test tagAt r) := by
  have hsix := (beforeStepSix_keepsReminders s number test tagAt r).trans
    (modeStep_keepsReminders _ (s.changesBy number test tagAt r))
  rw [completeSweep_eq_modeStep]
  exact hsix.same (by simp)

end Completion

/-! ### Every command and every step keeps ladders and outputs -/

/-- R207: a CONFIG frame writes the working copy alone. -/
@[simp] theorem configFrame_running (s : State) (item value : Nat) :
    (s.configFrame item value).config.running = s.config.running := by
  unfold State.configFrame State.answerWrite
  repeat' split
  all_goals simp

/-- What a meaning answers keeps the ladders and outputs of the state it was given. -/
def State.AnswersReminders (s : State) (o : Out) : Prop := ∀ t, o = .next t → s.KeepsReminders t

section AnswersReminders

variable {s : State}

theorem answersReminders_next {t : State} (h : s.KeepsReminders t) : s.AnswersReminders (.next t) := by
  rintro _ ⟨⟩
  exact h

theorem answersReminders_onlyIf {c : Bool} {after : State} (h : c = true → s.KeepsReminders after) :
    s.AnswersReminders (onlyIf c after s) := by
  refine answersReminders_next ?_
  split
  · next hc => exact h hc
  · exact keepsReminders_refl s

/-- A guarded command that leaves what ladders and outputs are judged by. -/
theorem answersReminders_onlyIf_of_same {c : Bool} {after : State}
    (h : after.table.seats = s.table.seats ∧ s.SameReadings after) : s.AnswersReminders (onlyIf c after s) :=
  answersReminders_onlyIf fun _ => keepsReminders_of_same h

/-- A ladder timer at its limit: the record's change keeps it within its limit and due, and the lamps follow. -/
theorem answersReminders_expire {p : Pos} {timer : Record → Timer} {limit : Nat} {f : Record → Record}
    (hchime : ∀ r : Record, r.chimeUsed ≤ s.config.running.chimeLimit → (f r).chimeUsed ≤ s.config.running.chimeLimit)
    (hdue : ∀ r : Record, timer r ≠ .stopped → r.LadderDue (s.sfe.positions.get p).belt s.ignitionOn →
      (f r).LadderDue (s.sfe.positions.get p).belt s.ignitionOn) : s.AnswersReminders (s.expire p timer limit f) := by
  refine answersReminders_onlyIf fun hc => ?_
  have hruns : ∀ r, s.recordAt p = some r → timer r ≠ .stopped := by
    intro r hr hstopped
    simp [State.timerDue, hr, hstopped, isAt_stopped] at hc
  have hrecord : s.KeepsLadders (s.updateRecord p f) :=
    keepsLadders_updateRecord p (fun r _ => hchime r) fun r hr => hdue r (hruns r hr)
  exact hrecord.refreshLamps (by simp)

theorem answersReminders_handleFrame {kind : FrameKind} {owner : RxFrame → State → State}
    (h : ∀ f (t : State), t.KeepsReminders (owner f t)) : s.AnswersReminders (s.handleFrame kind owner) := by
  refine answersReminders_next ?_
  split
  · exact (h _ _).after_same (by simp)
  · exact keepsReminders_refl s

theorem answersReminders_handleQuery {item : Nat} {answer : Nat → State → State}
    (h : ∀ arg (t : State), t.KeepsReminders (answer arg t)) : s.AnswersReminders (s.handleQuery item answer) := by
  refine answersReminders_next ?_
  split
  · exact (h _ _).after_same (by simp)
  · exact keepsReminders_refl s

end AnswersReminders

/-- Every command keeps ladders and outputs. -/
theorem exec_answersReminders (s : State) (i : Instr) : s.AnswersReminders (exec i s) := by
  have hstays := keepsReminders_refl s
  cases i with
  | powerOn pins => exact answersReminders_next (keepsReminders_of_fresh s rfl rfl rfl)
  | sweepCompletion r =>
    refine answersReminders_next ?_
    split
    · exact completeSweep_keepsReminders s _ _ _ r
    · exact hstays
  | oneShotCompletion r =>
    refine answersReminders_next ?_
    split
    · exact keepsReminders_of_same (by simp)
    · exact hstays
  | graceTimerExpiry p =>
    refine answersReminders_expire (fun r hc => ?_) fun r ht hd => ?_
    · exact (leaveGrace_enters r _).moved.chimeUsed.trans_le hc
    · exact hd.of_enters (hd.1.not_quiet (.inl ht)) (leaveGrace_enters r _)
  | escalationTimerExpiry p =>
    refine answersReminders_expire (fun r hc => ?_) fun r ht hd => ?_
    · exact (toLevel2_enters r _).moved.chimeUsed.trans_le hc
    · exact hd.of_enters (hd.1.not_quiet (.inr (.inl ht))) (toLevel2_enters r _)
  | chimeSecond p =>
    exact answersReminders_expire (fun _ _ => chimeTick_chimeUsed_le) fun _ ht hd => chimeTick_ladderDue hd ht
  | slowTimerExpiry p =>
    refine answersReminders_expire (fun _ hc => hc) fun r ht hd => ?_
    exact hd.of_enters (hd.1.not_quiet (.inr (.inr (.inr ht)))) (atLevel_enters r .level1)
  | buckledRunExpiry p =>
    exact answersReminders_expire (fun _ _ => Nat.zero_le _) fun r _ hd => hd.of_keeps (endBuckledRun_keepsLadder r)
  | seatedTimeSecond p =>
    exact answersReminders_onlyIf fun _ => keepsReminders_updateRecord s p fun _ => ⟨rfl, rfl, le_refl _, id⟩
  | lampFlashToggle p =>
    refine answersReminders_onlyIf fun _ => ⟨keepsLadders_of_table (by simp), fun h => h.of_lamps (fun q => ?_) (by simp),
      fun ⟨hc, hv⟩ => ⟨hc.of_duty (by simp), hv.of_view (by simp)⟩⟩
    rw [setLamps_lamps, setLamps_table, Four.get_set]
    split
    · next hq =>
      subst hq
      exact ⟨toggle_shows, fun hoff => by rw [hoff]; rfl⟩
    · exact ⟨id, id⟩
  | rosterSilent n =>
    exact answersReminders_onlyIf fun _ => keepsReminders_setDuty s (setSlot_viewKept s n _)
  | rosterLost n =>
    exact answersReminders_onlyIf fun _ => keepsReminders_setDuty s fun hv => (setSlot_viewKept s n _ hv).setRow_empty n
  | sweepStart | tellTaleFlashToggle | departureEntryExpiry | emissionTimerExpiry | restartedHoldExpiry
  | eventLossHoldExpiry | fenceEnd | stuckHoldEnd | lineStuck | frameTxStart | arbitrationLost | wakePulseSendStart
  | idleTimerExpiry => exact answersReminders_onlyIf_of_same (by simp)
  | vehicleDataLost => exact answersReminders_onlyIf fun _ => deriveVehicle_keepsReminders s _
  | pulseEnd length pins =>
    exact answersReminders_onlyIf fun _ => (edge_keepsReminders s).trans (hearPulse_keepsReminders _ _ pins)
  | bitMismatch =>
    refine answersReminders_next ?_
    split
    · exact cutOff_keepsReminders s _
    · exact hstays
  | frameSent echoed =>
    refine answersReminders_next ?_
    split
    · exact frameSent_keepsReminders s _ echoed
    · exact hstays
  | wakePulseRelease heard pins =>
    refine answersReminders_onlyIf fun _ => ?_
    split
    · exact (wakeOnCause_keepsReminders _ pins).after_same (by simp)
    · exact (hearAtRelease_keepsReminders _ _ pins).after_same (by simp)
  | frameReceptionEnd cells echoed => exact answersReminders_onlyIf fun _ => hearCells_keepsReminders s _ echoed
  | ownClaimHandled =>
    refine answersReminders_next ?_
    split
    · exact (ownClaim_keepsReminders _ _).after_same (by simp)
    · exact hstays
  | claimHandled =>
    show s.AnswersReminders (execClaimHandled s)
    refine answersReminders_handleFrame fun _ t => ?_
    split
    · exact keepsReminders_refl t
    · exact peerClaim_keepsReminders t _
  | departHandled =>
    show s.AnswersReminders (execDepartHandled s)
    refine answersReminders_handleFrame fun _ t => ?_
    split
    · exact keepsReminders_refl t
    · exact keepsReminders_of_same (by simp)
  | sleepRefuseHandled | alertHandled | sleepProposeHandled | configWrite =>
    simp only [exec, execSleepRefuseHandled, execAlertHandled, execSleepProposeHandled, execConfigWrite]
    exact answersReminders_handleFrame fun _ _ => keepsReminders_of_same (by simp)
  | rowReleaseHandled =>
    show s.AnswersReminders (execRowReleaseHandled s)
    exact answersReminders_handleFrame fun _ t => release_keepsReminders t _
  | vehicleHandled => exact answersReminders_handleFrame fun _ t => vehicleFrom_keepsReminders t _ _
  | stateHandled =>
    show s.AnswersReminders (execStateHandled s)
    refine answersReminders_handleFrame fun _ t => ?_
    split
    · exact peerState_keepsReminders t _ _
    · exact keepsReminders_refl t
  | readCapture | clearCapture | readCounters | readPosition | measure | readRoster | readConfig | storeConfig =>
    simp only [exec, execReadCapture, execClearCapture, execReadCounters, execReadPosition, execMeasure,
      execReadRoster, execReadConfig, execStoreConfig]
    exact answersReminders_handleQuery fun _ _ => keepsReminders_of_same (by simp)
  | enterService => exact answersReminders_handleQuery fun arg t => serviceEntry_keepsReminders t arg
  | leaveService => exact answersReminders_handleQuery fun arg t => serviceLeave_keepsReminders t arg
  | commitCompletion =>
    refine answersReminders_onlyIf fun _ => ?_
    have hdone : s.KeepsReminders s.commitDone := keepsReminders_of_same 
      (by simp [State.commitDone])
    split
    · exact hdone.trans (haltFromService_keepsReminders _)
    · exact hdone
  | serviceTimerExpiry => exact answersReminders_onlyIf fun _ => serviceExit_keepsReminders s
  | windowEnd =>
    refine answersReminders_next ?_
    split
    · split
      · exact endWindow_keepsReminders s _
      · exact hstays
    · exact hstays
  | aloneTimerExpiry => exact answersReminders_onlyIf fun _ => aloneReached_keepsReminders s
  | watchTimerExpiry => exact answersReminders_onlyIf fun _ => enterStandby_keepsReminders s
  | leftBehindExpiry => exact answersReminders_onlyIf fun _ => leftBehind_keepsReminders s
  | alertPeriodExpiry p => exact answersReminders_onlyIf fun _ => alertPeriod_keepsReminders s p
  | standbyWatchSample ratios latchOpen pins =>
    refine answersReminders_next ?_
    split
    · exact takeSample_keepsReminders s _ pins
    · exact hstays
  | lossOfSupply => exact answersReminders_onlyIf fun _ => lossOfSupply_keepsReminders s
  | diagQueryItemNotDefined =>
    refine answersReminders_next ?_
    split
    · exact keepsReminders_of_same (by simp)
    · exact hstays

/-- A step passes a millisecond, or takes the front command on the rest of the queue. -/
theorem step_keepsReminders {s t : State} (h : step s = .next t) : s.KeepsReminders t := by
  unfold step at h
  split at h
  · exact answersReminders_next (tick_keepsReminders s) t h
  · exact (exec_answersReminders _ _ t h).after_same (by simp)

/-- Settles O57: the ladders' part of what a step keeps. -/
theorem laddersStayWithin : Obligations.LaddersStayWithin := fun _ _ hstep =>
  ⟨(step_keepsReminders hstep).chime, (step_keepsReminders hstep).ladders⟩

/-- Settles O58: the outputs' part of what a step keeps. -/
theorem outputsStayJustified : Obligations.OutputsStayJustified := fun _ _ hstep =>
  ⟨(step_keepsReminders hstep).lamps, (step_keepsReminders hstep).duty⟩

end Sys2Proof.Machine

namespace Sys2Proof.Machine

/-! ### Ladder timers at their limits (R90 to R97, R65) -/

section LadderTimers

variable {s : State} {p : Pos} {r : Record} {timer : Record → Timer} {limit : Nat}

/-- R90 to R97: a record's timer at its limit is taken, and the lamps follow. -/
theorem expire_of_reached (hp : s.powered = true) (hr : s.recordAt p = some r) (ht : (timer r).Reached limit)
    (f : Record → Record) : s.expire p timer limit f = .next (s.putRecord p (f r)).refreshLamps := by
  rw [expire_of_record s hr hp, if_pos ((reached_iff_isAt limit (timer r)).1 ht), updateRecord_of_some s hr]

/-- Log entry 2: a timer below its limit changes nothing. -/
theorem expire_of_not_reached (hp : s.powered = true) (hr : s.recordAt p = some r) (ht : ¬ (timer r).Reached limit)
    (f : Record → Record) : s.expire p timer limit f = .next s := by
  rw [expire_of_record s hr hp, if_neg (ht ∘ (reached_iff_isAt limit (timer r)).2)]

/-- R65: a record sits a full second in ACTIVE and WATCH. -/
theorem seatedTimeSecond_eq (hp : s.powered = true) (hr : s.recordAt p = some r)
    (hm : s.modeCtl.mode = .active ∨ s.modeCtl.mode = .watch) :
    exec (.seatedTimeSecond p) s = .next (if 1000 ≤ r.seatedMs then s.putRecord p r.sitSecond else s) := by
  have hkeeps : s.modeCtl.mode.keepsRecords = true := by rcases hm with hm | hm <;> rw [hm] <;> rfl
  show execSeatedTimeSecond p s = _
  simp [execSeatedTimeSecond, onlyIf_next, hp, hr, hkeeps, updateRecord_of_some s hr]

end LadderTimers

/-! ### The level a ladder enters (R89 to R94) -/

section Entries

variable {r : Record} {env : LadderEnv}

/-- R92, R93: entry into LEVEL_2 below the chime limit. -/
theorem toLevel2_of_lt (h : r.chimeUsed < env.conf.chimeLimit) :
    r.toLevel2 env = { r with
      level := .level2, graceTimer := .stopped, escalation := .stopped, chimeTimer := .running 0
      slowTimer := if env.atSpeed then .stopped else .running 0 } :=
  if_neg (Nat.not_le.2 h)

/-- R94: at the chime limit LEVEL_2 gives way to SPENT. -/
theorem toLevel2_of_le (h : env.conf.chimeLimit ≤ r.chimeUsed) : r.toLevel2 env = r.atLevel .spent := if_pos h

/-- R91: entry into LEVEL_1 below V_trip. -/
theorem toLevel1_of_slow (h : env.atSpeed = false) : r.toLevel1 env = r.atLevel .level1 := by
  simp [Record.toLevel1, h]

/-- R91: entry into LEVEL_1 at speed. -/
theorem toLevel1_of_fast (h : env.atSpeed = true) (ht : env.conf.tL1 ≠ 0) :
    r.toLevel1 env = { r.atLevel .level1 with escalation := .running 0 } := by
  simp [Record.toLevel1, h, ht]

/-- R91: at speed with T_l1 at 0 LEVEL_1 gives way at once. -/
theorem toLevel1_of_atOnce (h : env.atSpeed = true) (ht : env.conf.tL1 = 0) : r.toLevel1 env = r.toLevel2 env := by
  simp [Record.toLevel1, h, ht]

/-- R92: a chime second below the limit. -/
theorem chimeTick_of_lt (h : r.chimeUsed + 1 < env.conf.chimeLimit) :
    r.chimeTick env = { r with chimeUsed := r.chimeUsed + 1, chimeTimer := .running 0 } := by
  simp [Record.chimeTick, Nat.min_eq_left h.le, Nat.not_le.2 h]

/-- R94: the chime second that reaches the limit. -/
theorem chimeTick_of_le (h : env.conf.chimeLimit ≤ r.chimeUsed + 1) :
    r.chimeTick env = { r with chimeUsed := env.conf.chimeLimit }.atLevel .spent := by
  simp [Record.chimeTick, Nat.min_eq_right h]

end Entries

/-- Settles O19: each expiry by the record its timer stands in, and the value of its meaning on that record. -/
theorem ladderTimersRunOut : Obligations.LadderTimersRunOut := by
  intro s p r hp hr
  have hslow : s.ladderEnv.atSpeed = s.atSpeed := rfl
  refine ⟨fun ht hs => ?_, fun ht => expire_of_not_reached hp hr ht _, fun ht => expire_of_reached hp hr ht _,
    fun ht => expire_of_not_reached hp hr ht _, fun ht => expire_of_reached hp hr ht _,
    fun ht => expire_of_not_reached hp hr ht _, fun hm => ⟨fun ht => ?_, fun ht => ?_⟩, fun ht hc => ?_,
    fun ht hc => ?_,
    fun ht => expire_of_not_reached hp hr ht _, fun ht hc => ?_, fun ht hc => ?_,
    fun ht => expire_of_not_reached hp hr ht _⟩
  · refine (expire_of_reached hp hr ht _).trans ?_
    rw [Record.leaveGrace, toLevel1_of_slow (hslow.trans hs)]
    rfl
  · rw [seatedTimeSecond_eq hp hr hm, if_pos ht]
    rfl
  · rw [seatedTimeSecond_eq hp hr hm, if_neg (Nat.not_le.2 ht)]
  · refine (expire_of_reached hp hr ht _).trans ?_
    rw [toLevel2_of_lt hc]
    rfl
  · refine (expire_of_reached hp hr ht _).trans ?_
    rw [toLevel2_of_le hc]
    rfl
  · refine (expire_of_reached hp hr ht _).trans ?_
    rw [chimeTick_of_lt hc]
  · refine (expire_of_reached hp hr ht _).trans ?_
    rw [chimeTick_of_le hc]
    rfl

/-! ### Flashing outputs and lamps (R102, R139) -/

section Lamps

variable {s : State} {p : Pos}

theorem lampFlashToggle_of_over (hp : s.powered = true) (h : (s.lamps.get p).halfOver = true) :
    exec (.lampFlashToggle p) s = .next (s.setLamps (s.lamps.set p (s.lamps.get p).toggle)) := by
  show execLampFlashToggle p s = _
  rw [execLampFlashToggle, hp, h]
  rfl

theorem lampFlashToggle_of_not_over (h : (s.lamps.get p).halfOver = false) :
    exec (.lampFlashToggle p) s = .next s := by
  show execLampFlashToggle p s = _
  rw [execLampFlashToggle, h, Bool.and_false]
  rfl

/-- R139: the half period of a flashing pattern. -/
theorem tellTaleFlashToggle_eq (hp : s.powered = true) (hf : s.duty.pattern.flashes = true) :
    exec .tellTaleFlashToggle s
      = .next (if s.duty.pattern.halfMs ≤ s.duty.ttMs
          then s.setDuty { s.duty with ttOn := !s.duty.ttOn, ttMs := 0 } else s) := by
  show execTellTaleFlashToggle s = _
  simp [execTellTaleFlashToggle, onlyIf_next, hp, hf]

theorem tellTaleFlashToggle_of_steady (hf : s.duty.pattern.flashes = false) :
    exec .tellTaleFlashToggle s = .next s := by
  show execTellTaleFlashToggle s = _
  rw [execTellTaleFlashToggle, hf, Bool.and_false]
  rfl

theorem refreshLamps_get_of_active (h : s.modeCtl.mode = .active) :
    s.refreshLamps.lamps.get p = lampOf true (s.table.seats.get p).level (s.lamps.get p) := by
  rw [refreshLamps_get, h]
  rfl

end Lamps

/-- Settles O23: the two toggles by their half periods, and the lamps level by level. -/
theorem lampsFollowLevels : Obligations.LampsFollowLevels := by
  intro s
  refine ⟨fun hp p => ⟨fun on ms hl => ⟨fun h => ?_, fun h => ?_⟩, fun hl => ?_⟩, fun hp half hhalf => ?_, fun h => ?_,
    rfl, refreshLamps_off s, fun hm p => ⟨fun h => ?_, fun h => ?_, fun h hl => ?_, fun on ms h hl => ?_⟩⟩
  · rw [lampFlashToggle_of_over hp (by rw [hl]; exact decide_eq_true h), hl]
    rfl
  · exact lampFlashToggle_of_not_over (by rw [hl]; exact decide_eq_false (Nat.not_le.2 h))
  · exact lampFlashToggle_of_not_over (by rcases hl with hl | hl <;> rw [hl] <;> rfl)
  · obtain ⟨hf, rfl⟩ : s.duty.pattern.flashes = true ∧ s.duty.pattern.halfMs = half := by
      rcases hhalf with ⟨hpattern, rfl⟩ | ⟨hpattern, rfl⟩ <;> rw [hpattern] <;> exact ⟨rfl, rfl⟩
    rw [tellTaleFlashToggle_eq hp hf]
    exact ⟨fun h => congrArg _ (if_pos h), fun h => congrArg _ (if_neg (Nat.not_le.2 h))⟩
  · exact tellTaleFlashToggle_of_steady (by rcases h with h | h <;> rw [h] <;> rfl)
  · rw [refreshLamps_get_of_active hm, h]
    rfl
  · rw [refreshLamps_get_of_active hm]
    rcases h with h | h | h <;> rw [h] <;> rfl
  · rw [refreshLamps_get_of_active hm, h]
    rcases hl with hl | hl <;> rw [hl] <;> rfl
  · rw [refreshLamps_get_of_active hm, h, hl]
    rfl

end Sys2Proof.Machine

namespace Sys2Proof.Machine

/-! ### The table of a reminder that becomes due (R89, R90) -/

section BecomeDue

variable {r : Record} {env : LadderEnv} {belt : BeltState}

/-- R89: at speed the origin MOVED or UNTRACED, or a belt worn before, leaves no grace. -/
theorem getsNoGraceAtSpeed_iff :
    r.getsNoGraceAtSpeed = true ↔ r.everBuckled = true ∨ r.origin = .untraced ∨ ∃ tag, r.origin = .moved tag := by
  cases h : r.origin <;> simp [Record.getsNoGraceAtSpeed, h]

theorem becomeDue_of_noGraceAtSpeed (hs : env.atSpeed = true) (h : r.getsNoGraceAtSpeed = true) :
    r.becomeDue env = r.toLevel2 env := by
  simp [Record.becomeDue, hs, h]

theorem becomeDue_of_freshAtSpeed (hs : env.atSpeed = true) (h : r.getsNoGraceAtSpeed = false) :
    r.becomeDue env = r.toLevel1 env := by
  simp [Record.becomeDue, hs, h]

theorem becomeDue_of_graceUsed (hs : env.atSpeed = false) (h : r.graceUsed = true) :
    r.becomeDue env = r.atLevel .level1 := by
  simp [Record.becomeDue, hs, h, toLevel1_of_slow]

theorem becomeDue_of_graceLeft (hs : env.atSpeed = false) (h : r.graceUsed = false) :
    r.becomeDue env = r.toGrace env := by
  simp [Record.becomeDue, hs, h]

/-- R90: with T_grace at 0 a grace gives way at once. -/
theorem toGrace_of_atOnce (hs : env.atSpeed = false) (ht : env.conf.tGrace = 0) :
    r.toGrace env = { r with graceUsed := true }.atLevel .level1 := by
  simp [Record.toGrace, ht, Record.leaveGrace, toLevel1_of_slow hs]

theorem toGrace_of_pos (ht : 0 < env.conf.tGrace) :
    r.toGrace env = { r.atLevel .grace with graceTimer := .running 0 } := if_neg ht.ne'

/-- R92, R94: the level an entry into LEVEL_2 leaves. -/
theorem toLevel2_level : (r.toLevel2 env).level = if env.conf.chimeLimit ≤ r.chimeUsed then .spent else .level2 :=
  apply_ite Record.level ..

/-- R87: a kind NONE, a belt that is not open or an ignition that is not ON makes no reminder due. -/
theorem not_isDue {kind : ReminderKind} {ignitionOn : Bool}
    (h : kind = .none ∨ belt = .buckled ∨ belt = .notFitted ∨ ignitionOn = false) :
    isDue kind belt ignitionOn = false := by
  rcases h with rfl | rfl | rfl | rfl <;> simp [isDue, BeltState.unfastened]

end BecomeDue

/-! ### The reminder kind (R85) -/

theorem reminderKind_of_class {cls : Cls} (h : cls ≠ .csOccupied) (tag : Option TagPart) :
    reminderKind cls tag = .occupant := if_neg h

theorem reminderKind_of_booster {g : TagPart} (h : g.type = .booster) :
    reminderKind .csOccupied (some g) = .occupant := by
  simp [reminderKind, h]

theorem reminderKind_of_restraint {g : TagPart} (h : g.type ≠ .booster) :
    reminderKind .csOccupied (some g) = if g.anchor = .belt then .secure else .none := by
  cases ht : g.type with
  | booster => exact absurd ht h
  | infantRear => cases ha : g.anchor <;> simp [reminderKind, ht, ha]
  | childForward => cases ha : g.anchor <;> simp [reminderKind, ht, ha]

/-- R87: the ignition of the ladders' surroundings, as the obligations write it. -/
theorem ladderEnv_eq (s : State) :
    s.ladderEnv
      = { conf := s.config.running, atSpeed := s.atSpeed, ignitionOn := decide (s.vehicle.ignition = .on) } := by
  simp [State.ladderEnv, State.ignitionOn, Vehicle.effIgnition, beq_eq_decide]

/-- Settles O20: the table row by row, step 4 seat by seat, and the reminder kinds. -/
theorem dueReminderLeavesQuiet : Obligations.DueReminderLeavesQuiet := by
  refine ⟨fun env belt r => ⟨fun hq hk hb hi => ?_, fun h => evaluate_of_notDue (not_isDue h), fun hq hk hb hi => ?_⟩,
    fun s => ⟨rfl, fun p => ⟨?_, ?_⟩⟩, fun cls tag h => reminderKind_of_class h tag, rfl,
    fun g => ⟨reminderKind_of_booster, reminderKind_of_restraint⟩⟩
  · rw [evaluate_of_becomesDue ((isDue_iff ..).2 ⟨hk, hb, hi⟩) hq]
    refine ⟨fun hs hg => ?_, fun hs he hu hm => ?_, fun hs hg => ?_, fun hs hg => ?_⟩
    · rw [becomeDue_of_noGraceAtSpeed hs (getsNoGraceAtSpeed_iff.2 hg)]
      refine ⟨fun hc => ?_, fun hc => ?_⟩
      · rw [toLevel2_of_lt hc]
        exact ⟨rfl, rfl⟩
      · rw [toLevel2_of_le hc]
        rfl
    · have hg : r.getsNoGraceAtSpeed = false :=
        Bool.eq_false_iff.2 (mt getsNoGraceAtSpeed_iff.1 (by simp [he, hu, hm]))
      rw [becomeDue_of_freshAtSpeed hs hg]
      refine ⟨fun ht => ?_, fun ht => ?_⟩
      · rw [toLevel1_of_fast hs ht.ne']
        exact ⟨rfl, rfl⟩
      · rw [toLevel1_of_atOnce hs ht, toLevel2_level]
    · rw [becomeDue_of_graceLeft hs hg]
      refine ⟨fun ht => ?_, fun ht => ?_⟩
      · rw [toGrace_of_pos ht]
        exact ⟨rfl, rfl, hg⟩
      · rw [toGrace_of_atOnce hs ht]
        exact ⟨rfl, rfl⟩
    · rw [becomeDue_of_graceUsed hs hg]
      exact ⟨rfl, rfl⟩
  · exact evaluate_of_staysDue ((isDue_iff ..).2 ⟨hk, hb, hi⟩) hq
  · rw [ladderStep_seats_get]
    rfl
  · rw [ladderStep_recordAt, ladderEnv_eq]
    rfl

end Sys2Proof.Machine

namespace Sys2Proof.Machine

/-! ### Securing states that stand as they were -/

/-- The securing states of t are those of s. -/
def State.KeepsSecuring (s t : State) : Prop :=
  ∀ p, (t.table.seats.get p).securing = (s.table.seats.get p).securing

section KeepsSecuring

variable {s t u : State}

theorem State.KeepsSecuring.trans (h : s.KeepsSecuring t) (h' : t.KeepsSecuring u) : s.KeepsSecuring u :=
  fun p => (h' p).trans (h p)

theorem keepsSecuring_of_table (h : t.table = s.table) : s.KeepsSecuring t := fun _ => by rw [h]

theorem keepsSecuring_mapSeats {f : Pos → Seat → Seat} (hf : ∀ p seat, (f p seat).securing = seat.securing) :
    s.KeepsSecuring (s.mapSeats f) := fun p => by
  simpa [State.mapSeats] using hf p (s.table.seats.get p)

variable (s)

theorem keepsSecuring_of_set {p : Pos} {seat : Seat} (ht : t.table.seats = s.table.seats.set p seat)
    (hseat : seat.securing = (s.table.seats.get p).securing) : s.KeepsSecuring t := fun q => by
  rw [ht, Four.get_set]
  split
  · next hq => rw [hseat, hq]
  · rfl

theorem updateRecord_keepsSecuring (p : Pos) (f : Record → Record) : s.KeepsSecuring (s.updateRecord p f) :=
  keepsSecuring_of_set s rfl rfl

theorem arrive_keepsSecuring (p : Pos) (fromUnscanned : Bool) : s.KeepsSecuring (s.arrive p fromUnscanned) := by
  obtain ⟨o, ho⟩ := arrive_seats s p fromUnscanned
  exact keepsSecuring_of_set s ho rfl

theorem depart_keepsSecuring (p : Pos) : s.KeepsSecuring (s.depart p) :=
  keepsSecuring_of_set s (depart_seats s p) rfl

theorem takeSeatChange_keepsSecuring (p : Pos) (change : SeatChange) :
    s.KeepsSecuring (s.takeSeatChange p change) := by
  cases change with
  | none => exact keepsSecuring_of_table rfl
  | arrival fromUnscanned => exact arrive_keepsSecuring s p fromUnscanned
  | departure => exact depart_keepsSecuring s p
  | classChange => exact updateRecord_keepsSecuring s p _
  | exchange => exact (depart_keepsSecuring s p).trans (arrive_keepsSecuring _ p false)

theorem takeClasses_keepsSecuring (before : Four Cls) (test : Bool) : s.KeepsSecuring (s.takeClasses before test) :=
  List.foldlRecOn positionsInOrder _ (motive := s.KeepsSecuring) (keepsSecuring_of_table rfl) fun t ht p _ =>
    ht.trans (takeSeatChange_keepsSecuring t p _)

/-- Of the steps of a completion, step 3 leaves the securing states. -/
theorem tableStep_keepsSecuring (before : Four Cls) (test : Bool) (o : SensingOutcome) :
    s.KeepsSecuring (s.tableStep before test o) := by
  have hbelts : ∀ t : State, t.KeepsSecuring (t.takeBelts o.beltChanged) := fun t =>
    keepsSecuring_mapSeats fun p seat => by split <;> rfl
  refine (takeClasses_keepsSecuring s before test).trans ((hbelts _).trans fun p => ?_)
  simp [State.tableStep]

/-- Step 2 leaves them. -/
theorem classifiedBy_keepsSecuring (number : Word16) (test : Bool) (tagAt : Option Pos) (r : SweepReadings) :
    s.KeepsSecuring (s.classifiedBy number test tagAt r) := fun p => by
  unfold State.classifiedBy State.classifierStep
  split <;> simp [State.mapSeats]

theorem vacantStep_keepsSecuring : s.KeepsSecuring s.vacantStep := by
  unfold State.vacantStep
  repeat' split
  · exact keepsSecuring_of_table rfl
  · obtain ⟨-, -, -, htable, -, -⟩ := enterStandby_writes s
    exact fun p => by rw [htable, Four.get_map]
  all_goals exact keepsSecuring_of_table rfl

theorem wakeOthers_keepsSecuring (ownChange : Bool) : s.KeepsSecuring (s.wakeOthers ownChange) :=
  keepsSecuring_of_table (by simp)

theorem endAlertsByClass_keepsSecuring : s.KeepsSecuring s.endAlertsByClass := fun p => by
  rw [endAlertsByClass_eq, alertsEnded_seats_get]
  split <;> rfl

/-- Step 6 leaves them. -/
theorem modeStep_keepsSecuring (c : OwnChanges) : s.KeepsSecuring (s.modeStep c) := by
  have hwatch : ∀ (t : State) ownChange, t.KeepsSecuring (t.watchStep ownChange) := fun t ownChange => by
    unfold State.watchStep
    split
    · exact (vacantStep_keepsSecuring t).trans (wakeOthers_keepsSecuring _ ownChange)
    · exact (wakeOthers_keepsSecuring t ownChange).trans (vacantStep_keepsSecuring _)
  have hmoved : s.endAlertsByClass.KeepsSecuring
      ((s.endAlertsByClass.idleStep (c.cls || c.belt)).latchReason c.latch).testLeftBehind :=
    keepsSecuring_of_table (by simp)
  exact (endAlertsByClass_keepsSecuring s).trans (hmoved.trans (hwatch _ _))

end KeepsSecuring

/-! ### What a completion makes of a securing state (R86, R96) -/

section Completion

variable (s : State) (number : Word16) (test : Bool) (tagAt : Option Pos) (r : SweepReadings) (p : Pos)

/-- R29: the completion once its step 3 is done. -/
def State.afterStepThree : State :=
  (s.classifiedBy number test tagAt r).tableStep (s.table.seats.map Seat.cls) test
    (sense s.config.running number test tagAt r s.sfe)

theorem beforeStepSix_eq_ladderStep :
    s.beforeStepSix number test tagAt r = (s.afterStepThree number test tagAt r).ladderStep.reportStep := rfl

@[simp] theorem afterStepThree_ignitionOn : (s.afterStepThree number test tagAt r).ignitionOn = s.ignitionOn := by
  simp [State.ignitionOn, State.afterStepThree, State.classifiedBy]

theorem afterStepThree_keepsSecuring : s.KeepsSecuring (s.afterStepThree number test tagAt r) :=
  (classifiedBy_keepsSecuring s number test tagAt r).trans (tableStep_keepsSecuring _ _ test _)

/-- Steps 4 to 7 leave the settled classes as step 3 has them. -/
theorem completeSweep_cls :
    ((s.completeSweep number test tagAt r).table.seats.get p).cls
      = ((s.afterStepThree number test tagAt r).table.seats.get p).cls := by
  have hkept := congrArg (Four.get · p) ((completeSweep_keepsCls s number test tagAt r).trans
    (tableStep_keepsCls _ (s.table.seats.map Seat.cls) test (sense s.config.running number test tagAt r s.sfe)).symm)
  simpa only [Four.get_map, State.afterStepThree] using hkept

/-- Steps 4 to 7 leave what was sensed. -/
theorem completeSweep_positions :
    (s.completeSweep number test tagAt r).sfe.positions = (s.afterStepThree number test tagAt r).sfe.positions := by
  simp [completeSweep_eq_modeStep, beforeStepSix_eq_ladderStep]

/-- R86, R96: the table of securing states by the class and the tag view a completion leaves, at the level of R96. -/
theorem completeSweep_securing :
    ((s.completeSweep number test tagAt r).table.seats.get p).securing
      = (securingAfter ((s.completeSweep number test tagAt r).table.seats.get p).cls
            ((s.completeSweep number test tagAt r).sfe.positions.get p).tagView
            (s.table.seats.get p).securing).map
          fun _ => securingLevel ((s.completeSweep number test tagAt r).sfe.positions.get p).belt s.ignitionOn := by
  have hreport : (s.afterStepThree number test tagAt r).ladderStep.KeepsSecuring
      (s.beforeStepSix number test tagAt r) :=
    keepsSecuring_of_table (by simp [beforeStepSix_eq_ladderStep])
  have hsix := (hreport.trans (modeStep_keepsSecuring _ (s.changesBy number test tagAt r))) p
  rw [completeSweep_cls, completeSweep_positions, ← afterStepThree_ignitionOn s number test tagAt r,
    ← afterStepThree_keepsSecuring s number test tagAt r p]
  refine hsix.trans ?_
  rw [ladderStep_seats_get]
  rfl

end Completion

section SecuringAfter

variable {cls : Cls} {view : TagView} {before : Option Level}

theorem securingAfter_of_occupied (h : cls ≠ .csEmpty) : securingAfter cls view before = none := if_neg h

theorem securingAfter_of_absent (h : ∀ g, view ≠ .present g) : securingAfter .csEmpty view before = before := by
  cases view with
  | present g => exact absurd rfl (h g)
  | none => rfl
  | unclear => rfl

/-- R86: a belt-anchored infant or child restraint needs securing. -/
theorem needsSecuring_iff (g : TagRecord) :
    g.needsSecuring = true ↔ (g.type = .infantRear ∨ g.type = .childForward) ∧ g.anchor = .belt := by
  cases h : g.type <;> simp [TagRecord.needsSecuring, h]

theorem securingAfter_of_needing {g : TagRecord} (h : g.needsSecuring = true) :
    securingAfter .csEmpty (.present g) before = some (before.getD .quiet) := by
  simp [securingAfter, h]

theorem securingAfter_of_other {g : TagRecord} (h : g.needsSecuring = false) :
    securingAfter .csEmpty (.present g) before = none := by
  simp [securingAfter, h]

end SecuringAfter

/-- R87, R96: the level of a securing state, as the obligations write it. -/
theorem securingLevel_eq (s : State) (belt : BeltState) :
    securingLevel belt s.ignitionOn
      = if (belt = .unbuckled ∨ belt = .fault) ∧ s.vehicle.ignition = .on then .level1 else .quiet := by
  have hon : s.ignitionOn = true ↔ s.vehicle.ignition = .on := by simp [State.ignitionOn, Vehicle.effIgnition]
  split
  · next h => exact securingLevel_of_due (h.imp_right hon.2)
  · next h => exact securingLevel_of_notDue (h ∘ And.imp_right hon.1)

/-- Settles O21: a completion by the table of securing states; a seat that keeps one is empty, so holds no record. -/
theorem securingStates : Obligations.SecuringStates := by
  refine ⟨fun s r number test tagAt ms p hp hf => ?_, fun s => rfl⟩
  have hsecuring := completeSweep_securing s number test tagAt r p
  generalize ht : s.completeSweep number test tagAt r = t at hsecuring
  rw [securingLevel_eq] at hsecuring
  refine ⟨t, _, (sweepCompletion_of_periodic hp hf).trans (by rw [ht]), rfl, fun hc => ?_, fun hc => ⟨fun g hg => ?_,
    fun hg => ?_⟩, fun hfit hstands => ?_⟩
  · rw [hsecuring, securingAfter_of_occupied hc, Option.map_none]
  · rw [hc, hg] at hsecuring
    rw [hsecuring, ← needsSecuring_iff]
    refine ⟨fun hneeds => ?_, fun hneeds => ?_⟩
    · rw [securingAfter_of_needing hneeds, Option.map_some]
    · rw [securingAfter_of_other (Bool.eq_false_iff.2 hneeds), Option.map_none]
  · rw [hsecuring, hc, securingAfter_of_absent hg]
    refine ⟨fun hnone => by rw [hnone, Option.map_none], fun hsome => ?_⟩
    obtain ⟨level, hlevel⟩ := Option.ne_none_iff_exists'.1 hsome
    rw [hlevel, Option.map_some]
  · have hempty : (t.table.seats.get p).cls = .csEmpty := by
      by_contra hc
      exact hstands (by rw [hsecuring, securingAfter_of_occupied hc, Option.map_none])
    obtain ⟨hsome, -⟩ := (ht ▸ hfit.completeSweep number test tagAt r : t.RecordsFit) p
    rw [hempty] at hsome
    exact Option.isNone_iff_eq_none.1 (Option.isSome_eq_false_iff.1 hsome)

end Sys2Proof.Machine

namespace Sys2Proof.Machine

/-! ### Alerts alone (R193) -/

/-- Of the seat only the alert of its record has moved. -/
def Seat.MovesAlert (a b : Seat) : Prop :=
  ∃ alert : Record → Alert, b = { a with record := a.record.map fun r => { r with alert := alert r } }

/-- Of the seats only alerts have moved. -/
def State.MovesAlerts (s t : State) : Prop := ∀ p, (s.table.seats.get p).MovesAlert (t.table.seats.get p)

theorem seat_movesAlert_refl (a : Seat) : a.MovesAlert a := ⟨Record.alert, by cases h : a.record <;> simp [← h]⟩

theorem Seat.MovesAlert.trans {a b c : Seat} (h : a.MovesAlert b) (h' : b.MovesAlert c) : a.MovesAlert c := by
  obtain ⟨first, rfl⟩ := h
  obtain ⟨second, rfl⟩ := h'
  exact ⟨fun r => second { r with alert := first r }, by simp [Function.comp_def]⟩

section MovesAlerts

variable {s t u : State}

theorem State.MovesAlerts.trans (h : s.MovesAlerts t) (h' : t.MovesAlerts u) : s.MovesAlerts u :=
  fun p => (h p).trans (h' p)

theorem movesAlerts_of_table (h : t.table = s.table) : s.MovesAlerts t := fun p => by
  rw [h]
  exact seat_movesAlert_refl _

variable (s)

theorem setAlert_movesAlerts (p : Pos) (after : Alert) :
    s.MovesAlerts (s.updateRecord p fun r => { r with alert := after }) := fun q => by
  simp only [State.updateRecord, State.updateSeat, setTable_table, Four.get_set]
  split
  · next hq => exact hq ▸ ⟨fun _ => after, rfl⟩
  · exact seat_movesAlert_refl _

theorem endAlert_movesAlerts (p : Pos) (after : Alert) : s.MovesAlerts (s.endAlert p after) := by
  unfold State.endAlert
  repeat' split
  · exact (setAlert_movesAlerts s p after).trans (movesAlerts_of_table (by simp))
  all_goals exact movesAlerts_of_table rfl

theorem acknowledgeAlerts_movesAlerts : s.MovesAlerts s.acknowledgeAlerts :=
  List.foldlRecOn positionsInOrder _ (motive := s.MovesAlerts) (movesAlerts_of_table rfl) fun t ht p _ =>
    ht.trans (endAlert_movesAlerts t p _)

theorem ignitionBecameOn_movesAlerts : s.MovesAlerts s.ignitionBecameOn := by
  refine (acknowledgeAlerts_movesAlerts s).trans ?_
  unfold State.ignitionBecameOn
  dsimp only
  split <;> exact movesAlerts_of_table (by simp)

theorem acknowledge_movesAlerts (set : Bool) : s.MovesAlerts (s.acknowledge set) := by
  unfold State.acknowledge
  split
  · exact acknowledgeAlerts_movesAlerts s
  · exact movesAlerts_of_table rfl

/-- R178: once the ladders have taken a change, the move matcher and the mode controller move alerts alone. -/
theorem takeVehicleChange_movesAlerts (ch : VehicleChange) :
    (s.laddersTaken ch).MovesAlerts (s.takeVehicleChange ch) := by
  have hlist : (s.laddersTaken ch).MovesAlerts
      ((s.laddersTaken ch).setDepartures (if ch.tripEnded then [] else s.departures)) := movesAlerts_of_table (by simp)
  unfold State.takeVehicleChange
  dsimp only
  split
  · exact hlist.trans (ignitionBecameOn_movesAlerts _)
  · split
    · exact hlist.trans (movesAlerts_of_table (by simp [State.laddersTaken]))
    · exact hlist

end MovesAlerts

/-! ### What a vehicle event leaves at every seat (R88, R178) -/

/-- R178: the changes of the effective values from s to t. -/
def State.changeTo (s t : State) : VehicleChange := vehicleChange s.config.running s.vehicle t.vehicle

/-- R88: from s to t every ladder has taken the changes of the effective values, and beside that only alerts have
moved. -/
def State.TakesVehicleData (s t : State) : Prop :=
  t.config = s.config ∧ ∀ p, ((s.table.seats.get p).vehicleEvents t.ladderEnv (s.changeTo t)
    (s.sfe.positions.get p).belt).MovesAlert (t.table.seats.get p)

section TakesVehicleData

variable {s t u : State}

theorem State.TakesVehicleData.movesAlerts (h : s.TakesVehicleData t) (hm : t.MovesAlerts u)
    (hkeeps : u.config = t.config ∧ u.vehicle = t.vehicle) : s.TakesVehicleData u := by
  obtain ⟨hconf, hseats⟩ := h
  obtain ⟨hc, hv⟩ := hkeeps
  have henv : u.ladderEnv = t.ladderEnv := by
    rw [State.ladderEnv, State.atSpeed, State.effSpeed, State.ignitionOn, hc, hv]
    rfl
  refine ⟨hc.trans hconf, fun p => ?_⟩
  rw [henv, State.changeTo, hv]
  exact (hseats p).trans (hm p)

variable (s)

/-- Where the effective values stay, nothing moves. -/
theorem takesVehicleData_of_same (h : t.table = s.table) (hkeeps : t.config = s.config ∧ t.vehicle = s.vehicle) :
    s.TakesVehicleData t := by
  refine ⟨hkeeps.1, fun p => ?_⟩
  have hnone : (s.table.seats.get p).vehicleEvents t.ladderEnv (s.changeTo t) (s.sfe.positions.get p).belt
      = s.table.seats.get p := by
    cases hi : s.vehicle.ignition <;>
      simp [Seat.vehicleEvents, State.changeTo, vehicleChange, hkeeps.2, Vehicle.effIgnition, hi]
  rw [hnone, h]
  exact seat_movesAlert_refl _

theorem laddersTaken_takesVehicleData (after : Vehicle) (trip : Bool) :
    s.TakesVehicleData ((s.setVehicle { after with trip := trip }).laddersTaken
      (vehicleChange s.config.running s.vehicle after)) := by
  refine ⟨rfl, fun p => ?_⟩
  simp only [State.laddersTaken, State.mapSeats, setTable_table, Four.get_ofFn]
  exact seat_movesAlert_refl _

theorem deriveVehicle_takesVehicleData (after : Vehicle) : s.TakesVehicleData (s.deriveVehicle after) := by
  have htaken := fun trip => (laddersTaken_takesVehicleData s after trip).movesAlerts
    (takeVehicleChange_movesAlerts _ _) (by simp [State.laddersTaken, State.mapSeats])
  have houtputs : ∀ t : State, t.MovesAlerts t.refreshOutputs := fun t => movesAlerts_of_table (by simp)
  exact (htaken _).movesAlerts (houtputs _) (by simp [State.deriveVehicle])

theorem takeVehicle_takesVehicleData (f : VehicleFrame) : s.TakesVehicleData (s.takeVehicle f) := by
  have hderived := deriveVehicle_takesVehicleData s (s.vehicle.take f)
  have hdoor : ∀ t : State, t.MovesAlerts (t.doorReport f.doorOpen) := fun t => movesAlerts_of_table (by simp)
  unfold State.takeVehicle
  exact (hderived.movesAlerts (hdoor _) (by simp)).movesAlerts (acknowledge_movesAlerts _ f.acknowledge) (by simp)

theorem vehicleFrom_takesVehicleData (n : StationNo) (payload : List Byte) :
    s.TakesVehicleData (s.vehicleFrom n payload) := by
  unfold State.vehicleFrom
  split
  · exact takeVehicle_takesVehicleData s _
  · exact takesVehicleData_of_same s (by simp) (by simp)

/-- R175, R176: a VEHICLE frame handled and the loss of vehicle data do this to the ladders, and nothing else. -/
theorem exec_takesVehicleData {i : Instr} (hi : i = .vehicleHandled ∨ i = .vehicleDataLost) (h : exec i s = .next t) :
    s.TakesVehicleData t := by
  obtain rfl | rfl := hi
  · cases hf : s.nextFrame .vehicle with
    | none =>
      obtain rfl : s = t := by simpa [exec, execVehicleHandled, State.handleFrame, hf] using h
      exact takesVehicleData_of_same s rfl ⟨rfl, rfl⟩
    | some f =>
      obtain rfl : (s.takeFrame f).vehicleFrom f.station f.payload = t :=
        Host.Outcome.next.inj
          ((handleFrame_taken s .vehicle (fun f s => s.vehicleFrom f.station f.payload) f hf).symm.trans h)
      exact vehicleFrom_takesVehicleData (s.takeFrame f) f.station f.payload
  · have ht := Host.Outcome.next.inj ((onlyIf_next _ _ s).symm.trans h)
    split at ht
    · exact ht ▸ deriveVehicle_takesVehicleData s _
    · exact ht ▸ takesVehicleData_of_same s rfl ⟨rfl, rfl⟩

end TakesVehicleData

end Sys2Proof.Machine

namespace Sys2Proof.Machine

/-! ### The changes between two states (R178) -/

section ChangeTo

variable {s t : State}

theorem changeTo_becameOn_iff :
    (s.changeTo t).becameOn = true ↔ s.vehicle.ignition ≠ .on ∧ t.vehicle.ignition = .on := by
  simp [State.changeTo, vehicleChange, Vehicle.effIgnition]

theorem changeTo_leftOn_iff :
    (s.changeTo t).leftOn = true ↔ s.vehicle.ignition = .on ∧ t.vehicle.ignition ≠ .on := by
  simp [State.changeTo, vehicleChange, Vehicle.effIgnition]

/-- R178: the ignition has become ON or left it. -/
theorem changeTo_ignition_iff :
    ((s.changeTo t).becameOn || (s.changeTo t).leftOn) = true
      ↔ ¬ (s.vehicle.ignition = .on ↔ t.vehicle.ignition = .on) := by
  rw [Bool.or_eq_true, changeTo_becameOn_iff, changeTo_leftOn_iff]
  tauto

theorem changeTo_tripEnded_iff :
    (s.changeTo t).tripEnded = true
      ↔ s.vehicle.trip = true ∧ s.vehicle.ignition ≠ .off ∧ t.vehicle.ignition = .off := by
  simp [State.changeTo, vehicleChange, Vehicle.effIgnition, and_comm]

theorem changeTo_speedRose (h : t.config = s.config) : (s.changeTo t).speedRose = (!s.atSpeed && t.atSpeed) := by
  rw [State.atSpeed, State.atSpeed, State.effSpeed, State.effSpeed, h]
  rfl

theorem changeTo_speedFell (h : t.config = s.config) : (s.changeTo t).speedFell = (s.atSpeed && !t.atSpeed) := by
  rw [State.atSpeed, State.atSpeed, State.effSpeed, State.effSpeed, h]
  rfl

end ChangeTo

/-! ### A ladder that stands as its speed has it (R91, R93) -/

/-- The record stands as the side of V_trip the surroundings are on has it. -/
def Record.FitsSpeed (env : LadderEnv) (r : Record) : Prop :=
  (env.atSpeed = true → r.speedRise env = r) ∧ (env.atSpeed = false → r.speedFall = r)

section FitsSpeed

variable (r : Record) (env : LadderEnv)

theorem speedRise_of_idle {r : Record} (h : r.level = .quiet ∨ r.level = .spent) : r.speedRise env = r := by
  rcases h with h | h <;> simp [Record.speedRise, h]

theorem speedFall_of_idle {r : Record} (h : r.level = .quiet ∨ r.level = .grace ∨ r.level = .spent) :
    r.speedFall = r := by
  rcases h with h | h | h <;> simp [Record.speedFall, h]

theorem fitsSpeed_of_idle {r : Record} (h : r.level = .quiet ∨ r.level = .spent) : r.FitsSpeed env :=
  ⟨fun _ => speedRise_of_idle env h, fun _ => speedFall_of_idle (h.imp_right .inr)⟩

theorem toLevel2_fitsSpeed : (r.toLevel2 env).FitsSpeed env := by
  obtain hc | hc := Nat.lt_or_ge r.chimeUsed env.conf.chimeLimit
  · rw [toLevel2_of_lt hc]
    exact ⟨fun hs => by simp [Record.speedRise, hs], fun hs => by simp [Record.speedFall, hs]⟩
  · rw [toLevel2_of_le hc]
    exact fitsSpeed_of_idle env (.inr rfl)

theorem toLevel1_fitsSpeed : (r.toLevel1 env).FitsSpeed env := by
  cases hs : env.atSpeed with
  | false =>
    rw [toLevel1_of_slow hs]
    exact ⟨fun hfast => absurd (hs.symm.trans hfast) (by decide), fun _ => rfl⟩
  | true =>
    by_cases ht : env.conf.tL1 = 0
    · rw [toLevel1_of_atOnce hs ht]
      exact toLevel2_fitsSpeed r env
    · rw [toLevel1_of_fast hs ht]
      exact ⟨fun _ => toLevel1_of_fast hs ht, fun hslow => absurd (hs.symm.trans hslow) (by decide)⟩

theorem becomeDue_fitsSpeed : (r.becomeDue env).FitsSpeed env := by
  cases hs : env.atSpeed with
  | false =>
    cases hg : r.graceUsed with
    | true =>
      rw [becomeDue_of_graceUsed hs hg, ← toLevel1_of_slow hs]
      exact toLevel1_fitsSpeed r env
    | false =>
      rw [becomeDue_of_graceLeft hs hg]
      obtain ht | ht := Nat.eq_zero_or_pos env.conf.tGrace
      · rw [toGrace_of_atOnce hs ht, ← toLevel1_of_slow hs]
        exact toLevel1_fitsSpeed _ env
      · rw [toGrace_of_pos ht]
        exact ⟨fun hfast => absurd (hs.symm.trans hfast) (by decide), fun _ => rfl⟩
  | true =>
    cases hg : r.getsNoGraceAtSpeed with
    | true =>
      rw [becomeDue_of_noGraceAtSpeed hs hg]
      exact toLevel2_fitsSpeed r env
    | false =>
      rw [becomeDue_of_freshAtSpeed hs hg]
      exact toLevel1_fitsSpeed r env

/-- R89: a ladder evaluated from QUIET has taken the speed into account already. -/
theorem evaluate_fitsSpeed {r : Record} (belt : BeltState) (h : r.level = .quiet) :
    (r.evaluate env belt).FitsSpeed env := by
  cases hd : isDue r.kind belt env.ignitionOn with
  | false =>
    rw [evaluate_of_notDue hd]
    exact fitsSpeed_of_idle env (.inl rfl)
  | true =>
    rw [evaluate_of_becomesDue hd h]
    exact becomeDue_fitsSpeed r env

theorem speedRise_of_grace {r : Record} (h : r.level = .grace) :
    r.speedRise env = { r with graceUsed := true }.toLevel1 env := by
  simp only [Record.speedRise, Record.leaveGrace, h]

theorem speedRise_of_level1 {r : Record} (h : r.level = .level1) : r.speedRise env = r.toLevel1 env := by
  simp only [Record.speedRise, h]

/-- R91: a rise out of GRACE or LEVEL_1 enters LEVEL_1, with grace used where it was GRACE. -/
theorem speedRise_of_grace_or_level1 {r : Record} (h : r.level = .grace ∨ r.level = .level1) :
    r.speedRise env = { r with graceUsed := r.graceUsed || decide (r.level = Level.grace) }.toLevel1 env := by
  rcases h with h | h
  · rw [speedRise_of_grace env h, decide_eq_true h, Bool.or_true]
  · rw [speedRise_of_level1 env h, decide_eq_false (by simp [h]), Bool.or_false]

section Rise

variable {r : Record} {env : LadderEnv} (hlevel : r.level = .grace ∨ r.level = .level1) (hs : env.atSpeed = true)
include hlevel hs

/-- R91: at the rise the escalation timer starts. -/
theorem speedRise_of_pos (ht : 0 < env.conf.tL1) :
    r.speedRise env = { r with
      level := .level1, graceUsed := r.graceUsed || decide (r.level = .grace), graceTimer := .stopped
      escalation := .running 0, chimeTimer := .stopped, slowTimer := .stopped } := by
  rw [speedRise_of_grace_or_level1 env hlevel, toLevel1_of_fast hs ht.ne']
  rfl

/-- R91, R92: with T_l1 at 0 the rise goes on to LEVEL_2. -/
theorem speedRise_of_atOnce_of_lt (ht : env.conf.tL1 = 0) (hc : r.chimeUsed < env.conf.chimeLimit) :
    r.speedRise env = { r with
      level := .level2, graceUsed := r.graceUsed || decide (r.level = .grace), graceTimer := .stopped
      escalation := .stopped, chimeTimer := .running 0, slowTimer := .stopped } := by
  rw [speedRise_of_grace_or_level1 env hlevel, toLevel1_of_atOnce hs ht, toLevel2_of_lt (by exact hc), if_pos hs]

/-- R91, R94: with T_l1 at 0 and no chime time left the rise goes on to SPENT. -/
theorem speedRise_of_atOnce_of_le (ht : env.conf.tL1 = 0) (hc : env.conf.chimeLimit ≤ r.chimeUsed) :
    r.speedRise env = { r with
      level := .spent, graceUsed := r.graceUsed || decide (r.level = .grace), graceTimer := .stopped
      escalation := .stopped, chimeTimer := .stopped, slowTimer := .stopped } := by
  rw [speedRise_of_grace_or_level1 env hlevel, toLevel1_of_atOnce hs ht, toLevel2_of_le (by exact hc)]
  rfl

end Rise

theorem speedRise_of_level2 {r : Record} (h : r.level = .level2) :
    r.speedRise env = { r with slowTimer := .stopped } := by
  simp [Record.speedRise, h]

theorem speedFall_of_level1 {r : Record} (h : r.level = .level1) : r.speedFall = { r with escalation := .stopped } := by
  simp [Record.speedFall, h]

theorem speedFall_of_level2 {r : Record} (h : r.level = .level2) :
    r.speedFall = { r with slowTimer := .running 0 } := by
  simp [Record.speedFall, h]

end FitsSpeed

/-! ### What the changes do to a record and to a securing state (R88, R96, R101) -/

section Events

variable {s t : State} {r : Record} {belt : BeltState} {env : LadderEnv} {ch : VehicleChange}

/-- R101: whatever the other changes of the frame, a trip end leaves what it gives. -/
theorem vehicleEvents_of_tripEnded (h : ch.tripEnded = true) : r.vehicleEvents env ch belt = r.tripEnd belt := by
  rw [Record.vehicleEvents, Record.tripEvent, if_pos h]
  exact (moved_trans (ignitionEvent_moved env ch belt r) (speedEvent_moved env ch _)).tripEnd_eq belt

theorem vehicleEvents_of_goesOn (h : ¬ ch.tripEnded = true) :
    r.vehicleEvents env ch belt = (r.ignitionEvent env ch belt).speedEvent env ch := by
  rw [Record.vehicleEvents, Record.tripEvent, if_neg h]

theorem speedEvent_of_quiet (h : r.level = .quiet) : r.speedEvent env ch = r := by
  unfold Record.speedEvent
  rw [speedRise_of_idle env (.inl h), speedFall_of_idle (.inl h), ite_self, ite_self]

theorem speedEvent_of_fitsSpeed (h : r.FitsSpeed env) (hrose : ch.speedRose = true → env.atSpeed = true)
    (hfell : ch.speedFell = true → env.atSpeed = false) : r.speedEvent env ch = r := by
  obtain ⟨hrise, hfall⟩ := h
  unfold Record.speedEvent
  repeat' split
  · next hc => exact hrise (hrose hc)
  · next hc => exact hfall (hfell hc)
  · rfl

variable (s t r belt)

/-- R88: what the vehicle data make of a record from s to t. -/
def State.ladderTo : Record := r.vehicleEvents t.ladderEnv (s.changeTo t) belt

variable {s t r belt}

theorem ladderTo_of_tripEnded
    (h : s.vehicle.trip = true ∧ s.vehicle.ignition ≠ .off ∧ t.vehicle.ignition = .off) :
    s.ladderTo t r belt = r.tripEnd belt := vehicleEvents_of_tripEnded (changeTo_tripEnded_iff.2 h)

/-- R87: the ignition leaves ON short of a trip end. -/
theorem ladderTo_of_leftOn (hs : s.vehicle.ignition = .on) (ht : t.vehicle.ignition ≠ .on)
    (htrip : ¬ (s.vehicle.trip = true ∧ s.vehicle.ignition ≠ .off ∧ t.vehicle.ignition = .off)) :
    s.ladderTo t r belt = r.atLevel .quiet := by
  have hevent : r.ignitionEvent t.ladderEnv (s.changeTo t) belt = r.atLevel .quiet := by
    rw [Record.ignitionEvent, if_pos (changeTo_ignition_iff.2 fun h => ht (h.1 hs)), evaluate_of_notDue]
    exact not_isDue (.inr (.inr (.inr (beq_eq_false_iff_ne.2 ht))))
  rw [State.ladderTo, vehicleEvents_of_goesOn (htrip ∘ changeTo_tripEnded_iff.1), hevent]
  exact speedEvent_of_quiet rfl

theorem not_tripEnded_of_on (ht : t.vehicle.ignition = .on) : ¬ (s.changeTo t).tripEnded = true := fun h => by
  obtain ⟨-, -, hoff⟩ := changeTo_tripEnded_iff.1 h
  exact absurd (ht.symm.trans hoff) (by decide)

/-- R89: the ignition becomes ON while a reminder is at QUIET. -/
theorem ladderTo_of_becameOn (hconf : t.config = s.config) (hs : s.vehicle.ignition ≠ .on)
    (ht : t.vehicle.ignition = .on) (hq : r.level = .quiet) : s.ladderTo t r belt = r.evaluate t.ladderEnv belt := by
  have hevent : r.ignitionEvent t.ladderEnv (s.changeTo t) belt = r.evaluate t.ladderEnv belt :=
    if_pos (changeTo_ignition_iff.2 fun h => hs (h.2 ht))
  rw [State.ladderTo, vehicleEvents_of_goesOn (not_tripEnded_of_on ht), hevent]
  refine speedEvent_of_fitsSpeed (evaluate_fitsSpeed _ belt hq) (fun h => ?_) fun h => ?_
  · rw [changeTo_speedRose hconf] at h
    exact (Bool.and_eq_true_iff.1 h).2
  · rw [changeTo_speedFell hconf] at h
    exact Bool.not_eq_true' _ ▸ (Bool.and_eq_true_iff.1 h).2

/-- R88: where the ignition neither becomes ON nor leaves it, and no trip ends, the speed alone moves a ladder. -/
theorem ladderTo_of_speed (h : s.vehicle.ignition = .on ↔ t.vehicle.ignition = .on)
    (htrip : ¬ (s.changeTo t).tripEnded = true) :
    s.ladderTo t r belt = r.speedEvent t.ladderEnv (s.changeTo t) := by
  have hevent : r.ignitionEvent t.ladderEnv (s.changeTo t) belt = r := if_neg fun hc => changeTo_ignition_iff.1 hc h
  rw [State.ladderTo, vehicleEvents_of_goesOn htrip, hevent]

section WhileOn

variable (hconf : t.config = s.config) (hs : s.vehicle.ignition = .on) (ht : t.vehicle.ignition = .on)
include hconf hs ht

theorem ladderTo_of_sameSide (h : s.atSpeed = t.atSpeed) : s.ladderTo t r belt = r := by
  rw [ladderTo_of_speed (iff_of_true hs ht) (not_tripEnded_of_on ht), Record.speedEvent, changeTo_speedRose hconf,
    changeTo_speedFell hconf, h]
  simp

theorem ladderTo_of_rise (hslow : s.atSpeed = false) (hfast : t.atSpeed = true) :
    s.ladderTo t r belt = r.speedRise t.ladderEnv := by
  rw [ladderTo_of_speed (iff_of_true hs ht) (not_tripEnded_of_on ht), Record.speedEvent, changeTo_speedRose hconf,
    hslow, hfast]
  rfl

theorem ladderTo_of_fall (hfast : s.atSpeed = true) (hslow : t.atSpeed = false) :
    s.ladderTo t r belt = r.speedFall := by
  rw [ladderTo_of_speed (iff_of_true hs ht) (not_tripEnded_of_on ht), Record.speedEvent, changeTo_speedRose hconf,
    changeTo_speedFell hconf, hfast, hslow]
  rfl

end WhileOn

theorem securingEvents_of_tripEnded (level : Level) (h : ch.tripEnded = true) :
    securingEvents env ch belt level = .quiet := if_pos h

theorem securingEvents_of_goesOn (level : Level) (h : ¬ ch.tripEnded = true) :
    securingEvents env ch belt level
      = if ch.becameOn || ch.leftOn then securingLevel belt env.ignitionOn else level := if_neg h

/-- R88: at every position the record takes the vehicle data, its alert aside, and the securing state does. -/
theorem State.TakesVehicleData.seatAt (h : s.TakesVehicleData t) (p : Pos) :
    (t.table.seats.get p).securing
        = (s.table.seats.get p).securing.map
            (securingEvents t.ladderEnv (s.changeTo t) (s.sfe.positions.get p).belt)
      ∧ ∃ alert : Record → Alert, t.recordAt p = (s.recordAt p).map fun r =>
          { s.ladderTo t r (s.sfe.positions.get p).belt with
            alert := alert (s.ladderTo t r (s.sfe.positions.get p).belt) } := by
  obtain ⟨-, hseats⟩ := h
  obtain ⟨alert, hseat⟩ := hseats p
  rw [State.recordAt, hseat, seat_vehicleEvents_eq]
  exact ⟨rfl, alert, Option.map_map ..⟩

end Events

/-- Settles O22: each clause by the change of the effective values it names, taken by a record through
`State.ladderTo` and by a securing state through `securingEvents`. -/
theorem vehicleEventsMoveLadders : Obligations.VehicleEventsMoveLadders := by
  intro s t i p belt limit tripEnd due hi h hbelt htrip hdue
  have htaken := exec_takesVehicleData s hi h
  have hconf : t.config = s.config := htaken.1
  obtain ⟨hsecuring, alert, hrecord⟩ := htaken.seatAt p
  rw [← hbelt] at hsecuring hrecord
  rw [← securingLevel_eq t] at hdue
  refine ⟨fun hnone => by rw [hsecuring, hnone, Option.map_none], fun l hl => ?_,
    fun hnone => by rw [hrecord, hnone, Option.map_none], fun r hr hlimit => ?_⟩
  · rw [hsecuring, hl, Option.map_some, htrip, ← changeTo_tripEnded_iff]
    refine ⟨fun hended => ?_, fun hgoes hsame => ?_, fun hgoes hmoved => ?_⟩
    · rw [securingEvents_of_tripEnded l hended]
    · rw [securingEvents_of_goesOn l hgoes, if_neg fun hc => changeTo_ignition_iff.1 hc hsame]
    · rw [securingEvents_of_goesOn l hgoes, if_pos (changeTo_ignition_iff.2 hmoved), hdue]
      rfl
  · rw [hr, Option.map_some] at hrecord
    refine ⟨s.ladderTo t r belt, _, hrecord, fun hended => ?_, fun hs ht hgoes => ?_, fun hs ht hq => ?_,
      fun hs ht hgoes hq => ?_, fun hs ht => ⟨fun hside => ladderTo_of_sameSide hconf hs ht hside,
        fun hslow hfast => ?_, fun hfast hslow => ?_⟩⟩
    · rw [ladderTo_of_tripEnded (htrip.1 hended), Record.tripEnd, beq_eq_decide]
      rfl
    · exact ladderTo_of_leftOn hs ht (hgoes ∘ htrip.2)
    · rw [ladderTo_of_becameOn hconf hs ht hq, ladderEnv_eq, hconf, ht]
      rfl
    · rw [ladderTo_of_speed (iff_of_false hs ht) (hgoes ∘ htrip.2 ∘ changeTo_tripEnded_iff.1), speedEvent_of_quiet hq]
    · have hlimit' : limit ↔ t.ladderEnv.conf.chimeLimit ≤ r.chimeUsed := by
        rw [hlimit, ← hconf]
        rfl
      rw [ladderTo_of_rise hconf hs ht hslow hfast, ← hconf, hlimit']
      exact ⟨speedRise_of_idle _, speedRise_of_level2 _, fun hlevel => ⟨
        fun hlater => speedRise_of_pos hlevel hfast hlater,
        fun honce hbelow => speedRise_of_atOnce_of_lt hlevel hfast honce (Nat.lt_of_not_le hbelow),
        fun honce hreached => speedRise_of_atOnce_of_le hlevel hfast honce hreached⟩⟩
    · rw [ladderTo_of_fall hconf hs ht hfast hslow]
      exact ⟨speedFall_of_idle, speedFall_of_level1, speedFall_of_level2⟩

end Sys2Proof.Machine

namespace Sys2Proof.Machine

/-! ### How an entry joins the list (R109 to R111) -/

section JoinList

variable {list : List DepEntry} {e : DepEntry}

theorem any_tag_iff (list : List DepEntry) (tag : DepTag) :
    (list.any fun x => x.tag == tag) = true ↔ tag ∈ list.map DepEntry.tag := by
  simp [List.any_eq_true]

/-- R110: an entry whose tag is listed takes the place of the listed one. -/
theorem joinList_of_listed (h : e.tag ∈ list.map DepEntry.tag) :
    joinList list e = list.map fun d => if d.tag = e.tag then e else d := by
  simp only [joinList, (any_tag_iff list e.tag).2 h, if_true, beq_iff_eq]

/-- R111: a new tag joins at the tail of a list with room. -/
theorem joinList_of_room (h : e.tag ∉ list.map DepEntry.tag) (hroom : list.length < 8) :
    joinList list e = list ++ [e] := by
  rw [joinList, if_neg (h ∘ (any_tag_iff list e.tag).1), departureCapacity, if_pos hroom]

/-- R111: a new tag joins a full list at the tail, once the oldest entry has left. -/
theorem joinList_of_full (h : e.tag ∉ list.map DepEntry.tag) (hfull : 8 ≤ list.length) :
    joinList list e = list.tail ++ [e] := by
  rw [joinList, if_neg (h ∘ (any_tag_iff list e.tag).1), departureCapacity, if_neg (Nat.not_lt.2 hfull)]

theorem joinEvicts_iff (list : List DepEntry) (e : DepEntry) :
    joinEvicts list e = true ↔ e.tag ∉ list.map DepEntry.tag ∧ 8 ≤ list.length := by
  rw [joinEvicts, Bool.and_eq_true, Bool.not_eq_true', ← Bool.not_eq_true, any_tag_iff, departureCapacity,
    decide_eq_true_eq]

/-- R110, R111: the tags of a bounded list that an entry joins stay as they are, or the new tag joins at the end of at
most seven of them. -/
theorem joinList_tags (e : DepEntry) (hbound : list.length ≤ 8) :
    (joinList list e).map DepEntry.tag = list.map DepEntry.tag
      ∨ ∃ kept, e.tag ∉ list.map DepEntry.tag ∧ kept.Sublist (list.map DepEntry.tag) ∧ kept.length ≤ 7
          ∧ (joinList list e).map DepEntry.tag = kept ++ [e.tag] := by
  by_cases hlisted : e.tag ∈ list.map DepEntry.tag
  · left
    rw [joinList_of_listed hlisted, List.map_map]
    refine List.map_congr_left fun d _ => ?_
    simp only [Function.comp_apply]
    split
    · next h => exact h.symm
    · rfl
  · right
    by_cases hroom : list.length < 8
    · refine ⟨list.map DepEntry.tag, hlisted, .refl _, ?_, ?_⟩
      · rw [List.length_map]
        omega
      · rw [joinList_of_room hlisted hroom, List.map_append, List.map_singleton]
    · refine ⟨(list.map DepEntry.tag).tail, hlisted, List.tail_sublist _, ?_, ?_⟩
      · rw [List.length_tail, List.length_map]
        omega
      · rw [joinList_of_full hlisted (Nat.le_of_not_lt hroom), List.map_append, List.map_singleton, List.map_tail]

end JoinList

/-! ### The tags a station lists and holds (R107, R109) -/

/-- R109: the tag that the record of a seat holds as its origin, pending or settled. -/
def Seat.heldTag (seat : Seat) : Option DepTag := seat.record.bind Record.heldTag

theorem mem_heldTags_iff (s : State) (tag : DepTag) :
    tag ∈ s.heldTags ↔ ∃ p, (s.table.seats.get p).heldTag = some tag := by
  simp [State.heldTags, Seat.heldTag, State.recordAt, mem_positionsInOrder]

/-- R109: no tag is held at both positions. -/
def State.HoldDifferent (s : State) (p q : Pos) : Prop :=
  ∀ tag, (s.table.seats.get p).heldTag = some tag → (s.table.seats.get q).heldTag ≠ some tag

theorem heldTags_nodup_iff (s : State) : s.heldTags.Nodup ↔ ∀ p q, p ≠ q → s.HoldDifferent p q := by
  constructor
  · intro h p q hne
    have hsymm : Std.Symm s.HoldDifferent := ⟨fun _ _ hxy tag hy hx => hxy tag hx hy⟩
    have hpairs : positionsInOrder.Pairwise s.HoldDifferent :=
      (List.pairwise_filterMap.1 h).imp fun hxy tag hx hy => hxy tag hx tag hy rfl
    exact hpairs.forall (mem_positionsInOrder p) (mem_positionsInOrder q) hne
  · intro h
    refine List.Nodup.filterMap (fun p q tag hp hq => ?_) (by decide)
    by_contra hne
    exact h p q hne tag hp hq

/-- R107, R109, R111: what `ListBounded` and `State.TagsOnce` say, position by position. -/
structure State.TagsFit (s : State) : Prop where
  bounded : s.departures.length ≤ 8
  listed : (s.departures.map DepEntry.tag).Nodup
  alone : ∀ p q, p ≠ q → s.HoldDifferent p q
  unlisted : ∀ p tag, (s.table.seats.get p).heldTag = some tag → tag ∉ s.departures.map DepEntry.tag

theorem tagsFit_iff (s : State) : s.TagsFit ↔ ListBounded s.departures ∧ s.TagsOnce := by
  simp only [ListBounded, State.TagsOnce, List.nodup_append', List.disjoint_left, heldTags_nodup_iff, mem_heldTags_iff]
  constructor
  · rintro ⟨hbounded, hlisted, halone, hunlisted⟩
    exact ⟨⟨hbounded, hlisted⟩, hlisted, halone, fun tag hmem ⟨p, hp⟩ => hunlisted p tag hp hmem⟩
  · rintro ⟨⟨hbounded, hlisted⟩, -, halone, hdisjoint⟩
    exact ⟨hbounded, hlisted, halone, fun p tag hp hmem => hdisjoint hmem ⟨p, hp⟩⟩

/-! ### Tags kept from a state to a later one -/

/-- From s to t every tag stays listed once, or held once, in a list of at most 8. -/
def State.KeepsTags (s t : State) : Prop := s.TagsFit → t.TagsFit

section KeepsTags

variable {s t u : State}

theorem keepsTags_refl (s : State) : s.KeepsTags s := id

theorem State.KeepsTags.trans (h : s.KeepsTags t) (h' : t.KeepsTags u) : s.KeepsTags u := h' ∘ h

/-- Where no tag is listed or held that was not before, the tags stay as they should. -/
theorem keepsTags_of_fewer (hlisted : (t.departures.map DepEntry.tag).Sublist (s.departures.map DepEntry.tag))
    (hheld : ∀ p tag, (t.table.seats.get p).heldTag = some tag → (s.table.seats.get p).heldTag = some tag) :
    s.KeepsTags t := by
  rintro ⟨hbounded, hnodup, halone, hunlisted⟩
  refine ⟨?_, hnodup.sublist hlisted, fun p q hne tag hp hq => halone p q hne tag (hheld p tag hp) (hheld q tag hq),
    fun p tag hp hmem => hunlisted p tag (hheld p tag hp) (hlisted.subset hmem)⟩
  simpa only [List.length_map] using hlisted.length_le.trans ((List.length_map _).trans_le hbounded)

theorem keepsTags_of_same (h : t.table.seats = s.table.seats ∧ t.departures = s.departures) : s.KeepsTags t := by
  obtain ⟨hseats, hlist⟩ := h
  exact keepsTags_of_fewer (by rw [hlist]) fun p tag => by rw [hseats]; exact id

theorem State.KeepsTags.same (h : s.KeepsTags t) (hsame : u.table.seats = t.table.seats ∧ u.departures = t.departures) :
    s.KeepsTags u := h.trans (keepsTags_of_same hsame)

theorem State.KeepsTags.after_same (h : t.KeepsTags u)
    (hsame : t.table.seats = s.table.seats ∧ t.departures = s.departures) : s.KeepsTags u :=
  (keepsTags_of_same hsame).trans h

/-- Seats that keep their tags, and a list that stays or is cleared (R113), keep the tags as they should be. -/
theorem keepsTags_of_seats (hseats : ∀ p, (t.table.seats.get p).heldTag = (s.table.seats.get p).heldTag)
    (hlist : t.departures = s.departures ∨ t.departures = []) : s.KeepsTags t := by
  refine keepsTags_of_fewer ?_ fun p tag hp => hseats p ▸ hp
  rcases hlist with hlist | hlist
  · rw [hlist]
  · rw [hlist]
    exact List.nil_sublist _

/-- R62, R82, R113, R126: a fresh table holds no tag, and the cleared list has none. -/
theorem keepsTags_of_fresh (s : State) {c : Conf} (hseats : t.table.seats = freshSeats c) (hlist : t.departures = []) :
    s.KeepsTags t := by
  refine keepsTags_of_fewer ?_ fun p tag hp => ?_
  · rw [hlist]
    exact List.nil_sublist _
  · rw [hseats, freshSeats, Four.get_ofFn] at hp
    contradiction

/-! #### Records that keep their tag -/

theorem heldTag_map (a : Seat) (securing : Option Level) {f : Record → Record} (hf : ∀ r, (f r).heldTag = r.heldTag) :
    { a with record := a.record.map f, securing := securing }.heldTag = a.heldTag := by
  unfold Seat.heldTag
  cases a.record with
  | none => rfl
  | some r => exact hf r

theorem Record.Moved.heldTag {r r' : Record} (h : r.Moved r') : r'.heldTag = r.heldTag := by
  obtain ⟨_, _, _, _, _, _, rfl⟩ := h
  rfl

theorem keepsTags_updateSeat (s : State) (p : Pos) {f : Seat → Seat}
    (hf : ∀ tag, (f (s.table.seats.get p)).heldTag = some tag → (s.table.seats.get p).heldTag = some tag) :
    s.KeepsTags (s.updateSeat p f) := by
  refine keepsTags_of_fewer (.refl _) fun q tag hq => ?_
  simp only [State.updateSeat, setTable_table, Four.get_set] at hq
  split at hq
  · next h => exact h ▸ hf tag hq
  · exact hq

theorem keepsTags_updateRecord (s : State) (p : Pos) {f : Record → Record} (hf : ∀ r, (f r).heldTag = r.heldTag) :
    s.KeepsTags (s.updateRecord p f) :=
  keepsTags_updateSeat s p fun _ htag => (heldTag_map _ _ hf).symm.trans htag

theorem keepsTags_mapSeats (s : State) {f : Pos → Seat → Seat}
    (hf : ∀ p (seat : Seat), (f p seat).heldTag = seat.heldTag) : s.KeepsTags (s.mapSeats f) :=
  keepsTags_of_seats (fun p => by simp [State.mapSeats, hf]) (.inl rfl)

theorem State.MovesAlerts.keepsTags (h : s.MovesAlerts t) (hlist : t.departures = s.departures) : s.KeepsTags t := by
  refine keepsTags_of_seats (fun p => ?_) (.inl hlist)
  obtain ⟨alert, hseat⟩ := h p
  rw [hseat]
  exact heldTag_map _ _ fun _ => rfl

/-! #### Entries that join, and matches (R109 to R111, R115, R116) -/

theorem joinEntry_of_held {s : State} {e : DepEntry} (h : e.tag ∈ s.heldTags) : s.joinEntry e = s :=
  if_pos ((holdsTag_iff s e.tag).2 h)

theorem joinEntry_of_free {s : State} {e : DepEntry} (h : e.tag ∉ s.heldTags) :
    s.joinEntry e = (s.setDepartures (joinList s.departures e)).count fun k =>
      if joinEvicts s.departures e then { k with listEvict := saturatingSucc k.listEvict } else k :=
  if_neg (h ∘ (holdsTag_iff s e.tag).1)

/-- R109 to R111: an entry joins under a tag that no record holds. -/
theorem joinEntry_keepsTags (s : State) (e : DepEntry) : s.KeepsTags (s.joinEntry e) := fun h => by
  by_cases hheld : e.tag ∈ s.heldTags
  · rwa [joinEntry_of_held hheld]
  · have htable : (s.joinEntry e).table = s.table := by simp
    have hlist : (s.joinEntry e).departures = joinList s.departures e := by simp [joinEntry_of_free hheld]
    obtain hsame | ⟨kept, hnew, hkept, hlength, htags⟩ := joinList_tags e h.bounded
    · exact keepsTags_of_fewer (by rw [hlist, hsame]) (fun p tag hp => by rwa [htable] at hp) h
    · obtain ⟨-, hnodup, halone, hunlisted⟩ := h
      refine ⟨?_, ?_, by simpa only [State.HoldDifferent, htable] using halone, fun p tag hp hmem => ?_⟩
      · rw [hlist, ← List.length_map (f := DepEntry.tag), htags, List.length_append, List.length_singleton]
        omega
      · rw [hlist, htags, List.nodup_append_comm]
        exact List.nodup_cons.2 ⟨fun hmem => hnew (hkept.subset hmem), hnodup.sublist hkept⟩
      · rw [htable] at hp
        rw [hlist, htags, List.mem_append, List.mem_singleton] at hmem
        obtain hmem | rfl := hmem
        · exact hunlisted p tag hp (hkept.subset hmem)
        · exact hheld ((mem_heldTags_iff s _).2 ⟨p, hp⟩)

theorem searchFor_mem {r : Record} {m : Match} (h : s.searchFor r = some m) : m.entry ∈ s.departures := by
  unfold State.searchFor at h
  split at h
  · obtain ⟨e, he, hmatch⟩ := List.exists_of_findSome?_eq_some h
    obtain ⟨kind, -, rfl⟩ := Option.map_eq_some_iff.1 hmatch
    exact he
  · contradiction

/-- R116: a match moves its tag from the list to the record. -/
theorem takeMatch_keepsTags (s : State) {m : Match} (hm : m.entry ∈ s.departures) (p : Pos) (id : OccupantId) :
    s.KeepsTags (s.takeMatch p id m) := by
  rintro ⟨hbounded, hnodup, halone, hunlisted⟩
  have hlist : (s.takeMatch p id m).departures = removeTag s.departures m.entry.tag := by simp [State.takeMatch]
  have hfewer : ((s.takeMatch p id m).departures.map DepEntry.tag).Sublist (s.departures.map DepEntry.tag) := by
    rw [hlist]
    exact List.filter_sublist.map _
  have hgone : m.entry.tag ∉ (s.takeMatch p id m).departures.map DepEntry.tag := by
    simp [hlist, removeTag]
  have hseat : ∀ q, q ≠ p → (s.takeMatch p id m).table.seats.get q = s.table.seats.get q := fun q hq =>
    Four.get_set_other _ _ _ _ hq
  have hheld : ∀ q tag, ((s.takeMatch p id m).table.seats.get q).heldTag = some tag →
      q = p ∧ tag = m.entry.tag ∨ (s.table.seats.get q).heldTag = some tag := by
    intro q tag hq
    by_cases h : q = p
    · subst h
      obtain ⟨r, hr, htag⟩ := Option.bind_eq_some_iff.1 hq
      simp only [State.takeMatch, offerTx_keeps, State.updateRecord, State.updateSeat, setTable_table,
        Four.get_set_self] at hr
      obtain ⟨_, _, rfl⟩ := Option.map_eq_some_iff.1 hr
      exact .inl ⟨rfl, (Option.some.inj htag).symm⟩
    · exact .inr (hseat q h ▸ hq)
  have hmatch : ∀ q, (s.table.seats.get q).heldTag ≠ some m.entry.tag := fun q hq =>
    hunlisted q _ hq (List.mem_map_of_mem hm)
  refine ⟨?_, hnodup.sublist hfewer, fun q q' hne tag hq hq' => ?_, fun q tag hq hmem => ?_⟩
  · rw [hlist]
    exact (List.length_filter_le _ _).trans hbounded
  · obtain ⟨rfl, rfl⟩ | hq := hheld q tag hq
    · obtain ⟨rfl, -⟩ | hq' := hheld q' _ hq'
      · exact hne rfl
      · exact hmatch q' hq'
    · obtain ⟨-, rfl⟩ | hq' := hheld q' _ hq'
      · exact hmatch q hq
      · exact halone q q' hne tag hq hq'
  · rcases hheld q tag hq with ⟨-, rfl⟩ | hq
    · exact hgone hmem
    · exact hunlisted q tag hq (hfewer.subset hmem)

/-- R68, R117: an origin that goes by the speed holds no tag. -/
theorem originWithoutClaim_heldTag (s : State) (r : Record) :
    { r with origin := s.originWithoutClaim }.heldTag = none := by
  unfold Record.heldTag State.originWithoutClaim
  cases s.atSpeed <;> rfl

theorem setOriginWithoutClaim_keepsTags (s : State) (p : Pos) :
    s.KeepsTags (s.updateRecord p fun r => { r with origin := s.originWithoutClaim }) :=
  keepsTags_updateSeat s p fun tag htag => by
    obtain ⟨r, hr, hsome⟩ := Option.bind_eq_some_iff.1 htag
    obtain ⟨_, _, rfl⟩ := Option.map_eq_some_iff.1 hr
    rw [originWithoutClaim_heldTag] at hsome
    contradiction

theorem searchOrSettle_keepsTags (s : State) (p : Pos) : s.KeepsTags (s.searchOrSettle p) := by
  unfold State.searchOrSettle
  split
  · exact keepsTags_refl s
  · split
    · next hfound => exact takeMatch_keepsTags s (searchFor_mem hfound) p _
    · exact setOriginWithoutClaim_keepsTags s p

end KeepsTags
end Sys2Proof.Machine

namespace Sys2Proof.Machine

/-! ### What each operation does to the tags -/

section Operations

variable (s : State)

/-! #### Alerts and changes of mode -/

theorem endAlert_keepsTags (p : Pos) (after : Alert) : s.KeepsTags (s.endAlert p after) :=
  (endAlert_movesAlerts s p after).keepsTags (by simp)

theorem sendAlert_keepsTags (p : Pos) (cls : Cls) (count : Nat) : s.KeepsTags (s.sendAlert p cls count) :=
  ((setAlert_movesAlerts s p (.active count (.running 0))).keepsTags (by simp)).same ⟨rfl, rfl⟩

theorem raiseAlert_keepsTags (p : Pos) : s.KeepsTags (s.raiseAlert p) := by
  unfold State.raiseAlert
  repeat' split
  · exact sendAlert_keepsTags s p _ _
  all_goals exact keepsTags_refl s

theorem alertPeriod_keepsTags (p : Pos) : s.KeepsTags (s.alertPeriod p) := by
  unfold State.alertPeriod
  repeat' split
  · exact keepsTags_refl s
  · exact sendAlert_keepsTags s p _ _
  · exact endAlert_keepsTags s p _
  all_goals exact keepsTags_refl s

theorem leftBehind_keepsTags : s.KeepsTags s.leftBehind := by
  unfold State.leftBehind
  exact List.foldlRecOn positionsInOrder _ (motive := s.KeepsTags) (keepsTags_of_same (by simp)) fun _ ht p _ =>
    ht.trans (raiseAlert_keepsTags _ p)

theorem enterStandby_keepsTags : s.KeepsTags s.enterStandby := by
  refine keepsTags_of_seats (fun p => ?_) (.inl (by simp))
  have hseat : s.enterStandby.table.seats.get p
      = { s.table.seats.get p with record := (s.table.seats.get p).record.map Record.stopTimers } := by
    simp [enterStandby_writes]
  rw [hseat]
  exact heldTag_map _ _ fun _ => rfl

theorem haltEntry_keepsTags : s.KeepsTags s.haltEntry := (enterStandby_keepsTags s).same (by simp [haltEntry_writes])

theorem ownDecision_keepsTags : s.KeepsTags s.ownDecision := by
  unfold State.ownDecision
  split
  · exact keepsTags_of_same (by simp)
  · exact enterStandby_keepsTags s

theorem wake_keepsTags (pins : BitVec 5) : s.KeepsTags (s.wake pins) := keepsTags_of_fresh s rfl rfl

theorem serviceExit_keepsTags : s.KeepsTags s.serviceExit := keepsTags_of_fresh s rfl rfl

theorem enterServiceMode_keepsTags : s.KeepsTags s.enterServiceMode :=
  keepsTags_of_fresh s (c := s.config.running) (by simp [State.enterServiceMode, State.serviceBlocks])
    (by simp [State.enterServiceMode, State.serviceBlocks])

theorem heardWake_keepsTags (pins : BitVec 5) : s.KeepsTags (s.heardWake pins) := by
  unfold State.heardWake
  split
  · exact keepsTags_of_same (by simp)
  · exact keepsTags_of_same (by simp)
  · exact wake_keepsTags s pins
  · exact keepsTags_refl s

theorem heardHalt_keepsTags : s.KeepsTags s.heardHalt := by
  unfold State.heardHalt
  repeat' split
  · exact haltEntry_keepsTags s
  · exact haltEntry_keepsTags s
  · exact keepsTags_of_same (by simp)
  · exact keepsTags_of_same (by simp)
  · exact (serviceExit_keepsTags s).trans (haltEntry_keepsTags _)

theorem wakeOnCause_keepsTags (pins : BitVec 5) : s.KeepsTags (s.wakeOnCause pins) := by
  unfold State.wakeOnCause
  split
  · exact wake_keepsTags s pins
  · exact keepsTags_refl s

theorem takeSample_keepsTags (sampled : StandbyWatch × Bool) (pins : BitVec 5) :
    s.KeepsTags (s.takeSample sampled pins) := by
  unfold State.takeSample State.localWakeCause
  repeat' split
  · exact keepsTags_of_same (by simp)
  · exact (wake_keepsTags _ pins).after_same (by simp)
  · exact keepsTags_of_same (by simp)

theorem hearPulse_keepsTags (c : PulseClass) (pins : BitVec 5) : s.KeepsTags (s.hearPulse c pins) := by
  unfold State.hearPulse
  split
  · exact keepsTags_of_same (by simp)
  · exact heardWake_keepsTags s pins
  · exact heardHalt_keepsTags s
  all_goals exact keepsTags_refl s

theorem hearAtRelease_keepsTags (length : Nat) (pins : BitVec 5) : s.KeepsTags (s.hearAtRelease length pins) := by
  have hedge : s.KeepsTags s.edge := keepsTags_of_same ⟨rfl, rfl⟩
  unfold State.hearAtRelease
  split
  · exact (wakeOnCause_keepsTags _ pins).after_same ⟨rfl, rfl⟩
  · exact hedge.trans (heardHalt_keepsTags _)
  · exact (hedge.trans (hearPulse_keepsTags _ _ pins)).trans (wakeOnCause_keepsTags _ pins)
  · exact hedge.trans (heardWake_keepsTags _ pins)
  · exact keepsTags_refl s

theorem endWindow_keepsTags (w : Window) : s.KeepsTags (s.endWindow w) := by
  unfold State.endWindow State.activeWindowEnd
  repeat' split
  · exact keepsTags_of_same (by simp)
  · exact (ownDecision_keepsTags _).after_same (by simp)
  · exact keepsTags_of_same (by simp)

theorem aloneReached_keepsTags : s.KeepsTags s.aloneReached := by
  unfold State.aloneReached
  split
  · exact keepsTags_of_same ⟨rfl, rfl⟩
  · exact ownDecision_keepsTags s

/-! #### Vehicle data (R113, R178) -/

/-- R178: a trip end clears the list, and no other change of the vehicle data does. -/
theorem takeVehicleChange_departures (ch : VehicleChange) :
    (s.takeVehicleChange ch).departures = if ch.tripEnded then [] else s.departures := by
  unfold State.takeVehicleChange
  dsimp only
  repeat' split
  all_goals simp [*]

theorem vehicleEvents_heldTag (env : LadderEnv) (ch : VehicleChange) (belt : BeltState) (r : Record) :
    (r.vehicleEvents env ch belt).heldTag = r.heldTag := by
  have hmoved := moved_trans (ignitionEvent_moved env ch belt r) (speedEvent_moved env ch _)
  unfold Record.vehicleEvents Record.tripEvent
  split
  · exact hmoved.heldTag
  · exact hmoved.heldTag

theorem takesVehicleData_keepsTags {s t : State} (h : s.TakesVehicleData t)
    (hlist : t.departures = s.departures ∨ t.departures = []) : s.KeepsTags t := by
  refine keepsTags_of_seats (fun p => ?_) hlist
  obtain ⟨alert, hseat⟩ := h.2 p
  rw [hseat, seat_vehicleEvents_eq]
  exact (heldTag_map _ _ (f := fun r => { r with alert := alert r }) fun _ => rfl).trans
    (heldTag_map _ _ (vehicleEvents_heldTag _ _ _))

theorem deriveVehicle_departures (after : Vehicle) :
    (s.deriveVehicle after).departures = s.departures ∨ (s.deriveVehicle after).departures = [] := by
  simp only [State.deriveVehicle, refreshOutputs_keeps, takeVehicleChange_departures]
  split
  · exact .inr rfl
  · exact .inl rfl

theorem vehicleFrom_departures (n : StationNo) (payload : List Byte) :
    (s.vehicleFrom n payload).departures = s.departures ∨ (s.vehicleFrom n payload).departures = [] := by
  have hderived := deriveVehicle_departures s (s.vehicle.take (vehicleOfPayload payload))
  unfold State.vehicleFrom State.takeVehicle State.acknowledge State.doorReport
  repeat' split
  all_goals simp [hderived]

theorem deriveVehicle_keepsTags (after : Vehicle) : s.KeepsTags (s.deriveVehicle after) :=
  takesVehicleData_keepsTags (deriveVehicle_takesVehicleData s after) (deriveVehicle_departures s after)

theorem vehicleFrom_keepsTags (n : StationNo) (payload : List Byte) : s.KeepsTags (s.vehicleFrom n payload) :=
  takesVehicleData_keepsTags (vehicleFrom_takesVehicleData s n payload) (vehicleFrom_departures s n payload)

/-! #### Claims (R117 to R121) -/

theorem removeTag_keepsTags (tag : DepTag) : s.KeepsTags (s.setDepartures (removeTag s.departures tag)) :=
  keepsTags_of_fewer (List.filter_sublist.map _) fun _ _ => id

theorem yieldCutOff_keepsTags (p : Pos) : s.KeepsTags (s.yieldCutOff p) :=
  (searchOrSettle_keepsTags _ p).after_same (by simp)

theorem claimCutOff_keepsTags (c : ClaimRef) : s.KeepsTags (s.claimCutOff c) := by
  unfold State.claimCutOff
  repeat' split
  · exact keepsTags_refl s
  · exact yieldCutOff_keepsTags s _
  · exact keepsTags_refl s

theorem yieldToRival_keepsTags (p : Pos) : s.KeepsTags (s.yieldToRival p) := by
  unfold State.yieldToRival
  split
  · exact (yieldCutOff_keepsTags _ p).after_same (by simp)
  · exact keepsTags_refl s

theorem peerClaim_keepsTags (tag : DepTag) : s.KeepsTags (s.peerClaim tag) := by
  refine (removeTag_keepsTags s tag).trans ?_
  unfold State.peerClaim
  dsimp only
  split
  · exact yieldToRival_keepsTags _ _
  · exact keepsTags_of_same (by simp)

theorem peerDepart_keepsTags (payload : List Byte) : s.KeepsTags (s.peerDepart payload) := by
  unfold State.peerDepart
  split
  · exact joinEntry_keepsTags s _
  · exact keepsTags_refl s

/-- R117: a settled record holds the tag it claimed. -/
theorem settle_heldTag (env : LadderEnv) (r : Record) : (r.settle env).heldTag = r.heldTag := by
  unfold Record.settle
  split
  · next e he => simp only [Record.heldTag, he]
  all_goals rfl

theorem settleClaim_keepsTags (p : Pos) (tag : DepTag) : s.KeepsTags (s.settleClaim p tag) := by
  have hsettled := keepsTags_updateRecord s p (settle_heldTag s.ladderEnv)
  exact (hsettled.trans (removeTag_keepsTags _ tag)).same (by simp [State.settleClaim])

theorem lapseClaim_keepsTags (p : Pos) : s.KeepsTags (s.lapseClaim p) := setOriginWithoutClaim_keepsTags s p

theorem ownClaim_keepsTags (c : ClaimRef) : s.KeepsTags (s.ownClaim c) := by
  unfold State.ownClaim
  repeat' split
  · exact keepsTags_refl s
  · exact keepsTags_refl s
  · exact settleClaim_keepsTags s _ _
  · exact lapseClaim_keepsTags s _

/-! #### The end of a transmission -/

theorem cutOff_keepsTags (e : TxEntry) : s.KeepsTags (s.cutOff e) := by
  unfold State.cutOff State.frameCutOff
  split
  · exact (claimCutOff_keepsTags _ _).after_same (by simp)
  all_goals exact keepsTags_of_same (by simp)

theorem frameSent_keepsTags (e : TxEntry) (echoed : Bool) : s.KeepsTags (s.frameSent e echoed) := by
  have hsent : s.KeepsTags (((s.setLink (s.link.sent e)).count fun k => k.sent echoed).reportEcho e echoed) :=
    keepsTags_of_same (by simp)
  unfold State.frameSent State.sentReport State.alertSent
  repeat' split
  · exact hsent.same (by simp)
  · exact hsent.trans (endAlert_keepsTags _ _ _)
  all_goals exact hsent

/-! #### The completion of a sweep (R29) -/

theorem setRecord_keepsTags (p : Pos) {record : Option Record} (hnone : record.bind Record.heldTag = none) :
    s.KeepsTags (s.updateSeat p fun seat => { seat with record := record }) :=
  keepsTags_updateSeat s p fun _ htag => absurd (hnone.symm.trans htag) (by simp)

theorem arrive_keepsTags (p : Pos) (fromUnscanned : Bool) : s.KeepsTags (s.arrive p fromUnscanned) := by
  unfold State.arrive
  split
  · exact setRecord_keepsTags s p rfl
  · exact (setRecord_keepsTags s p rfl).trans (searchOrSettle_keepsTags _ p)

theorem handOn_keepsTags (p : Pos) (r : Record) : s.KeepsTags (s.handOn p r) := by
  have hsequence : s.KeepsTags (s.setTable { s.table with departureSeq := s.table.departureSeq + 1 }) :=
    keepsTags_of_same ⟨rfl, rfl⟩
  exact (hsequence.trans (joinEntry_keepsTags _ _)).same ⟨rfl, rfl⟩

theorem endRecord_keepsTags (p : Pos) : s.KeepsTags (s.endRecord p) :=
  (setRecord_keepsTags s p (record := none) rfl).same ⟨rfl, rfl⟩

theorem depart_keepsTags (p : Pos) : s.KeepsTags (s.depart p) := by
  unfold State.depart
  split
  · exact keepsTags_refl s
  · dsimp only
    split
    · exact ((handOn_keepsTags _ p _).after_same (by simp)).trans (endRecord_keepsTags _ p)
    · exact (endRecord_keepsTags _ p).after_same (by simp)

theorem takeSeatChange_keepsTags (p : Pos) (change : SeatChange) : s.KeepsTags (s.takeSeatChange p change) := by
  cases change with
  | none => exact keepsTags_refl s
  | arrival fromUnscanned => exact arrive_keepsTags s p fromUnscanned
  | departure => exact depart_keepsTags s p
  | classChange => exact keepsTags_updateRecord s p fun _ => rfl
  | exchange => exact (depart_keepsTags s p).trans (arrive_keepsTags _ p false)

theorem takeClasses_keepsTags (before : Four Cls) (test : Bool) : s.KeepsTags (s.takeClasses before test) :=
  List.foldlRecOn positionsInOrder _ (motive := s.KeepsTags) (keepsTags_refl s) fun _ ht p _ =>
    ht.trans (takeSeatChange_keepsTags _ p _)

theorem takeBelts_keepsTags (changed : Four Bool) : s.KeepsTags (s.takeBelts changed) :=
  keepsTags_mapSeats s fun p seat => by
    split
    · refine heldTag_map _ _ fun r => ?_
      unfold Record.beltChange
      split <;> rfl
    · rfl

theorem tableStep_keepsTags (before : Four Cls) (test : Bool) (o : SensingOutcome) :
    s.KeepsTags (s.tableStep before test o) :=
  ((takeClasses_keepsTags s before test).trans (takeBelts_keepsTags _ o.beltChanged)).same (by simp [State.tableStep])

theorem ladderStep_keepsTags : s.KeepsTags s.ladderStep := by
  have hladders : s.KeepsTags (s.mapSeats fun p seat => seat.step4 s.ladderEnv (s.sfe.positions.get p)) :=
    keepsTags_mapSeats s fun p seat =>
      (heldTag_map _ _ (f := fun r => r.evaluate _ _) fun _ => evaluate_moved.heldTag).trans
        (heldTag_map _ _ (f := Record.rekind) fun _ => rfl)
  exact hladders.same (by simp [State.ladderStep])

theorem endAlertsByClass_keepsTags : s.KeepsTags s.endAlertsByClass :=
  List.foldlRecOn positionsInOrder _ (motive := s.KeepsTags) (keepsTags_refl s) fun t ht p _ => by
    split
    · exact ht.trans (endAlert_keepsTags t p _)
    · exact ht

theorem vacantStep_keepsTags : s.KeepsTags s.vacantStep := by
  unfold State.vacantStep
  repeat' split
  · exact keepsTags_of_same ⟨rfl, rfl⟩
  · exact enterStandby_keepsTags s
  · exact keepsTags_of_same ⟨rfl, rfl⟩
  · exact keepsTags_refl s

theorem watchStep_keepsTags (ownChange : Bool) : s.KeepsTags (s.watchStep ownChange) := by
  unfold State.watchStep
  split
  · exact (vacantStep_keepsTags s).same (by simp)
  · exact (vacantStep_keepsTags _).after_same (by simp)

theorem modeStep_keepsTags (c : OwnChanges) : s.KeepsTags (s.modeStep c) := by
  unfold State.modeStep
  exact ((endAlertsByClass_keepsTags s).same (by simp)).trans (watchStep_keepsTags _ _)

theorem completeSweep_keepsTags (number : Word16) (test : Bool) (tagAt : Option Pos) (r : SweepReadings) :
    s.KeepsTags (s.completeSweep number test tagAt r) := by
  have hclassified : s.KeepsTags (s.classifiedBy number test tagAt r) :=
    keepsTags_of_seats (fun p => by rw [Seat.heldTag, classifiedBy_record]; rfl) (.inl (by simp [State.classifiedBy]))
  have hladders : s.KeepsTags (s.afterStepFour number test tagAt r) :=
    (hclassified.trans (tableStep_keepsTags _ _ test _)).trans (ladderStep_keepsTags _)
  have hreport : s.KeepsTags (s.beforeStepSix number test tagAt r) := hladders.same (by simp [beforeStepSix_eq])
  rw [completeSweep_eq_modeStep]
  exact (hreport.trans (modeStep_keepsTags _ _)).same ⟨rfl, rfl⟩

/-! #### Service and time -/

theorem serviceEntry_keepsTags (arg : Nat) : s.KeepsTags (s.serviceEntry arg) := by
  unfold State.serviceEntry
  repeat' split
  · exact keepsTags_of_same (by simp)
  · exact keepsTags_of_same (by simp)
  · exact keepsTags_of_same (by simp)
  · exact (enterServiceMode_keepsTags s).same (by simp)

theorem serviceLeave_keepsTags (arg : Nat) : s.KeepsTags (s.serviceLeave arg) := by
  unfold State.serviceLeave
  repeat' split
  · exact keepsTags_of_same (by simp)
  · exact keepsTags_of_same (by simp)
  · exact keepsTags_of_same (by simp)
  · exact (serviceExit_keepsTags s).same (by simp)

/-- Log entry 7: a millisecond moves timers and ages. -/
theorem millisecond_keepsTags : s.KeepsTags s.millisecond := by
  refine keepsTags_of_fewer ?_ fun p tag hp => ?_
  · have htags : s.millisecond.departures.map DepEntry.tag = s.departures.map DepEntry.tag := by
      unfold State.millisecond
      dsimp only
      split
      · rw [List.map_map]
        rfl
      · rfl
    rw [htags]
  · unfold State.millisecond at hp
    dsimp only at hp
    split at hp
    · rw [Four.get_map] at hp
      exact (heldTag_map _ _ (f := Record.tick s.config.running) fun _ => rfl).symm.trans hp
    · exact hp

theorem tick_keepsTags : s.KeepsTags s.tick := by
  unfold State.tick
  split
  · exact millisecond_keepsTags s
  · exact keepsTags_refl s

end Operations

/-! ### Every command and every step keeps the tags unique (R107, R109) -/

/-- What a meaning answers keeps the tags of the state it was given. -/
def State.AnswersTags (s : State) (o : Out) : Prop := ∀ t, o = .next t → s.KeepsTags t

section AnswersTags

variable {s : State}

theorem answersTags_next {t : State} (h : s.KeepsTags t) : s.AnswersTags (.next t) := by
  rintro _ ⟨⟩
  exact h

theorem answersTags_onlyIf {c : Bool} {after : State} (h : s.KeepsTags after) : s.AnswersTags (onlyIf c after s) := by
  refine answersTags_next ?_
  split
  · exact h
  · exact keepsTags_refl s

theorem answersTags_expire {p : Pos} {timer : Record → Timer} {limit : Nat} {f : Record → Record}
    (hf : ∀ r, (f r).heldTag = r.heldTag) : s.AnswersTags (s.expire p timer limit f) :=
  answersTags_onlyIf ((keepsTags_updateRecord s p hf).same (by simp))

theorem answersTags_handleFrame {kind : FrameKind} {owner : RxFrame → State → State}
    (h : ∀ f (t : State), t.KeepsTags (owner f t)) : s.AnswersTags (s.handleFrame kind owner) := by
  refine answersTags_next ?_
  split
  · exact (h _ _).after_same ⟨rfl, rfl⟩
  · exact keepsTags_refl s

theorem answersTags_handleQuery {item : Nat} {answer : Nat → State → State}
    (h : ∀ arg (t : State), t.KeepsTags (answer arg t)) : s.AnswersTags (s.handleQuery item answer) := by
  refine answersTags_next ?_
  split
  · exact (h _ _).after_same ⟨rfl, rfl⟩
  · exact keepsTags_refl s

end AnswersTags

theorem chimeTick_heldTag (env : LadderEnv) (r : Record) : (r.chimeTick env).heldTag = r.heldTag := by
  unfold Record.chimeTick
  dsimp only
  split <;> rfl

/-- Every command keeps the tags unique. -/
theorem exec_answersTags (s : State) (i : Instr) : s.AnswersTags (exec i s) := by
  have hstays := keepsTags_refl s
  cases i with
  | powerOn pins => exact answersTags_next (keepsTags_of_fresh s rfl rfl)
  | sweepCompletion r =>
    refine answersTags_next ?_
    split
    · exact completeSweep_keepsTags s _ _ _ r
    · exact hstays
  | oneShotCompletion r =>
    refine answersTags_next ?_
    split
    · exact keepsTags_of_same (by simp)
    · exact hstays
  | graceTimerExpiry p => exact answersTags_expire fun r => (leaveGrace_enters r _).moved.heldTag
  | escalationTimerExpiry p => exact answersTags_expire fun r => (toLevel2_enters r _).moved.heldTag
  | chimeSecond p => exact answersTags_expire (chimeTick_heldTag _)
  | slowTimerExpiry p | buckledRunExpiry p => exact answersTags_expire fun _ => rfl
  | seatedTimeSecond p => exact answersTags_onlyIf (keepsTags_updateRecord s p fun _ => rfl)
  | departureEntryExpiry tag => exact answersTags_onlyIf (removeTag_keepsTags s tag)
  | sweepStart | lampFlashToggle | tellTaleFlashToggle | rosterSilent | rosterLost | emissionTimerExpiry
  | restartedHoldExpiry | eventLossHoldExpiry | fenceEnd | stuckHoldEnd | lineStuck | frameTxStart | arbitrationLost
  | wakePulseSendStart | idleTimerExpiry | frameReceptionEnd =>
    exact answersTags_onlyIf (keepsTags_of_same (by simp))
  | lossOfSupply => exact answersTags_onlyIf (keepsTags_of_same (by simp [State.unpowered]))
  | vehicleDataLost => exact answersTags_onlyIf (deriveVehicle_keepsTags s _)
  | pulseEnd length pins => exact answersTags_onlyIf ((hearPulse_keepsTags _ _ pins).after_same ⟨rfl, rfl⟩)
  | bitMismatch =>
    refine answersTags_next ?_
    split
    · exact cutOff_keepsTags s _
    · exact hstays
  | frameSent echoed =>
    refine answersTags_next ?_
    split
    · exact frameSent_keepsTags s _ echoed
    · exact hstays
  | wakePulseRelease heard pins =>
    refine answersTags_onlyIf ?_
    split
    · exact (wakeOnCause_keepsTags _ pins).after_same ⟨rfl, rfl⟩
    · exact (hearAtRelease_keepsTags _ _ pins).after_same ⟨rfl, rfl⟩
  | ownClaimHandled =>
    refine answersTags_next ?_
    split
    · exact (ownClaim_keepsTags _ _).after_same ⟨rfl, rfl⟩
    · exact hstays
  | claimHandled =>
    show s.AnswersTags (execClaimHandled s)
    refine answersTags_handleFrame fun _ t => ?_
    split
    · exact keepsTags_refl t
    · exact peerClaim_keepsTags t _
  | departHandled =>
    show s.AnswersTags (execDepartHandled s)
    refine answersTags_handleFrame fun _ t => ?_
    split
    · exact keepsTags_refl t
    · exact peerDepart_keepsTags t _
  | vehicleHandled => exact answersTags_handleFrame fun _ t => vehicleFrom_keepsTags t _ _
  | stateHandled =>
    show s.AnswersTags (execStateHandled s)
    refine answersTags_handleFrame fun _ t => ?_
    split
    · exact keepsTags_of_same (by simp)
    · exact keepsTags_refl t
  | sleepRefuseHandled | rowReleaseHandled | alertHandled | sleepProposeHandled | configWrite =>
    simp only [exec, execSleepRefuseHandled, execRowReleaseHandled, execAlertHandled, execSleepProposeHandled,
      execConfigWrite]
    exact answersTags_handleFrame fun _ _ => keepsTags_of_same (by simp)
  | readCapture | clearCapture | readCounters | readPosition | measure | readRoster | readConfig | storeConfig =>
    simp only [exec, execReadCapture, execClearCapture, execReadCounters, execReadPosition, execMeasure,
      execReadRoster, execReadConfig, execStoreConfig]
    exact answersTags_handleQuery fun _ _ => keepsTags_of_same (by simp)
  | enterService => exact answersTags_handleQuery fun arg t => serviceEntry_keepsTags t arg
  | leaveService => exact answersTags_handleQuery fun arg t => serviceLeave_keepsTags t arg
  | commitCompletion =>
    have hdone : s.KeepsTags s.commitDone := keepsTags_of_same (by simp)
    refine answersTags_onlyIf ?_
    split
    · exact (hdone.trans (serviceExit_keepsTags _)).trans (haltEntry_keepsTags _)
    · exact hdone
  | serviceTimerExpiry => exact answersTags_onlyIf (serviceExit_keepsTags s)
  | windowEnd =>
    refine answersTags_next ?_
    split
    · split
      · exact endWindow_keepsTags s _
      · exact hstays
    · exact hstays
  | aloneTimerExpiry => exact answersTags_onlyIf (aloneReached_keepsTags s)
  | watchTimerExpiry => exact answersTags_onlyIf (enterStandby_keepsTags s)
  | leftBehindExpiry => exact answersTags_onlyIf (leftBehind_keepsTags s)
  | alertPeriodExpiry p => exact answersTags_onlyIf (alertPeriod_keepsTags s p)
  | standbyWatchSample ratios latchOpen pins =>
    refine answersTags_next ?_
    split
    · exact takeSample_keepsTags s _ pins
    · exact hstays
  | diagQueryItemNotDefined =>
    refine answersTags_next ?_
    split
    · exact keepsTags_of_same (by simp)
    · exact hstays

theorem step_keepsTags {s t : State} (h : step s = .next t) : s.KeepsTags t := by
  unfold step at h
  split at h
  · exact answersTags_next (tick_keepsTags s) t h
  · exact (exec_answersTags _ _ t h).after_same ⟨rfl, rfl⟩

/-- Settles O55, by the invariant `State.TagsFit`: every command and every tick keeps it (`step_keepsTags`). -/
theorem departureTagsStayUnique : Obligations.DepartureTagsStayUnique := fun s t h hstep =>
  (tagsFit_iff t).1 (step_keepsTags hstep ((tagsFit_iff s).2 h))

end Sys2Proof.Machine

namespace Sys2Proof.Machine

/-! ### The entry a DEPART carries (R109, R170) -/

theorem tagOfBytes_fields (b0 b1 : Byte) :
    (tagOfBytes b0 b1).station.toNat = b0.toNat / 16 ∧ (tagOfBytes b0 b1).pos.val = b0.toNat / 4 % 4
      ∧ (tagOfBytes b0 b1).seq.toNat = b0.toNat % 4 * 256 + b1.toNat := by
  have h0 := b0.isLt
  have h1 := b1.isLt
  refine ⟨?_, rfl, ?_⟩
  · simp only [tagOfBytes, BitVec.toNat_ofNat]
    omega
  · simp only [tagOfBytes, BitVec.toNat_ofNat]
    omega

theorem getLsbD_eq_div (b : Byte) (k : Nat) : b.getLsbD k = (b.toNat / 2 ^ k % 2 == 1) := by
  rw [BitVec.getLsbD, Nat.testBit_eq_decide_div_mod_eq, beq_eq_decide]

theorem isRow_iff (n : StationNo) : n.isRow = true ↔ 1 ≤ n.toNat ∧ n.toNat ≤ 12 := by
  simp [StationNo.isRow]

theorem ofCode_of_vacant {code : Nat} (h : code < 4 ∨ code = 8 ∨ 9 < code) {cls : Cls}
    (hcls : Cls.ofCode code = some cls) : cls.isOccupant = false := by
  rcases h with hlow | rfl | hhigh
  · interval_cases code <;> cases hcls <;> rfl
  · cases hcls
    rfl
  · obtain ⟨k, rfl⟩ := Nat.exists_eq_add_of_le' hhigh
    contradiction

theorem ofCode_of_occupant {code : Nat} {cls : Cls}
    (h : (cls, code) ∈ [(Cls.small, 4), (Cls.adult, 5), (Cls.unsized, 6), (Cls.unknown, 7), (Cls.csOccupied, 9)]) :
    Cls.ofCode code = some cls ∧ cls.isOccupant = true := by
  simp only [List.mem_cons, Prod.mk.injEq, List.not_mem_nil, or_false] at h
  rcases h with ⟨rfl, rfl⟩ | ⟨rfl, rfl⟩ | ⟨rfl, rfl⟩ | ⟨rfl, rfl⟩ | ⟨rfl, rfl⟩ <;> exact ⟨rfl, rfl⟩

theorem tagTypeOfCode_of_mem {code : Nat} {type : TagType}
    (h : (type, code) ∈ [(TagType.infantRear, 1), (TagType.childForward, 2), (TagType.booster, 3)]) :
    tagTypeOfCode code = some type := by
  simp only [List.mem_cons, Prod.mk.injEq, List.not_mem_nil, or_false] at h
  rcases h with ⟨rfl, rfl⟩ | ⟨rfl, rfl⟩ | ⟨rfl, rfl⟩ <;> rfl

section EntryOfDepart

variable {payload : List Byte}

/-- R109: the serial field of a DEPART. -/
def departSerial (payload : List Byte) : Nat := (byteAt payload 4).toNat * 256 + (byteAt payload 5).toNat

/-- R109: the entry that the fields of a DEPART form, of this class and with this tag serial and type. -/
def departEntryWith (payload : List Byte) (cls : Cls) (child : Option ChildId) : DepEntry where
  tag := payloadTag payload
  cls := cls
  wasBelted := (byteAt payload 2).getLsbD 3
  chime := min (byteAt payload 3).toNat 180
  child := child
  ageMs := 0

theorem ofNat_departSerial_beq_zero :
    (BitVec.ofNat 16 (departSerial payload) == 0) = decide (departSerial payload = 0) := by
  have h4 := (byteAt payload 4).isLt
  have h5 := (byteAt payload 5).isLt
  have hzero : (0 : Word16).toNat = 0 := rfl
  rw [beq_eq_decide, decide_eq_decide, ← BitVec.toNat_inj]
  simp only [departSerial, BitVec.toNat_ofNat, hzero]
  omega

theorem entryOfDepart_of_station (h : (payloadTag payload).station.isRow = false) : entryOfDepart payload = none := by
  unfold payloadTag at h
  unfold entryOfDepart
  dsimp only
  split
  · rfl
  · simp [h]

theorem entryOfDepart_of_class
    (h : ∀ cls, Cls.ofCode ((byteAt payload 2).toNat / 16) = some cls → cls.isOccupant = false) :
    entryOfDepart payload = none := by
  unfold entryOfDepart
  dsimp only
  split
  · rfl
  · next cls hcls => simp [h cls hcls]

section Accepted

variable {cls : Cls} (hcls : Cls.ofCode ((byteAt payload 2).toNat / 16) = some cls ∧ cls.isOccupant = true)
  (hrow : (payloadTag payload).station.isRow = true)
include hcls hrow

/-- R109: a DEPART of an occupant class and of stations 1 to 12 forms an entry by its serial fields. -/
theorem entryOfDepart_of_occupant :
    entryOfDepart payload =
      if (byteAt payload 2).getLsbD 2 = true then
        (tagTypeOfCode ((byteAt payload 2).toNat % 4)).bind fun type =>
          if departSerial payload = 0 then none
          else some (departEntryWith payload cls (some { serial := BitVec.ofNat 16 (departSerial payload), type }))
      else some (departEntryWith payload cls none) := by
  obtain ⟨hcode, hocc⟩ := hcls
  unfold payloadTag at hrow
  have hserial := ofNat_departSerial_beq_zero (payload := payload)
  have hset : ((byteAt payload 2).toNat / 4 % 2 == 1) = (byteAt payload 2).getLsbD 2 := (getLsbD_eq_div _ 2).symm
  have hbelted : ((byteAt payload 2).toNat / 8 % 2 == 1) = (byteAt payload 2).getLsbD 3 := (getLsbD_eq_div _ 3).symm
  unfold departSerial at hserial
  simp only [entryOfDepart, hcode, hocc, hrow, ofTwoBytes, hserial, hset, hbelted, departEntryWith, departSerial,
    payloadTag, Bool.not_true, Bool.or_false, Bool.false_eq_true, if_false, decide_eq_true_eq]
  split
  · cases tagTypeOfCode ((byteAt payload 2).toNat % 4) <;> rfl
  · rfl

theorem entryOfDepart_of_noSerial (hset : (byteAt payload 2).getLsbD 2 = false) :
    entryOfDepart payload = some (departEntryWith payload cls none) := by
  rw [entryOfDepart_of_occupant hcls hrow, hset, if_neg Bool.false_ne_true]

theorem entryOfDepart_of_serial (hset : (byteAt payload 2).getLsbD 2 = true) (hserial : departSerial payload ≠ 0)
    {type : TagType} (htype : tagTypeOfCode ((byteAt payload 2).toNat % 4) = some type) :
    entryOfDepart payload
      = some (departEntryWith payload cls (some { serial := BitVec.ofNat 16 (departSerial payload), type })) := by
  rw [entryOfDepart_of_occupant hcls hrow, if_pos hset, htype, Option.bind_some, if_neg hserial]

end Accepted

/-- R109: a serial marked present with serial 0 or tag type 0 discards the frame, whatever its class and station. -/
theorem entryOfDepart_of_badSerial (hset : (byteAt payload 2).getLsbD 2 = true)
    (hbad : departSerial payload = 0 ∨ (byteAt payload 2).toNat % 4 = 0) : entryOfDepart payload = none := by
  by_cases hrow : (payloadTag payload).station.isRow = true
  · by_cases hcls : ∃ cls, Cls.ofCode ((byteAt payload 2).toNat / 16) = some cls ∧ cls.isOccupant = true
    · obtain ⟨cls, hcls⟩ := hcls
      rw [entryOfDepart_of_occupant hcls hrow, if_pos hset]
      rcases hbad with hzero | htype
      · cases tagTypeOfCode ((byteAt payload 2).toNat % 4) <;> simp [hzero]
      · rw [htype]
        rfl
    · exact entryOfDepart_of_class fun cls hcode => Bool.eq_false_iff.2 fun hocc => hcls ⟨cls, hcode, hocc⟩
  · exact entryOfDepart_of_station (Bool.eq_false_iff.2 hrow)

end EntryOfDepart

/-! ### A DEPART handled and an entry expired (R109 to R112) -/

section Handled

variable {s : State} {f : RxFrame}

/-- R109: a handled DEPART leaves the queue, and outside SERVICE its entry joins. -/
theorem departHandled_of_handles (h : s.Handles f) (hk : f.kind = .depart) :
    exec .departHandled s
      = .next (if s.modeCtl.mode = .service then s.takeFrame f else (s.takeFrame f).peerDepart f.payload) := by
  show execDepartHandled s = _
  exact handleFrame_of_handles s h hk _

/-- R110: an entry replaces the listed one of its tag in place, and nothing is counted. -/
theorem joinEntry_of_listed {e : DepEntry} (hheld : e.tag ∉ s.heldTags)
    (hlisted : e.tag ∈ s.departures.map DepEntry.tag) :
    s.joinEntry e = { s with departures := s.departures.map fun d => if d.tag = e.tag then e else d } := by
  have hevicts : ¬ joinEvicts s.departures e = true := fun h => ((joinEvicts_iff _ _).1 h).1 hlisted
  rw [joinEntry_of_free hheld, joinList_of_listed hlisted, funext fun k => if_neg hevicts]
  rfl

/-- R111: a new tag evicts the oldest entry of a full list, and the eviction is counted. -/
theorem joinEntry_of_full {e : DepEntry} (hheld : e.tag ∉ s.heldTags)
    (hlisted : e.tag ∉ s.departures.map DepEntry.tag) (hfull : 8 ≤ s.departures.length) :
    s.joinEntry e = { s with
      departures := s.departures.tail ++ [e]
      diag := { s.diag with counters := { s.diag.counters with
        listEvict := if s.diag.counters.listEvict < 65535 then s.diag.counters.listEvict + 1 else 65535 } } } := by
  have hevicts : joinEvicts s.departures e = true := (joinEvicts_iff _ _).2 ⟨hlisted, hfull⟩
  rw [joinEntry_of_free hheld, joinList_of_full hlisted hfull, funext fun k => if_pos hevicts]
  rfl

theorem removeTag_eq (list : List DepEntry) (tag : DepTag) :
    removeTag list tag = list.filter fun e => decide (e.tag ≠ tag) := by
  refine List.filter_congr fun e _ => ?_
  rw [bne, beq_eq_decide, decide_not]

theorem keepsRecords_iff (mode : Mode) : mode.keepsRecords = true ↔ mode = .active ∨ mode = .watch := by
  cases mode <;> simp [Mode.keepsRecords]

/-- R112: an expiry takes effect exactly where a listed entry of its tag has reached T_move. -/
theorem departureEntryExpiry_eq (hp : s.powered = true) (hm : s.modeCtl.mode = .active ∨ s.modeCtl.mode = .watch)
    (tag : DepTag) :
    exec (.departureEntryExpiry tag) s
      = .next (if s.entryDue tag = true then s.setDepartures (removeTag s.departures tag) else s) := by
  show onlyIf _ _ _ = _
  rw [hp, (keepsRecords_iff _).2 hm]
  rfl

end Handled

/-- Settles O24: a handled DEPART by where its entry's tag stands (held, listed, new with and without room), an expiry
by `State.entryDue`, and the entry of a payload by its tag, class and serial fields. -/
theorem departureListMoves : Obligations.DepartureListMoves := by
  refine ⟨fun s f e h hk => ⟨fun hm => ?_, fun hm hnone => ?_, fun hm hsome => ⟨fun hheld => ?_,
    fun hheld hlisted => ?_, fun hheld hnew hroom => ?_, fun hheld hnew hfull => ?_⟩⟩,
    fun s tag hp hm => ⟨fun hdue => ?_, fun hyoung => ?_⟩, tagOfBytes_fields, ?_⟩
  · rw [departHandled_of_handles h hk, if_pos hm]
  · rw [departHandled_of_handles h hk, if_neg hm, State.peerDepart, hnone]
  · rw [departHandled_of_handles h hk, if_neg hm, State.peerDepart, hsome]
    exact congrArg _ (joinEntry_of_held hheld)
  · rw [departHandled_of_handles h hk, if_neg hm, State.peerDepart, hsome]
    exact congrArg _ (joinEntry_of_listed (s := s.takeFrame f) hheld hlisted)
  · rw [departHandled_of_handles h hk, if_neg hm, State.peerDepart, hsome]
    exact congrArg _ (joinEntry_of_new (s.takeFrame f) hheld hnew hroom)
  · rw [departHandled_of_handles h hk, if_neg hm, State.peerDepart, hsome]
    exact congrArg _ (joinEntry_of_full (s := s.takeFrame f) hheld hnew hfull)
  · rw [departureEntryExpiry_eq hp hm, if_pos ((entryDue_iff s tag).2 hdue), removeTag_eq]
    rfl
  · have hnot : ¬ s.entryDue tag = true := fun hdue => by
      obtain ⟨e, he, htag, hage⟩ := (entryDue_iff s tag).1 hdue
      exact absurd (hyoung e he htag) (Nat.not_lt.2 hage)
    rw [departureEntryExpiry_eq hp hm, if_neg hnot]
  · rintro payload _ _ _ _ _ rfl rfl rfl rfl rfl
    refine ⟨fun hstation => ?_, fun hclass => ?_, fun hset hbad => entryOfDepart_of_badSerial hset hbad,
      fun cls hlow hhigh hcls => ⟨fun hset => ?_, fun kind hset hserial hkind => ?_⟩⟩
    · refine entryOfDepart_of_station (Bool.eq_false_iff.2 fun hrow => ?_)
      have hbounds := (isRow_iff _).1 hrow
      unfold payloadTag at hbounds
      omega
    · exact entryOfDepart_of_class fun cls => ofCode_of_vacant hclass
    · exact entryOfDepart_of_noSerial (ofCode_of_occupant hcls) ((isRow_iff _).2 ⟨hlow, hhigh⟩) hset
    · exact entryOfDepart_of_serial (ofCode_of_occupant hcls) ((isRow_iff _).2 ⟨hlow, hhigh⟩) hset hserial
        (tagTypeOfCode_of_mem hkind)

end Sys2Proof.Machine

namespace Sys2Proof.Machine

/-! ### The ladder after a settlement (R99, R100) -/

/-- R90 to R94: a level entered at speed: of the ladder timers the chime timer alone starts, at LEVEL_2. -/
def Record.enteredAtSpeed (r : Record) (level : Level) : Record :=
  { r.atLevel level with chimeTimer := if level = .level2 then .running 0 else .stopped }

/-- R100: the level of a record after its settlement. -/
def Record.settledLevel (env : LadderEnv) (r : Record) : Level :=
  match r.level with
  | .quiet => .quiet
  | .spent => .spent
  | .level2 => if env.conf.chimeLimit ≤ r.chimeUsed then .spent else .level2
  | .grace | .level1 =>
    if env.atSpeed = false then .level1 else if env.conf.chimeLimit ≤ r.chimeUsed then .spent else .level2

/-- R100: a settlement enters a level anew, with its timers, rather than leave the ladder standing. -/
def Record.ReentersLadder (env : LadderEnv) (r : Record) : Prop :=
  r.level = .grace ∨ (r.level = .level1 ∧ env.atSpeed = true)
    ∨ (r.level = .level2 ∧ env.conf.chimeLimit ≤ r.chimeUsed)

section Settlement

variable {env : LadderEnv} {r : Record} {e : DepEntry}

theorem toLevel2_atSpeed (h : env.atSpeed = true) :
    r.toLevel2 env = r.enteredAtSpeed (if env.conf.chimeLimit ≤ r.chimeUsed then .spent else .level2) := by
  unfold Record.toLevel2
  split
  · rfl
  · rfl

theorem afterSettlement_of_reenters (h : r.ReentersLadder env) :
    r.afterSettlement env = r.enteredAtSpeed (r.settledLevel env) := by
  obtain hlevel | ⟨hlevel, hspeed⟩ | ⟨hlevel, hlimit⟩ := h
  · cases hspeed : env.atSpeed with
    | true => simp [Record.afterSettlement, Record.settledLevel, hlevel, hspeed, toLevel2_atSpeed hspeed]
    | false => simp [Record.afterSettlement, Record.settledLevel, hlevel, hspeed, Record.enteredAtSpeed, Record.atLevel]
  · simp [Record.afterSettlement, Record.settledLevel, hlevel, hspeed, toLevel2_atSpeed hspeed]
  · simp [Record.afterSettlement, Record.settledLevel, hlevel, hlimit, Record.enteredAtSpeed, Record.atLevel]

theorem afterSettlement_of_stands (h : ¬ r.ReentersLadder env) :
    r.afterSettlement env = r ∧ r.settledLevel env = r.level := by
  cases hlevel : r.level with
  | quiet | spent => simp [Record.afterSettlement, Record.settledLevel, hlevel]
  | grace => exact absurd (.inl hlevel) h
  | level1 =>
    have hspeed : env.atSpeed = false := Bool.eq_false_iff.2 fun hspeed => h (.inr (.inl ⟨hlevel, hspeed⟩))
    simp [Record.afterSettlement, Record.settledLevel, hlevel, hspeed]
  | level2 =>
    have hlimit : ¬ env.conf.chimeLimit ≤ r.chimeUsed := fun hlimit => h (.inr (.inr ⟨hlevel, hlimit⟩))
    simp [Record.afterSettlement, Record.settledLevel, hlevel, hlimit]

section Claiming

variable (h : r.origin = .claiming e)
include h

theorem settle_of_reenters (hre : (r.inherit env.conf.chimeLimit e).ReentersLadder env) :
    r.settle env = { (r.inherit env.conf.chimeLimit e).enteredAtSpeed
      ((r.inherit env.conf.chimeLimit e).settledLevel env) with origin := .moved e.tag } := by
  rw [Record.settle, h]
  exact congrArg (fun r : Record => { r with origin := .moved e.tag }) (afterSettlement_of_reenters hre)

theorem settle_of_stands (hre : ¬ (r.inherit env.conf.chimeLimit e).ReentersLadder env) :
    r.settle env = { r.inherit env.conf.chimeLimit e with origin := .moved e.tag } := by
  rw [Record.settle, h]
  exact congrArg (fun r : Record => { r with origin := .moved e.tag }) (afterSettlement_of_stands hre).1

/-- R99: what the pending claim hands to its record, and the origin it settles in; its ladder aside, nothing else of the
record moves. -/
theorem settle_writes :
    (r.settle env).origin = .moved e.tag
      ∧ (r.settle env).chimeUsed = min (max r.chimeUsed e.chime) env.conf.chimeLimit
      ∧ (r.settle env).everBuckled = (r.everBuckled || e.wasBelted) ∧ (r.settle env).graceUsed = true
      ∧ (r.settle env).seatedMs = r.seatedMs ∧ (r.settle env).id = r.id ∧ (r.settle env).cls = r.cls
      ∧ (r.settle env).kind = r.kind ∧ (r.settle env).tag = r.tag ∧ (r.settle env).alert = r.alert
      ∧ (r.settle env).seated = r.seated ∧ (r.settle env).buckledRun = r.buckledRun := by
  by_cases hre : (r.inherit env.conf.chimeLimit e).ReentersLadder env
  · rw [settle_of_reenters h hre]
    exact ⟨rfl, rfl, rfl, rfl, rfl, rfl, rfl, rfl, rfl, rfl, rfl, rfl⟩
  · rw [settle_of_stands h hre]
    exact ⟨rfl, rfl, rfl, rfl, rfl, rfl, rfl, rfl, rfl, rfl, rfl, rfl⟩

theorem settle_level : (r.settle env).level = (r.inherit env.conf.chimeLimit e).settledLevel env := by
  by_cases hre : (r.inherit env.conf.chimeLimit e).ReentersLadder env
  · rw [settle_of_reenters h hre]
    rfl
  · rw [settle_of_stands h hre]
    exact (afterSettlement_of_stands hre).2.symm

/-- R100: at LEVEL_2 the level after tells whether the inherited chime time has reached the limit. -/
theorem settle_level_of_level2 (hlevel : r.level = .level2) :
    (r.settle env).level
      = if env.conf.chimeLimit ≤ (r.inherit env.conf.chimeLimit e).chimeUsed then .spent else .level2 := by
  have hbefore : (r.inherit env.conf.chimeLimit e).level = .level2 := hlevel
  rw [settle_level h, Record.settledLevel, hbefore]

theorem not_reentersLadder_of_level
    (hlevel : r.level = .quiet ∨ r.level = .spent ∨ (r.level = .level1 ∧ env.atSpeed = false)
      ∨ (r.level = .level2 ∧ (r.settle env).level = .level2)) :
    ¬ (r.inherit env.conf.chimeLimit e).ReentersLadder env := by
  obtain hlevel | hlevel | ⟨hlevel, hspeed⟩ | ⟨hlevel, hafter⟩ := hlevel
  · simp [Record.ReentersLadder, Record.inherit, hlevel]
  · simp [Record.ReentersLadder, Record.inherit, hlevel]
  · simp [Record.ReentersLadder, Record.inherit, hlevel, hspeed]
  · rintro (hgrace | ⟨hlevel1, -⟩ | ⟨-, hlimit⟩)
    · exact absurd (hlevel.symm.trans hgrace) (by decide)
    · exact absurd (hlevel.symm.trans hlevel1) (by decide)
    · rw [settle_level_of_level2 h hlevel, if_pos hlimit] at hafter
      contradiction

theorem reentersLadder_of_level
    (hlevel : r.level = .grace ∨ (r.level = .level1 ∧ env.atSpeed = true)
      ∨ (r.level = .level2 ∧ (r.settle env).level = .spent)) :
    (r.inherit env.conf.chimeLimit e).ReentersLadder env := by
  obtain hlevel | hlevel | ⟨hlevel, hafter⟩ := hlevel
  · exact .inl hlevel
  · exact .inr (.inl hlevel)
  · refine .inr (.inr ⟨hlevel, ?_⟩)
    by_contra hlimit
    rw [settle_level_of_level2 h hlevel, if_neg hlimit] at hafter
    contradiction

end Claiming

end Settlement

/-! ### The own CLAIM handled (R117) -/

/-- R117: the self slot is emptied. -/
def State.selfSlotEmptied (s : State) : State := s.setLink { s.link with selfSlot := none }

theorem claims_iff (r : Record) (tag : DepTag) : r.claims tag = true ↔ ∃ e, r.origin = .claiming e ∧ e.tag = tag := by
  cases ho : r.origin <;> simp [Record.claims, ho]

section OwnClaim

variable {s : State} {p : Pos} {r : Record} {e : DepEntry}

theorem ownClaimHandled_eq {c : SelfClaim} (hp : s.powered = true) (hf : s.sweep.flight = none)
    (hm : s.modeCtl.mode ≠ .standby) (hn : s.link.nextHandled = some (.own c)) :
    exec .ownClaimHandled s = .next (s.selfSlotEmptied.ownClaim c.claim) := by
  have hruns : s.handlerRuns = true := by simp [State.handlerRuns, hp, hf, hm]
  have hnext : s.nextOwnClaim = some c := by simp [State.nextOwnClaim, hruns, hn]
  show execOwnClaimHandled s = _
  rw [execOwnClaimHandled, hnext]
  rfl

theorem claimantOf_eq {c : ClaimRef} (hr : s.recordAt p = some r) (hid : r.id = c.id) (ho : r.origin = .claiming e)
    (htag : e.tag = c.tag) (only : ∀ q r', s.recordAt q = some r' → r'.id = c.id → q = p) :
    s.claimantOf c = some p := by
  refine find_position _ p ?_ fun q hq => ?_
  · simp [hr, hid, (claims_iff r c.tag).2 ⟨e, ho, htag⟩]
  · obtain ⟨r', hr', hmatch⟩ := (Option.any_eq_true _ _).1 hq
    exact only q r' hr' (by simpa using (Bool.and_eq_true_iff.1 hmatch).1)

theorem ownClaim_of_claimant {c : ClaimRef} (hvoid : c.voided = false) (hp : s.claimantOf c = some p) :
    s.ownClaim c = if s.ignitionOn = true then s.settleClaim p c.tag else s.lapseClaim p := by
  rw [State.ownClaim, hvoid, if_neg Bool.false_ne_true, hp]

/-- R117: a settlement writes its record, takes the tag off the list, counts, and sets the lamps. -/
theorem settleClaim_eq (hr : s.recordAt p = some r) (tag : DepTag) :
    s.settleClaim p tag
      = ({ s with
            departures := s.departures.filter fun d => decide (d.tag ≠ tag)
            diag := { s.diag with counters := { s.diag.counters with
              claimsWon := if s.diag.counters.claimsWon < 65535 then s.diag.counters.claimsWon + 1 else 65535 } }
          }.putRecord p (r.settle s.ladderEnv)).refreshLamps := by
  rw [State.settleClaim, updateRecord_of_some s hr, removeTag_eq]
  rfl

theorem lapseClaim_eq (hr : s.recordAt p = some r) :
    s.lapseClaim p = s.putRecord p { r with origin := if s.atSpeed then .untraced else .boarded } :=
  updateRecord_of_some s hr _

end OwnClaim

/-- Settles O25: the claimant of a claim that is not voided is its one record, which settles with the ignition on and
lapses without; what the settlement writes follows from whether it enters a level anew (`Record.ReentersLadder`). -/
theorem ownClaimSettles : Obligations.OwnClaimSettles := by
  intro s c hp hf hm hn
  have hhandled := ownClaimHandled_eq hp hf hm hn
  refine ⟨fun hvoid => ?_, fun p r e hvoid hr hid ho htag only => ⟨fun hon => ?_, fun hno => ?_⟩⟩
  · rw [hhandled, State.ownClaim, if_pos hvoid]
    rfl
  · have hclaim := ownClaim_of_claimant (s := s.selfSlotEmptied) hvoid (claimantOf_eq hr hid ho htag only)
    have hignition : s.selfSlotEmptied.ignitionOn = true := beq_iff_eq.2 hon
    rw [if_pos hignition, settleClaim_eq (s := s.selfSlotEmptied) hr, ← htag] at hclaim
    obtain ⟨horigin, hchime, hbuckled, hgrace, hrest⟩ := settle_writes (env := s.ladderEnv) ho
    refine ⟨_, r.settle s.ladderEnv, hhandled.trans (congrArg _ hclaim), rfl, horigin, hchime, hbuckled, hgrace, ?_,
      fun hstands => ?_, fun hreenters => ?_, hrest⟩
    · rw [settle_level ho, hchime]
      rfl
    · rw [settle_of_stands ho (not_reentersLadder_of_level ho hstands)]
      exact ⟨rfl, rfl, rfl, rfl⟩
    · rw [settle_of_reenters ho (reentersLadder_of_level ho hreenters)]
      exact ⟨rfl, rfl, rfl, rfl⟩
  · have hclaim := ownClaim_of_claimant (s := s.selfSlotEmptied) hvoid (claimantOf_eq hr hid ho htag only)
    have hignition : ¬ s.selfSlotEmptied.ignitionOn = true := fun hon => hno (beq_iff_eq.1 hon)
    rw [if_neg hignition, lapseClaim_eq (s := s.selfSlotEmptied) hr] at hclaim
    exact hhandled.trans (congrArg _ hclaim)

end Sys2Proof.Machine

namespace Sys2Proof.Machine

/-! ### A CLAIM of another station handled (R118, R119) -/

section PeerClaim

variable {s : State} {f : RxFrame} {tag : DepTag}

theorem claimHandled_of_handles (h : s.Handles f) (hk : f.kind = .claim)
    (htag : tag = tagOfBytes (byteAt f.payload 0) (byteAt f.payload 1)) :
    exec .claimHandled s
      = .next (if s.modeCtl.mode = .service then s.takeFrame f else (s.takeFrame f).peerClaim tag) := by
  subst htag
  show execClaimHandled s = _
  exact handleFrame_of_handles s h hk _

theorem pendingAt_eq_none (h : ∀ p r d, s.recordAt p = some r → r.origin = .claiming d → d.tag ≠ tag) :
    s.pendingAt tag = none := by
  refine List.find?_eq_none.2 fun p _ hp => ?_
  obtain ⟨r, hr, hclaims⟩ := (Option.any_eq_true _ _).1 hp
  obtain ⟨d, hd, htag⟩ := (claims_iff r tag).1 hclaims
  exact h p r d hr hd htag

theorem pendingAt_eq_some {p : Pos} {r : Record} {d : DepEntry} (hr : s.recordAt p = some r)
    (hd : r.origin = .claiming d) (htag : d.tag = tag)
    (only : ∀ q r' d', s.recordAt q = some r' → r'.origin = .claiming d' → d'.tag = tag → q = p) :
    s.pendingAt tag = some p := by
  refine find_position _ p ?_ fun q hq => ?_
  · simp [hr, (claims_iff r tag).2 ⟨d, hd, htag⟩]
  · obtain ⟨r', hr', hclaims⟩ := (Option.any_eq_true _ _).1 hq
    obtain ⟨d', hd', htag'⟩ := (claims_iff r' tag).1 hclaims
    exact only q r' d' hr' hd' htag'

theorem heldTag_eq_some_iff (r : Record) :
    r.heldTag = some tag ↔ (∃ d, r.origin = .claiming d ∧ d.tag = tag) ∨ r.origin = .moved tag := by
  cases ho : r.origin <;> simp [Record.heldTag, ho]

/-- R109: the held tags are those that records claim, or have as their MOVED origin. -/
theorem mem_heldTags_of_record {p : Pos} {r : Record} (hr : s.recordAt p = some r) (hheld : r.heldTag = some tag) :
    tag ∈ s.heldTags := by
  rw [State.recordAt] at hr
  exact (mem_heldTags_iff s tag).2 ⟨p, by rw [Seat.heldTag, hr, Option.bind_some, hheld]⟩

theorem pendingAt_of_unheld (h : tag ∉ s.heldTags) : s.pendingAt tag = none :=
  pendingAt_eq_none fun _ r d hr hd htag =>
    h (mem_heldTags_of_record hr ((heldTag_eq_some_iff r).2 (.inl ⟨d, hd, htag⟩)))

theorem removeTag_of_unlisted {list : List DepEntry} (h : tag ∉ list.map DepEntry.tag) : removeTag list tag = list :=
  List.filter_eq_self.2 fun e he => bne_iff_ne.2 fun htag => h (List.mem_map.2 ⟨e, he, htag⟩)

/-- R118: the CLAIM of a tag that is listed, and pending at no record, takes it off the list. -/
theorem peerClaim_of_listed (hpending : s.pendingAt tag = none) (hlisted : tag ∈ s.departures.map DepEntry.tag) :
    s.peerClaim tag = s.setDepartures (removeTag s.departures tag) := by
  simp only [State.peerClaim, hpending, State.claimElsewhere, (any_tag_iff s.departures tag).2 hlisted, Bool.true_or,
    if_true]

/-- R118: the CLAIM of a tag that is neither listed nor pending counts as unmatched, unless a record is MOVED by it. -/
theorem peerClaim_of_unlisted (hpending : s.pendingAt tag = none) (hnew : tag ∉ s.departures.map DepEntry.tag) :
    s.peerClaim tag = if tag ∈ s.heldTags then s else
      s.count fun k => { k with claimUnmatched := saturatingSucc k.claimUnmatched } := by
  have hany : (s.departures.any fun e => e.tag == tag) = false := Bool.eq_false_iff.2 (hnew ∘ (any_tag_iff _ _).1)
  have hlist : s.setDepartures (removeTag s.departures tag) = s := by
    rw [removeTag_of_unlisted hnew]
    rfl
  simp only [State.peerClaim, hpending, hlist, State.claimElsewhere, hany, Bool.false_or, holdsTag_iff]

/-- R119: the record that yields, once its claim has ended and the yield is counted, searches again. -/
theorem peerClaim_of_pending {p : Pos} {r : Record} (hpending : s.pendingAt tag = some p) (hr : s.recordAt p = some r) :
    s.peerClaim tag = { s with
      link := s.link.claimsEnded r.owns
      departures := s.departures.filter fun e => decide (e.tag ≠ tag)
      diag := { s.diag with counters := { s.diag.counters with
        claimsYielded :=
          if s.diag.counters.claimsYielded < 65535 then s.diag.counters.claimsYielded + 1 else 65535 } }
      }.searchOrSettle p := by
  have hlist : (s.setDepartures (removeTag s.departures tag)).recordAt p = some r := hr
  rw [State.peerClaim, hpending]
  dsimp only
  rw [State.yieldToRival, hlist]
  dsimp only
  rw [endClaimOf_eq, removeTag_eq]
  rfl

end PeerClaim

/-- Settles O26: a CLAIM of another station by where its tag stands here: listed, unknown, settled, or pending at a
record, which yields and searches again from the state `peerClaim_of_pending` writes out. -/
theorem peerClaimTakesTag : Obligations.PeerClaimTakesTag := by
  intro s f tag h hk htag
  refine ⟨fun hm => ?_, fun hm hheld hlisted => ?_, fun hm hheld hnew => ?_, fun hm hmoved hnone hnew => ?_,
    fun p r d hm hr hd hmine only => ?_⟩
  · rw [claimHandled_of_handles h hk htag, if_pos hm]
  · rw [claimHandled_of_handles h hk htag, if_neg hm,
      peerClaim_of_listed (s := s.takeFrame f) (pendingAt_of_unheld hheld) hlisted, removeTag_eq]
    rfl
  · rw [claimHandled_of_handles h hk htag, if_neg hm,
      peerClaim_of_unlisted (s := s.takeFrame f) (pendingAt_of_unheld hheld) hnew]
    exact congrArg _ (if_neg hheld)
  · obtain ⟨p, r, hr, ho⟩ := hmoved
    have hheld := mem_heldTags_of_record (s := s.takeFrame f) hr ((heldTag_eq_some_iff r).2 (.inr ho))
    rw [claimHandled_of_handles h hk htag, if_neg hm,
      peerClaim_of_unlisted (s := s.takeFrame f) (pendingAt_eq_none hnone) hnew]
    exact congrArg _ (if_pos hheld)
  · refine ⟨_, _, ?_, searchOrSettle_searched _ ?_, rfl⟩
    · rw [claimHandled_of_handles h hk htag, if_neg hm,
        peerClaim_of_pending (s := s.takeFrame f) (pendingAt_eq_some hr hd hmine only) hr]
      rfl
    · exact hr

end Sys2Proof.Machine

namespace Sys2Proof.Machine

/-! ### The Reminder View read for the outputs (R133, R138, R140) -/

section ViewRead

theorem contributes_iff (v : ViewSlot) : v.contributes = true ↔ v.cls ≠ .absent ∧ v.cls ≠ .unscanned := by
  simp [ViewSlot.contributes]

theorem anySlot_iff (c : Level → Bool) (row : ViewRow) :
    row.anySlot c = true ↔ ∃ unlatched slots p, row = .filled unlatched slots
      ∧ (slots.get p).cls ≠ .absent ∧ (slots.get p).cls ≠ .unscanned ∧ c (slots.get p).level = true := by
  cases row with
  | empty => simp [ViewRow.anySlot]
  | filled unlatched slots =>
    simp only [ViewRow.anySlot, Four.any_iff, Bool.and_eq_true, contributes_iff, and_assoc]
    constructor
    · rintro ⟨p, hp⟩
      exact ⟨unlatched, slots, p, rfl, hp⟩
    · rintro ⟨_, _, p, hrow, hp⟩
      cases hrow
      exact ⟨p, hp⟩

/-- R138, R140: some contributing slot meets a condition exactly where the view holds a level that meets it. -/
theorem any_anySlot_iff (d : Duty) (c : Level → Bool) :
    d.view.any (ViewRow.anySlot c) = true ↔ ∃ level, c level = true ∧ d.Holds level := by
  simp only [List.any_eq_true, anySlot_iff]
  constructor
  · rintro ⟨row, hrow, unlatched, slots, p, hfilled, habsent, hunscanned, hc⟩
    exact ⟨_, hc, row, hrow, unlatched, slots, p, hfilled, habsent, hunscanned, rfl⟩
  · rintro ⟨_, hc, row, hrow, unlatched, slots, p, hfilled, habsent, hunscanned, rfl⟩
    exact ⟨row, hrow, unlatched, slots, p, hfilled, habsent, hunscanned, hc⟩

theorem anyLevel2_iff (d : Duty) : d.anyLevel2 = true ↔ d.Holds .level2 := by
  rw [Duty.anyLevel2, any_anySlot_iff]
  simp

theorem anySteady_iff (d : Duty) : d.anySteady = true ↔ d.Holds .grace ∨ d.Holds .level1 ∨ d.Holds .spent := by
  rw [Duty.anySteady, any_anySlot_iff]
  simp [or_and_right, exists_or, or_assoc]

theorem isUnlatched_iff (row : ViewRow) : row.isUnlatched = true ↔ ∃ slots, row = .filled true slots := by
  cases row <;> simp [ViewRow.isUnlatched]

theorem any_isUnlatched_iff (view : List ViewRow) :
    view.any ViewRow.isUnlatched = true ↔ ∃ slots, ViewRow.filled true slots ∈ view := by
  simp only [List.any_eq_true, isUnlatched_iff]
  constructor
  · rintro ⟨_, hrow, slots, rfl⟩
    exact ⟨slots, hrow⟩
  · rintro ⟨slots, hrow⟩
    exact ⟨_, hrow, slots, rfl⟩

end ViewRead

/-! ### The tell-tale pattern and its phase (R137 to R139) -/

section TellTale

variable {s : State}

theorem outputsDriven_iff (s : State) :
    s.outputsDriven = true ↔ s.holdsDuty = true ∧ s.modeCtl.mode = .active ∧ s.vehicle.ignition = .on := by
  simp [State.outputsDriven, State.ignitionOn, Vehicle.effIgnition, and_assoc]

/-- R138: the causes of DEGRADED; with the ignition ON, vehicle data that is not fresh sets VEHICLE_LOST (R177). -/
theorem degraded_iff (hignition : s.vehicle.ignition = .on) :
    s.degraded = true ↔ (∃ slot ∈ s.duty.roster, slot.state = .silent ∨ slot.state = .lost)
      ∨ (∃ slots, ViewRow.filled true slots ∈ s.duty.view) ∨ s.table.unlatched = true ∨ s.vehicle.fresh = false := by
  rw [State.degraded, Bool.or_eq_true, Bool.or_eq_true, Bool.or_eq_true, any_isUnlatched_iff]
  simp [Vehicle.lostFlag, hignition, or_assoc]

/-- R138: the order of the patterns while the outputs are driven. -/
theorem patternWanted_of_driven (hdriven : s.outputsDriven = true) :
    s.patternWanted = if s.duty.anyLevel2 = true then .flash else if s.degraded = true then .degraded
      else if s.duty.anySteady = true then .steady else .off := by
  simp [State.patternWanted, hdriven]

theorem chimeWanted_of_driven (hdriven : s.outputsDriven = true) : s.chimeWanted = s.duty.anyLevel2 := by
  simp [State.chimeWanted, hdriven]

/-- R139: a pattern that changes begins with its on phase. -/
theorem refreshDuty_phase_of_changed (h : s.patternWanted ≠ s.duty.pattern) :
    s.refreshDuty.duty.ttOn = (s.patternWanted != .off) ∧ s.refreshDuty.duty.ttMs = 0 := by
  simp [State.refreshDuty, h]

/-- R139: a pattern that stays keeps its phase. -/
theorem refreshDuty_phase_of_kept (h : s.patternWanted = s.duty.pattern) :
    s.refreshDuty.duty.ttOn = s.duty.ttOn ∧ s.refreshDuty.duty.ttMs = s.duty.ttMs := by
  simp [State.refreshDuty, h]

end TellTale

/-- Settles O29: the view and the roster are read by `anyLevel2_iff`, `anySteady_iff` and `degraded_iff`, and the
patterns then follow in the order of `patternWanted_of_driven`. -/
theorem tellTaleAndChime : Obligations.TellTaleAndChime := by
  intro s
  obtain ⟨hpattern, hchime, -⟩ := refreshDuty_writes s
  refine ⟨fun hoff => ?_, fun hduty hmode hignition => ?_, fun hchanged => ?_, fun hkept => ?_⟩
  · refine refreshDuty_off s (Bool.eq_false_iff.2 fun hdriven => ?_)
    obtain ⟨hduty, hmode, hignition⟩ := (outputsDriven_iff s).1 hdriven
    simp [hduty, hmode, hignition] at hoff
  · have hdriven := (outputsDriven_iff s).2 ⟨hduty, hmode, hignition⟩
    rw [hpattern, hchime, patternWanted_of_driven hdriven, chimeWanted_of_driven hdriven]
    refine ⟨fun hlevel2 => ?_, fun hlevel2 => ?_⟩
    · have hany := (anyLevel2_iff s.duty).2 hlevel2
      exact ⟨if_pos hany, hany⟩
    · have hnone := (anyLevel2_iff s.duty).not.2 hlevel2
      rw [if_neg hnone]
      refine ⟨Bool.eq_false_iff.2 hnone, fun hcause => if_pos ((degraded_iff hignition).2 hcause),
        fun hroster hview htable hfresh => ?_⟩
      have hsound : ¬ s.degraded = true := fun hdegraded => by
        obtain ⟨slot, hslot, hstate⟩ | ⟨slots, hrow⟩ | hopen | hstale := (degraded_iff hignition).1 hdegraded
        · exact hstate.elim (hroster slot hslot).1 (hroster slot hslot).2
        · exact hview slots hrow
        · simp [htable] at hopen
        · simp [hfresh] at hstale
      rw [if_neg hsound]
      refine ⟨fun hheld => if_pos ((anySteady_iff s.duty).2 hheld),
        fun hgrace hlevel1 hspent => if_neg fun hany => ?_⟩
      exact ((anySteady_iff s.duty).1 hany).elim hgrace fun h => h.elim hlevel1 hspent
  · rw [hpattern] at hchanged ⊢
    obtain ⟨hon, hms⟩ := refreshDuty_phase_of_changed hchanged
    exact ⟨by rw [hon, bne_iff_ne], hms⟩
  · exact refreshDuty_phase_of_kept (hpattern ▸ hkept)

end Sys2Proof.Machine

namespace Sys2Proof.Machine

/-! ### The roster's slots (R129 to R132) -/

section Roster

variable {s : State} {n : StationNo}

theorem keepsSlot_iff (s : State) (n : StationNo) :
    s.keepsSlot n = true ↔ 1 ≤ n.toNat ∧ n.toNat ≤ 13 ∧ n ≠ s.station := by
  simp [State.keepsSlot, StationNo.hasSlot, and_assoc]

/-- R131: a slot in the state that an expiry leaves has run out exactly at the limit. -/
theorem slotRanOut_eq (hp : s.powered = true) (hm : s.modeCtl.mode ≠ .standby) (hslot : s.keepsSlot n = true)
    {state : SlotState} (hstate : (s.duty.slot n).state = state) (limit : Nat) :
    s.slotRanOut n state limit = decide (limit ≤ (s.duty.slot n).ms) := by
  simp [State.slotRanOut, hp, hm, hslot, hstate]

theorem rosterSilent_of_live (hp : s.powered = true) (hm : s.modeCtl.mode ≠ .standby) (hslot : s.keepsSlot n = true)
    (hlive : (s.duty.slot n).state = .live) :
    exec (.rosterSilent n) s = .next (if 1000 ≤ (s.duty.slot n).ms then
      { s with duty := s.duty.setSlot n { state := .silent, ms := (s.duty.slot n).ms } }.refreshDuty else s) := by
  show onlyIf _ _ _ = _
  simp only [onlyIf_next, slotRanOut_eq hp hm hslot hlive, decide_eq_true_eq]
  rfl

theorem rosterLost_of_silent (hp : s.powered = true) (hm : s.modeCtl.mode ≠ .standby) (hslot : s.keepsSlot n = true)
    (hsilent : (s.duty.slot n).state = .silent) :
    exec (.rosterLost n) s = .next (if 6000 ≤ (s.duty.slot n).ms then
      { s with duty :=
          (s.duty.setSlot n { state := .lost, ms := (s.duty.slot n).ms }).setRow n .empty }.refreshDuty else s) := by
  show onlyIf _ _ _ = _
  simp only [onlyIf_next, slotRanOut_eq hp hm hslot hsilent, decide_eq_true_eq]
  rfl

/-- R132: the slot becomes RELEASED with its time kept, and the row is emptied where the station holds duty. -/
theorem release_of_keepsSlot (hslot : s.keepsSlot n = true) :
    s.release n =
      { s with duty := if s.holdsDuty = true then
          (s.duty.setSlot n { state := .released, ms := (s.duty.slot n).ms }).setRow n .empty
        else s.duty.setSlot n { state := .released, ms := (s.duty.slot n).ms } }.refreshDuty :=
  if_pos hslot

theorem release_of_noSlot (hslot : ¬ s.keepsSlot n = true) : s.release n = s := if_neg hslot

theorem rowReleaseHandled_of_handles {f : RxFrame} (h : s.Handles f) (hk : f.kind = .rowRelease) :
    exec .rowReleaseHandled s = .next ((s.takeFrame f).release f.station) := by
  show execRowReleaseHandled s = _
  exact handleFrame_of_handles s h hk _

end Roster

/-- Settles O27: an expiry by `slotRanOut_eq` at its limit and below it, a release by whether the number has a slot
and the station holds duty. -/
theorem rosterSlotsMove : Obligations.RosterSlotsMove := by
  refine ⟨fun s n hp hm hlow hhigh hother => ?_, fun s f h hk hlow hhigh hother => ?_, fun s f h hk hnone => ?_⟩
  · have hslot := (keepsSlot_iff s n).2 ⟨hlow, hhigh, hother⟩
    refine ⟨fun hlive => ?_, fun hsilent => ?_⟩
    · rw [rosterSilent_of_live hp hm hslot hlive]
      exact ⟨fun hms => congrArg _ (if_pos hms), fun hms => congrArg _ (if_neg (Nat.not_le.2 hms))⟩
    · rw [rosterLost_of_silent hp hm hslot hsilent]
      exact ⟨fun hms => congrArg _ (if_pos hms), fun hms => congrArg _ (if_neg (Nat.not_le.2 hms))⟩
  · have hslot : (s.takeFrame f).keepsSlot f.station = true := (keepsSlot_iff s _).2 ⟨hlow, hhigh, hother⟩
    rw [rowReleaseHandled_of_handles h hk, release_of_keepsSlot hslot]
    refine ⟨fun hduty => ?_, fun hduty => ?_⟩
    · rw [if_pos (show (s.takeFrame f).holdsDuty = true from hduty)]
      rfl
    · rw [if_neg (show ¬ (s.takeFrame f).holdsDuty = true from Bool.eq_false_iff.1 hduty)]
      rfl
  · have hslot : ¬ (s.takeFrame f).keepsSlot f.station = true := fun hkeeps => by
      obtain ⟨hlow, hhigh, -⟩ := (keepsSlot_iff _ _).1 hkeeps
      omega
    rw [rowReleaseHandled_of_handles h hk, release_of_noSlot hslot]

end Sys2Proof.Machine

namespace Sys2Proof.Machine

/-! ### The slot a position byte of a STATE fills (R134) -/

section FilledSlots

variable {b : Byte}

theorem slotOfByte_of_codes {cls : Cls} {level : Level} (hcls : Cls.ofCode (b.toNat / 16) = some cls)
    (hlevel : Level.ofCode (b.toNat / 2 % 8) = some level) : slotOfByte b = some ⟨cls, level⟩ := by
  simp [slotOfByte, hcls, hlevel]

theorem slotOfByte_of_undefined
    (h : Cls.ofCode (b.toNat / 16) = none ∨ Level.ofCode (b.toNat / 2 % 8) = none) : slotOfByte b = none := by
  rcases h with hcls | hlevel
  · simp [slotOfByte, hcls]
  · cases hcls : Cls.ofCode (b.toNat / 16) <;> simp [slotOfByte, hcls, hlevel]

/-- R134: the slots of a row once a STATE has filled it. -/
def ViewRow.filledSlots (row : ViewRow) (payload : List Byte) : Four ViewSlot :=
  Four.ofFn fun p => (slotOfByte (byteAt payload p.val)).getD (row.slotBefore p)

theorem fill_eq (row : ViewRow) (payload : List Byte) :
    row.fill payload = .filled ((byteAt payload 5).getLsbD 4) (row.filledSlots payload) := rfl

theorem filledSlots_get (row : ViewRow) (payload : List Byte) (p : Pos) :
    (row.filledSlots payload).get p = (slotOfByte (byteAt payload p.val)).getD (row.slotBefore p) :=
  Four.get_ofFn _ p

end FilledSlots

/-! ### A STATE of another station handled (R128, R134) -/

section PeerState

variable {s : State} {n : StationNo} {payload : List Byte}

theorem stateHandled_of_handles {f : RxFrame} (h : s.Handles f) (hk : f.kind = .state) (hrow : f.station.isRow = true)
    (hother : f.station ≠ s.station) :
    exec .stateHandled s = .next ((s.takeFrame f).peerState f.station f.payload) := by
  have hlooked : (f.station.isRow && f.station != s.station) = true := by simp [hrow, hother]
  show execStateHandled s = _
  exact (handleFrame_of_handles s h hk _).trans (congrArg _ (if_pos hlooked))

/-- R128: the frame makes a station that holds duty yield. -/
def State.YieldsTo (s : State) (n : StationNo) (payload : List Byte) : Prop :=
  s.holdsDuty = true ∧ (byteAt payload 5).getLsbD 3 = true ∧ n.toNat < s.station.toNat

theorem yieldsTo_iff (s : State) (n : StationNo) (payload : List Byte) :
    (s.holdsDuty && dutyFlag payload && n.toNat < s.station.toNat) = true ↔ s.YieldsTo n payload := by
  simp [State.YieldsTo, dutyFlag, stateFlags, and_assoc]

theorem takesRow_iff (s : State) (n : StationNo) :
    s.takesRow n = true ↔ s.holdsDuty = true ∧ (s.modeCtl.mode = .active ∨ s.modeCtl.mode = .watch)
      ∧ (s.duty.slot n).state ≠ .released := by
  simp [State.takesRow, keepsRecords_iff, and_assoc]

theorem peerState_of_yields (h : s.YieldsTo n payload) : s.peerState n payload = s.yieldDuty :=
  if_pos ((yieldsTo_iff s n payload).2 h)

theorem peerState_of_takesRow (h : ¬ s.YieldsTo n payload) (htakes : s.takesRow n = true) :
    s.peerState n payload =
      { s with duty := s.duty.setRow n (.filled ((byteAt payload 5).getLsbD 4)
          ((s.duty.row n).filledSlots payload)) }.refreshDuty := by
  rw [State.peerState, if_neg ((yieldsTo_iff s n payload).not.2 h), if_pos htakes, fill_eq]
  rfl

theorem peerState_of_noRow (h : ¬ s.YieldsTo n payload) (hleaves : ¬ s.takesRow n = true) :
    s.peerState n payload = s :=
  (if_neg ((yieldsTo_iff s n payload).not.2 h)).trans (if_neg hleaves)

/-- R127: a yielded station does not hold duty. -/
theorem holdsDuty_of_yielded (h : s.duty.yielded = true) : s.holdsDuty = false := by
  simp [State.holdsDuty, h]

theorem outputsDriven_of_yielded (h : s.duty.yielded = true) : s.outputsDriven = false := by
  simp [State.outputsDriven, holdsDuty_of_yielded h]

/-- R128: what a yield writes, all of it in the duty unit. -/
theorem yieldDuty_writes (s : State) :
    s.yieldDuty.duty.yielded = true ∧ s.yieldDuty.holdsDuty = false
      ∧ s.yieldDuty.duty.view = List.replicate 12 .empty ∧ s.yieldDuty.duty.pattern = .off
      ∧ s.yieldDuty.duty.chime = false ∧ s.yieldDuty.duty.roster = s.duty.roster
      ∧ s.yieldDuty = { s with duty := s.yieldDuty.duty } := by
  obtain ⟨-, -, hroster, hview, hyielded⟩ :=
    refreshDuty_writes (s.setDuty { s.duty with yielded := true, view := List.replicate 12 .empty })
  obtain ⟨hpattern, hchime⟩ := refreshDuty_off _ (outputsDriven_of_yielded (s := s.setDuty
    { s.duty with yielded := true, view := List.replicate 12 .empty }) rfl)
  exact ⟨hyielded, holdsDuty_of_yielded hyielded, hview, hpattern, hchime, hroster, rfl⟩

end PeerState

/-- Settles O28: the frame makes the station yield, or its row is taken with the slots of `filledSlots_get`, or neither,
and then it only leaves the queue. -/
theorem peerStateFillsOrYields : Obligations.PeerStateFillsOrYields := by
  intro s f h hk hlow hhigh hother
  rw [stateHandled_of_handles h hk ((isRow_iff _).2 ⟨hlow, hhigh⟩) hother]
  refine ⟨fun hduty hflag hlower => ?_, fun hduty hstays hmode hslot => ?_, fun hnone => ?_⟩
  · have hyields : (s.takeFrame f).YieldsTo f.station f.payload := ⟨hduty, hflag, hlower⟩
    exact ⟨_, congrArg _ (peerState_of_yields hyields), yieldDuty_writes (s.takeFrame f)⟩
  · have hkeeps : ¬ (s.takeFrame f).YieldsTo f.station f.payload := fun hyields => hstays hyields.2
    have htakes : (s.takeFrame f).takesRow f.station = true := (takesRow_iff s _).2 ⟨hduty, hmode, hslot⟩
    refine ⟨(s.duty.row f.station).filledSlots f.payload, congrArg _ (peerState_of_takesRow hkeeps htakes),
      fun p => ⟨fun cls level hcls hlevel => ?_,
        fun hundefined => ⟨fun hempty => ?_, fun unlatched before hfilled => ?_⟩⟩⟩
    · rw [filledSlots_get, slotOfByte_of_codes hcls hlevel]
      rfl
    · rw [filledSlots_get, slotOfByte_of_undefined hundefined, hempty]
      rfl
    · rw [filledSlots_get, slotOfByte_of_undefined hundefined, hfilled]
      rfl
  · have hkeeps : ¬ (s.takeFrame f).YieldsTo f.station f.payload := fun ⟨hduty, hyields⟩ =>
      hnone.elim (fun hno => Bool.eq_false_iff.1 hno hduty) fun hstays => hstays.1 hyields
    have hleaves : ¬ (s.takeFrame f).takesRow f.station = true := fun htakes => by
      obtain ⟨hduty, hmode, hslot⟩ := (takesRow_iff s _).1 htakes
      obtain hno | ⟨-, hservice | hreleased⟩ := hnone
      · exact Bool.eq_false_iff.1 hno hduty
      · simp [hservice] at hmode
      · exact hslot hreleased
    exact congrArg _ (peerState_of_noRow hkeeps hleaves)

end Sys2Proof.Machine

namespace Sys2Proof.Machine

/-! ### What offering a frame comes to (R164, R165) -/

section OfferEntry

variable {q rest : List TxEntry} {e : TxEntry}

theorem waits_iff (kind : FrameKind) (x : TxEntry) : x.waits kind = true ↔ x.kind = kind ∧ x.sending = false := by
  simp [TxEntry.waits]

/-- R164: a STATE joins only where none is queued. -/
theorem offerEntry_joins (h : e.kind ≠ .state ∨ ∀ x ∈ q, x.kind ≠ .state) (hroom : q.length < 6) :
    offerEntry q e = { txq := q ++ [e], taken := true, overflow := false } := by
  simp only [offerEntry, txCapacity, hroom, if_true]
  rw [if_neg]
  simpa [or_iff_not_imp_left] using h

theorem offerEntry_replaces (hk : e.kind = .state) (hqueued : ∃ x ∈ q, x.kind = .state) :
    offerEntry q e
      = { txq := q.map fun x => if x.kind == .state then x.give e.payload else x
          taken := true, overflow := false } := by
  rw [offerEntry, if_pos]
  simpa [hk] using hqueued

/-- R165: at a full queue a STATE that replaces none, and a DIAG_REPLY, are refused. -/
theorem offerEntry_refuses (h : e.kind = .diagReply ∨ e.kind = .state ∧ ∀ x ∈ q, x.kind ≠ .state)
    (hfull : 6 ≤ q.length) :
    offerEntry q e = { txq := q, taken := false, overflow := true } := by
  have hreplaces : ¬ (e.kind == .state && q.any fun x => x.kind == .state) = true := by
    rcases h with h | ⟨-, h⟩
    · simp [h]
    · simpa using fun _ => h
  have hkind : (e.kind == .state || e.kind == .diagReply) = true := by
    rcases h with h | ⟨h, -⟩ <;> simp [h]
  rw [offerEntry, if_neg hreplaces, if_neg (by rw [txCapacity]; omega), if_pos hkind]

/-- R165: at a full queue any other frame displaces a waiting STATE or DIAG_REPLY. -/
theorem offerEntry_displaces (hk : e.kind ≠ .state) (hk' : e.kind ≠ .diagReply) (hfull : 6 ≤ q.length)
    (hd : displace q = some rest) : offerEntry q e = { txq := rest ++ [e], taken := true, overflow := true } := by
  rw [offerEntry, if_neg (by simp [hk]), if_neg (by rw [txCapacity]; omega), if_neg (by simp [hk, hk']), hd]

/-- R165: with neither waiting it is refused. -/
theorem offerEntry_findsNoPlace (hk : e.kind ≠ .state) (hfull : 6 ≤ q.length) (hd : displace q = none) :
    offerEntry q e = { txq := q, taken := false, overflow := true } := by
  rw [offerEntry, if_neg (by simp [hk]), if_neg (by rw [txCapacity]; omega), hd]
  exact ite_self _

/-- R164, R165: what an offered frame does to the queue. -/
theorem offerEntry_cases (q : List TxEntry) (e : TxEntry) :
    (offerEntry q e).txq = q
      ∨ (offerEntry q e).txq = q.map (fun x => if x.kind == .state then x.give e.payload else x)
      ∨ ((e.kind ≠ .state ∨ ∀ x ∈ q, x.kind ≠ .state) ∧ q.length < 6 ∧ (offerEntry q e).txq = q ++ [e])
      ∨ ∃ rest, e.kind ≠ .state ∧ displace q = some rest ∧ (offerEntry q e).txq = rest ++ [e] := by
  by_cases hqueued : e.kind = .state ∧ ∃ x ∈ q, x.kind = .state
  · exact .inr (.inl (by rw [offerEntry_replaces hqueued.1 hqueued.2]))
  · have hnew : e.kind ≠ .state ∨ ∀ x ∈ q, x.kind ≠ .state := by
      simpa [or_iff_not_imp_left] using hqueued
    rcases Nat.lt_or_ge q.length 6 with hroom | hfull
    · exact .inr (.inr (.inl ⟨hnew, hroom, by rw [offerEntry_joins hnew hroom]⟩))
    · by_cases hk : e.kind = .state
      · exact .inl (by rw [offerEntry_refuses (.inr ⟨hk, hnew.resolve_left (not_not_intro hk)⟩) hfull])
      · cases hd : displace q with
        | none => exact .inl (by rw [offerEntry_findsNoPlace hk hfull hd])
        | some rest =>
          by_cases hk' : e.kind = .diagReply
          · exact .inl (by rw [offerEntry_refuses (.inl hk') hfull])
          · exact .inr (.inr (.inr ⟨rest, hk, rfl, by rw [offerEntry_displaces hk hk' hfull hd]⟩))

theorem displace_sublist (h : displace q = some rest) : rest.Sublist q := by
  unfold displace at h
  split at h
  · exact Option.some.inj h ▸ List.eraseP_sublist
  · split at h
    · exact Option.some.inj h ▸ List.eraseP_sublist
    · contradiction

end OfferEntry

/-! ### The bounds of the two queues (R161, R164) -/

section Bounds

variable {l m : Link}

/-- R164: the bound speaks of the queued kinds alone. -/
theorem txBounded_iff (l : Link) :
    l.TxBounded ↔ l.txq.length ≤ 6 ∧ (l.txq.map TxEntry.kind).count .state ≤ 1 := by
  rw [Link.TxBounded, ← List.countP_eq_length_filter, List.count, List.countP_map]
  rfl

theorem txBounded_of_fewer (hkinds : (m.txq.map TxEntry.kind).Sublist (l.txq.map TxEntry.kind)) (h : l.TxBounded) :
    m.TxBounded := by
  rw [txBounded_iff, ← List.length_map TxEntry.kind] at h ⊢
  exact ⟨hkinds.length_le.trans h.1, (hkinds.count_le _).trans h.2⟩

@[simp] theorem give_kind (e : TxEntry) (payload : List Byte) : (e.give payload).kind = e.kind := by
  unfold TxEntry.give
  split <;> rfl

/-- R164, R165: whatever is offered, the bound stands. -/
theorem txBounded_of_offered {e : TxEntry} (htxq : m.txq = (offerEntry l.txq e).txq) (h : l.TxBounded) :
    m.TxBounded := by
  obtain hsame | hgiven | ⟨hnew, hroom, hjoined⟩ | ⟨rest, hk, hrest, hdisplaced⟩ := offerEntry_cases l.txq e
  · exact txBounded_of_fewer (by rw [htxq, hsame]) h
  · have hkinds : m.txq.map TxEntry.kind = l.txq.map TxEntry.kind := by
      rw [htxq, hgiven, List.map_map]
      refine List.map_congr_left fun x _ => ?_
      dsimp only [Function.comp]
      split
      · exact give_kind _ _
      · rfl
    exact txBounded_of_fewer (hkinds ▸ .refl _) h
  · rw [txBounded_iff] at h ⊢
    rw [htxq, hjoined]
    obtain ⟨-, hone⟩ := h
    refine ⟨by simpa using hroom, ?_⟩
    rcases hnew with hk | hnone
    · simpa [hk] using hone
    · have hzero : (l.txq.map TxEntry.kind).count .state = 0 := List.count_eq_zero.2 (by simpa using hnone)
      rw [List.map_append, List.count_append, hzero, Nat.zero_add]
      exact List.count_le_length
  · rw [txBounded_iff] at h ⊢
    rw [htxq, hdisplaced]
    obtain ⟨hlength, hone⟩ := h
    refine ⟨by simpa using (displace_length hrest).trans_le hlength, ?_⟩
    simpa [hk] using (((displace_sublist hrest).map TxEntry.kind).count_le _).trans hone

/-- R160, R161: frames of three classes, counted class by class. -/
theorem rxq_length_eq (h : ∀ f ∈ l.rxq, f.kind.frameClass.isSome) :
    l.rxq.length = l.classCount .event + l.classCount .status + l.classCount .service := by
  unfold Link.classCount
  generalize l.rxq = q at h
  induction q with
  | nil => rfl
  | cons f q ih =>
    have hrest := ih fun x hx => h x (.tail _ hx)
    obtain ⟨c, hc⟩ := Option.isSome_iff_exists.1 (h f (.head _))
    cases c <;> simp [hc] <;> omega

/-- R161: the places and the classes alone bound the queue; the counts and the total follow. -/
theorem rxBounded_iff (l : Link) : l.RxBounded ↔ l.sharedInUse ≤ 4 ∧ ∀ f ∈ l.rxq, f.kind.frameClass.isSome := by
  constructor
  · rintro ⟨hshared, -, hclasses, -⟩
    exact ⟨hshared, hclasses⟩
  · rintro ⟨hshared, hclasses⟩
    have hlength := rxq_length_eq hclasses
    have hshared' := hshared
    simp only [Link.sharedInUse, rxDedicated] at hshared'
    refine ⟨hshared, fun c => ?_, hclasses, ?_⟩
    · cases c <;> omega
    · rw [Link.held]
      split <;> omega

theorem classCount_of_fewer (hframes : m.rxq.Sublist l.rxq) (c : FrameClass) : m.classCount c ≤ l.classCount c :=
  (hframes.filter _).length_le

theorem rxBounded_of_fewer (hframes : m.rxq.Sublist l.rxq) (h : l.RxBounded) : m.RxBounded := by
  rw [rxBounded_iff] at h ⊢
  obtain ⟨hshared, hclasses⟩ := h
  refine ⟨?_, fun f hf => hclasses f (hframes.subset hf)⟩
  have hevent := classCount_of_fewer hframes .event
  have hstatus := classCount_of_fewer hframes .status
  have hservice := classCount_of_fewer hframes .service
  simp only [Link.sharedInUse] at hshared ⊢
  omega

theorem classCount_of_placed {f : RxFrame} {c : FrameClass} (hclass : f.kind.frameClass = some c)
    (hrxq : m.rxq = l.rxq ++ [f]) (c' : FrameClass) : m.classCount c' = l.classCount c' + if c' = c then 1 else 0 := by
  simp only [Link.classCount, hrxq, List.filter_append, List.length_append, List.filter_singleton, hclass]
  cases c <;> cases c' <;> rfl

theorem hasPlace_iff (l : Link) (c : FrameClass) : l.hasPlace c = true ↔ l.classCount c < 2 ∨ l.sharedInUse < 4 := by
  rw [Link.hasPlace, Bool.or_eq_true, decide_eq_true_iff, decide_eq_true_iff]
  rfl

/-- R161: a frame of a class that has a place leaves the queue within its places. -/
theorem rxBounded_of_placed {f : RxFrame} {c : FrameClass} (hclass : f.kind.frameClass = some c)
    (hplace : l.hasPlace c = true) (hrxq : m.rxq = l.rxq ++ [f]) (h : l.RxBounded) : m.RxBounded := by
  rw [rxBounded_iff] at h ⊢
  obtain ⟨hshared, hclasses⟩ := h
  refine ⟨?_, fun x hx => ?_⟩
  · rw [hasPlace_iff] at hplace
    simp only [Link.sharedInUse, rxDedicated, classCount_of_placed hclass hrxq] at hshared hplace ⊢
    cases c <;> simp <;> omega
  · rw [hrxq, List.mem_append, List.mem_singleton] at hx
    rcases hx with hx | rfl
    · exact hclasses x hx
    · rw [hclass]; rfl

end Bounds

end Sys2Proof.Machine

namespace Sys2Proof.Machine

-- Elaborated all at once, the many short lemmas below pass the memory limit with their threads.
set_option Elab.async false

/-! ### The queues from a state to a later one (R161, R164) -/

/-- From s to t the bounds of both queues are kept. -/
structure State.KeepsQueues (s t : State) : Prop where
  tx : s.link.TxBounded → t.link.TxBounded
  rx : s.link.RxBounded → t.link.RxBounded

theorem State.KeepsQueues.refl (s : State) : s.KeepsQueues s := ⟨id, id⟩

/-- R148: the entry that starts keeps its kind. -/
theorem startSending_kinds (q : List TxEntry) (e : TxEntry) :
    (startSending q e).map TxEntry.kind = q.map TxEntry.kind := by
  induction q with
  | nil => rfl
  | cons x rest ih =>
    rw [startSending]
    split
    · rfl
    · rw [List.map_cons, ih, List.map_cons]

/-- R160: the class under which a frame is offered is the class of its kind. -/
theorem offeredClass_frameClass {s : State} {f : RxFrame} {c : FrameClass} (h : s.offeredClass f = some c) :
    f.kind.frameClass = some c := by
  unfold State.offeredClass at h
  split at h
  · next hservice =>
    split at h
    · rwa [hservice]
    · contradiction
  · next hclass => rwa [hclass]
  · contradiction

section KeepsQueues

variable {s t u : State} (h : s.KeepsQueues t)
include h

theorem State.KeepsQueues.trans (h' : t.KeepsQueues u) : s.KeepsQueues u := ⟨h'.tx ∘ h.tx, h'.rx ∘ h.rx⟩

/-- A change that leaves some of the queued kinds and some of the received frames, in their order. -/
theorem State.KeepsQueues.fewer
    (htx : (u.link.txq.map TxEntry.kind).Sublist (t.link.txq.map TxEntry.kind))
    (hrx : u.link.rxq.Sublist t.link.rxq) : s.KeepsQueues u :=
  h.trans ⟨txBounded_of_fewer htx, rxBounded_of_fewer hrx⟩

/-- A change that leaves both queues. -/
theorem State.KeepsQueues.same (hqueues : u.link.txq = t.link.txq ∧ u.link.rxq = t.link.rxq := by simp) :
    s.KeepsQueues u :=
  h.fewer (hqueues.1 ▸ .refl _) (hqueues.2 ▸ .refl _)

theorem State.KeepsQueues.emptied (htx : u.link.txq = []) (hrx : u.link.rxq = []) : s.KeepsQueues u :=
  h.fewer (htx ▸ List.nil_sublist _) (hrx ▸ List.nil_sublist _)

/-! #### The transmit queue -/

theorem State.KeepsQueues.offerTx (e : TxEntry) : s.KeepsQueues (t.offerTx e) := by
  refine h.trans ⟨fun htx => ?_, rxBounded_of_fewer (.refl _)⟩
  have htxq : (t.offerTx e).link.txq = (t.offerOf e).txq := rfl
  rw [State.offerOf] at htxq
  split at htxq
  · exact txBounded_of_offered htxq htx
  · exact txBounded_of_fewer (htxq ▸ .refl _) htx

theorem State.KeepsQueues.place (kind : FrameKind) (payload : List Byte) : s.KeepsQueues (t.place kind payload) :=
  h.offerTx _

theorem State.KeepsQueues.withdraw (c : TxEntry → Bool) : s.KeepsQueues (t.withdraw c) :=
  h.fewer (List.filter_sublist.map _) (.refl _)

theorem State.KeepsQueues.withdrawProposals : s.KeepsQueues t.withdrawProposals := h.withdraw _

theorem State.KeepsQueues.withdrawAlerts (p : Pos) : s.KeepsQueues (t.withdrawAlerts p) := h.withdraw _

theorem State.KeepsQueues.placeState : s.KeepsQueues t.placeState :=
  (h.place .state t.emission.report).same (by simp [State.placeState])

theorem State.KeepsQueues.emit : s.KeepsQueues t.emit := by
  have hrebuilt : s.KeepsQueues t.rebuildReport := h.same
  unfold State.emit
  split
  · exact hrebuilt.placeState
  · exact h.placeState

/-- R149, R150, R151, R164: an entry that waits again, with newer content or its own, keeps its kind. -/
theorem State.KeepsQueues.waitingAgain {c : TxEntry → Bool}
    (htx : u.link.txq = (t.link.txq.filter c).map fun e => if e.sending then e.waitAgain else e)
    (hrx : u.link.rxq = t.link.rxq) : s.KeepsQueues u := by
  refine h.fewer ?_ (hrx ▸ .refl _)
  have hkind : ∀ e : TxEntry, (if e.sending then e.waitAgain else e).kind = e.kind := fun e => by
    split <;> rfl
  rw [htx, List.map_map]
  simp only [Function.comp_def, hkind]
  exact List.filter_sublist.map _

/-! #### The receive queue -/

theorem State.KeepsQueues.takeFrame (f : RxFrame) : s.KeepsQueues (t.takeFrame f) :=
  h.fewer (.refl _) List.erase_sublist

theorem State.KeepsQueues.offerRx (f : RxFrame) : s.KeepsQueues (t.offerRx f) := by
  unfold State.offerRx
  split
  · exact h
  · next c hc =>
    split
    · next hplace =>
      exact h.trans ⟨txBounded_of_fewer (.refl _), rxBounded_of_placed (offeredClass_frameClass hc) hplace rfl⟩
    · exact h.same

/-! #### Sleep agreement and alerts -/

theorem State.KeepsQueues.testReasons : s.KeepsQueues t.testReasons := by
  obtain heq | ⟨w, reason, -, heq⟩ := testReasons_cases t
  · rwa [heq]
  · rw [heq]
    exact (h.offerTx (newEntry .sleepRefuse (refusePayload reason) none)).same (by simp [State.placeRefusal])

theorem State.KeepsQueues.restartIdle : s.KeepsQueues t.restartIdle := by
  unfold State.restartIdle
  split
  · exact State.KeepsQueues.testReasons h.same
  · exact h

theorem State.KeepsQueues.openWindow : s.KeepsQueues t.openWindow := by
  unfold State.openWindow
  split
  · exact State.KeepsQueues.testReasons h.same
  · exact h

theorem State.KeepsQueues.closeWindow : s.KeepsQueues t.closeWindow := h.same

theorem State.KeepsQueues.idleReached : s.KeepsQueues t.idleReached := by
  unfold State.idleReached State.propose
  repeat' split
  · exact h
  · exact h.restartIdle
  · exact h
  · exact h.offerTx _
  · exact (h.offerTx _).restartIdle

theorem State.KeepsQueues.endAlert (p : Pos) (after : Alert) : s.KeepsQueues (t.endAlert p after) := by
  unfold State.endAlert
  split
  · split
    · exact State.KeepsQueues.withdrawAlerts h.same p
    · exact h
  · exact h

theorem State.KeepsQueues.acknowledgeAlerts : s.KeepsQueues t.acknowledgeAlerts :=
  List.foldlRecOn positionsInOrder _ (motive := s.KeepsQueues) h fun _ ht p _ => ht.endAlert p _

theorem State.KeepsQueues.withdrawAlertsOf (p : Pos) (r : Record) : s.KeepsQueues (t.withdrawAlertsOf p r) := by
  unfold State.withdrawAlertsOf
  split
  · exact h.withdrawAlerts p
  · exact h

theorem State.KeepsQueues.sendAlert (p : Pos) (cls : Cls) (count : Nat) : s.KeepsQueues (t.sendAlert p cls count) :=
  State.KeepsQueues.place h.same _ _

theorem State.KeepsQueues.raiseAlert (p : Pos) : s.KeepsQueues (t.raiseAlert p) := by
  unfold State.raiseAlert
  repeat' split
  · exact h.sendAlert _ _ _
  · exact h
  · exact h

theorem State.KeepsQueues.alertPeriod (p : Pos) : s.KeepsQueues (t.alertPeriod p) := by
  unfold State.alertPeriod
  repeat' split
  · exact h
  · exact h.sendAlert _ _ _
  · exact h.endAlert _ _
  all_goals exact h

/-! #### Changes of mode -/

theorem State.KeepsQueues.enterWatch : s.KeepsQueues t.enterWatch :=
  h.withdrawProposals.same (by simp [enterWatch_writes])

theorem State.KeepsQueues.enterStandby : s.KeepsQueues t.enterStandby :=
  h.withdrawProposals.same (by simp [enterStandby_writes, Link.quietDown])

theorem State.KeepsQueues.haltEntry : s.KeepsQueues t.haltEntry := h.emptied rfl rfl

theorem State.KeepsQueues.ownDecision : s.KeepsQueues t.ownDecision := by
  unfold State.ownDecision
  split
  · exact h.enterWatch
  · exact h.enterStandby

theorem State.KeepsQueues.wake (pins : BitVec 5) : s.KeepsQueues (t.wake pins) := h.emptied rfl rfl

theorem State.KeepsQueues.serviceExit : s.KeepsQueues t.serviceExit := h.emptied rfl rfl

theorem State.KeepsQueues.heardWake (pins : BitVec 5) : s.KeepsQueues (t.heardWake pins) := by
  unfold State.heardWake
  split
  · exact h.closeWindow.restartIdle
  · exact h.same
  · exact h.wake pins
  · exact h

theorem State.KeepsQueues.heardHalt : s.KeepsQueues t.heardHalt := by
  unfold State.heardHalt
  repeat' split
  · exact h.haltEntry
  · exact h.haltEntry
  · exact h.same (by simp [State.haltInStandby])
  · exact h.same
  · exact h.serviceExit.haltEntry

theorem State.KeepsQueues.wakeOnCause (pins : BitVec 5) : s.KeepsQueues (t.wakeOnCause pins) := by
  unfold State.wakeOnCause
  split
  · exact h.wake pins
  · exact h

theorem State.KeepsQueues.takeSample (sampled : StandbyWatch × Bool) (pins : BitVec 5) :
    s.KeepsQueues (t.takeSample sampled pins) := by
  unfold State.takeSample State.localWakeCause
  repeat' split
  · exact h.same ⟨rfl, rfl⟩
  · exact h.emptied rfl rfl
  · exact h.same

theorem State.KeepsQueues.requestWake : s.KeepsQueues t.requestWake := h.same ⟨rfl, rfl⟩

theorem State.KeepsQueues.leftBehind : s.KeepsQueues t.leftBehind := by
  unfold State.leftBehind
  exact List.foldlRecOn positionsInOrder _ (motive := s.KeepsQueues) h.requestWake.same fun _ ht p _ => ht.raiseAlert p

theorem State.KeepsQueues.endWindow (w : Window) : s.KeepsQueues (t.endWindow w) := by
  unfold State.endWindow State.activeWindowEnd
  repeat' split
  · exact h.closeWindow.restartIdle
  · exact h.closeWindow.ownDecision
  · exact h.closeWindow

theorem State.KeepsQueues.aloneReached : s.KeepsQueues t.aloneReached := by
  unfold State.aloneReached
  split
  · exact h.same
  · exact h.ownDecision

/-! #### Claims, records, Departure List -/

theorem State.KeepsQueues.endClaimOf (r : Record) : s.KeepsQueues (t.endClaimOf r) := by
  unfold State.endClaimOf
  split
  · refine h.fewer ?_ (.refl _)
    rw [State.endClaim, setLink_link, List.map_map]
    exact List.filter_sublist.map _
  all_goals exact h

theorem State.KeepsQueues.searchOrSettle (p : Pos) : s.KeepsQueues (t.searchOrSettle p) := by
  unfold State.searchOrSettle
  repeat' split
  · exact h
  · exact State.KeepsQueues.offerTx h.same _
  · exact h.same

theorem State.KeepsQueues.yieldCutOff (p : Pos) : s.KeepsQueues (t.yieldCutOff p) :=
  State.KeepsQueues.searchOrSettle h.same p

theorem State.KeepsQueues.claimCutOff (c : ClaimRef) : s.KeepsQueues (t.claimCutOff c) := by
  unfold State.claimCutOff
  repeat' split
  · exact h
  · exact h.yieldCutOff _
  · exact h

theorem State.KeepsQueues.ownClaim (c : ClaimRef) : s.KeepsQueues (t.ownClaim c) := by
  unfold State.ownClaim
  repeat' split
  · exact h
  · exact h
  · exact h.same (by simp [State.settleClaim])
  · exact h.same (by simp [State.lapseClaim])

theorem State.KeepsQueues.peerClaim (tag : DepTag) : s.KeepsQueues (t.peerClaim tag) := by
  have hlist : s.KeepsQueues (t.setDepartures (removeTag t.departures tag)) := h.same
  unfold State.peerClaim State.yieldToRival
  dsimp only
  repeat' split
  · exact (hlist.endClaimOf _).yieldCutOff _
  · exact hlist
  · exact hlist.same

theorem State.KeepsQueues.peerDepart (payload : List Byte) : s.KeepsQueues (t.peerDepart payload) := by
  unfold State.peerDepart
  split
  · exact h.same
  · exact h

theorem State.KeepsQueues.arrive (p : Pos) (fromUnscanned : Bool) : s.KeepsQueues (t.arrive p fromUnscanned) := by
  unfold State.arrive
  split
  · exact h.same
  · exact State.KeepsQueues.searchOrSettle h.same p

theorem State.KeepsQueues.handOn (p : Pos) (r : Record) : s.KeepsQueues (t.handOn p r) :=
  State.KeepsQueues.place h.same _ _

theorem State.KeepsQueues.depart (p : Pos) : s.KeepsQueues (t.depart p) := by
  unfold State.depart
  split
  · exact h
  · next r _ =>
    have hended : s.KeepsQueues ((t.endClaimOf r).withdrawAlertsOf p r) := (h.endClaimOf r).withdrawAlertsOf p r
    dsimp only
    split
    · exact (hended.handOn p r).same (by simp [State.endRecord])
    · exact hended.same (by simp [State.endRecord])

theorem State.KeepsQueues.endRecordWork : s.KeepsQueues t.endRecordWork :=
  List.foldlRecOn positionsInOrder _ (motive := s.KeepsQueues) h fun _ ht p _ => by
    split
    · exact (ht.endClaimOf _).withdrawAlertsOf p _
    · exact ht

/-! #### Service and vehicle data -/

theorem State.KeepsQueues.enterServiceMode : s.KeepsQueues t.enterServiceMode := by
  have hwork : s.KeepsQueues t.serviceBlocks := h.endRecordWork.withdrawProposals.same (by simp [State.serviceBlocks])
  exact State.KeepsQueues.placeState hwork.same

theorem State.KeepsQueues.ignitionBecameOn : s.KeepsQueues t.ignitionBecameOn := by
  have hwork : s.KeepsQueues t.acknowledgeAlerts.withdrawProposals := h.acknowledgeAlerts.withdrawProposals
  unfold State.ignitionBecameOn
  dsimp only
  split
  · exact hwork.same
  · exact hwork.same

theorem State.KeepsQueues.takeVehicleChange (ch : VehicleChange) : s.KeepsQueues (t.takeVehicleChange ch) := by
  unfold State.takeVehicleChange
  dsimp only
  split
  · exact State.KeepsQueues.ignitionBecameOn h.same
  · split
    · exact h.same
    · exact h.same

theorem State.KeepsQueues.setVehicle (x : Vehicle) : s.KeepsQueues (t.setVehicle x) := h.same

theorem State.KeepsQueues.refreshOutputs : s.KeepsQueues t.refreshOutputs := h.same

theorem State.KeepsQueues.deriveVehicle (after : Vehicle) : s.KeepsQueues (t.deriveVehicle after) :=
  ((h.setVehicle _).takeVehicleChange _).refreshOutputs

theorem State.KeepsQueues.doorReport (isOpen : Bool) : s.KeepsQueues (t.doorReport isOpen) := by
  unfold State.doorReport
  split
  · exact State.KeepsQueues.restartIdle h.same
  · exact h

theorem State.KeepsQueues.acknowledge (set : Bool) : s.KeepsQueues (t.acknowledge set) := by
  unfold State.acknowledge
  split
  · exact h.acknowledgeAlerts
  · exact h

theorem State.KeepsQueues.vehicleFrom (n : StationNo) (payload : List Byte) :
    s.KeepsQueues (t.vehicleFrom n payload) := by
  unfold State.vehicleFrom
  split
  · exact ((h.deriveVehicle _).doorReport _).acknowledge _
  · exact h.same

/-! #### The completion of a sweep -/

theorem State.KeepsQueues.takeSeatChange (p : Pos) (change : SeatChange) :
    s.KeepsQueues (t.takeSeatChange p change) := by
  cases change with
  | none => exact h
  | arrival fromUnscanned => exact h.arrive p fromUnscanned
  | departure => exact h.depart p
  | classChange => exact h.same ⟨rfl, rfl⟩
  | exchange => exact (h.depart p).arrive p false

theorem State.KeepsQueues.takeClasses (before : Four Cls) (test : Bool) : s.KeepsQueues (t.takeClasses before test) :=
  List.foldlRecOn positionsInOrder _ (motive := s.KeepsQueues) h fun _ ht p _ => ht.takeSeatChange p _

theorem State.KeepsQueues.latchOpened : s.KeepsQueues t.latchOpened := by
  unfold State.latchOpened
  split
  · exact h.same
  · exact h.place _ _

theorem State.KeepsQueues.takeLatch (event : LatchEvent) : s.KeepsQueues (t.takeLatch event) := by
  unfold State.takeLatch
  split
  · exact h
  · exact h
  · exact h.latchOpened
  · exact h.latchOpened
  · exact h.same

theorem State.KeepsQueues.sendPendingRelease : s.KeepsQueues t.sendPendingRelease := by
  unfold State.sendPendingRelease
  split
  · exact State.KeepsQueues.place h.same _ _
  · exact h

theorem State.KeepsQueues.tableStep (before : Four Cls) (test : Bool) (o : SensingOutcome) :
    s.KeepsQueues (t.tableStep before test o) :=
  (State.KeepsQueues.takeLatch (h.takeClasses before test).same o.latchEvent).sendPendingRelease

theorem State.KeepsQueues.ladderStep : s.KeepsQueues t.ladderStep := h.same

theorem State.KeepsQueues.reportStep : s.KeepsQueues t.reportStep := by
  have hplaced : s.KeepsQueues t.rebuildReport.placeIfCalled := by
    unfold State.placeIfCalled
    split
    · exact State.KeepsQueues.placeState h.same
    · exact h.same
  exact hplaced.same (by simp [State.reportStep])

theorem State.KeepsQueues.endAlertsByClass : s.KeepsQueues t.endAlertsByClass :=
  List.foldlRecOn positionsInOrder _ (motive := s.KeepsQueues) h fun _ ht p _ => by
    split
    · exact ht.endAlert p _
    · exact ht

theorem State.KeepsQueues.vacantStep : s.KeepsQueues t.vacantStep := by
  unfold State.vacantStep
  repeat' split
  · exact h.same
  · exact h.enterStandby
  · exact h.same
  · exact h

theorem State.KeepsQueues.wakeOthers (ownChange : Bool) : s.KeepsQueues (t.wakeOthers ownChange) := by
  unfold State.wakeOthers
  split
  · exact h.requestWake.same
  · exact h

theorem State.KeepsQueues.watchStep (ownChange : Bool) : s.KeepsQueues (t.watchStep ownChange) := by
  unfold State.watchStep
  split
  · exact h.vacantStep.wakeOthers ownChange
  · exact (h.wakeOthers ownChange).vacantStep

theorem State.KeepsQueues.modeStep (c : OwnChanges) : s.KeepsQueues (t.modeStep c) := by
  have hidle : s.KeepsQueues (t.endAlertsByClass.idleStep (c.cls || c.belt)) := by
    unfold State.idleStep
    split
    · exact h.endAlertsByClass.restartIdle
    · exact h.endAlertsByClass
  have hlatch : s.KeepsQueues ((t.endAlertsByClass.idleStep (c.cls || c.belt)).latchReason c.latch) := by
    unfold State.latchReason
    split
    · exact hidle.testReasons
    · exact hidle
  exact State.KeepsQueues.watchStep hlatch.same _

theorem State.KeepsQueues.endFlight : s.KeepsQueues t.endFlight := h.same

theorem State.KeepsQueues.completeSweep (number : Word16) (test : Bool) (tagAt : Option Pos) (r : SweepReadings) :
    s.KeepsQueues (t.completeSweep number test tagAt r) := by
  have hclassified : s.KeepsQueues (t.classifiedBy number test tagAt r) := h.same (by simp [State.classifiedBy])
  have hladders : s.KeepsQueues ((t.classifiedBy number test tagAt r).tableStep (t.table.seats.map Seat.cls) test
      (sense t.config.running number test tagAt r t.sfe)).ladderStep := (hclassified.tableStep _ _ _).ladderStep
  rw [completeSweep_eq_modeStep]
  exact (hladders.reportStep.modeStep _).endFlight

/-! #### The row link -/

theorem State.KeepsQueues.hearPulse (c : PulseClass) (pins : BitVec 5) : s.KeepsQueues (t.hearPulse c pins) := by
  unfold State.hearPulse
  split
  · exact h.same
  · exact h.heardWake pins
  · exact h.heardHalt
  · exact h
  · exact h

theorem State.KeepsQueues.edge : s.KeepsQueues t.edge := h.same ⟨rfl, rfl⟩

theorem State.KeepsQueues.stuckLine : s.KeepsQueues t.stuckLine := h.same ⟨rfl, rfl⟩

theorem State.KeepsQueues.hearAtRelease (length : Nat) (pins : BitVec 5) :
    s.KeepsQueues (t.hearAtRelease length pins) := by
  unfold State.hearAtRelease
  split
  · exact h.stuckLine.edge.wakeOnCause pins
  · exact h.edge.heardHalt
  · exact (h.edge.hearPulse .form pins).wakeOnCause pins
  · exact h.edge.heardWake pins
  · exact h

theorem State.KeepsQueues.startFrame : s.KeepsQueues t.startFrame := by
  unfold State.startFrame
  split
  · exact h.fewer (by rw [setLink_link, startSending_kinds]) (.refl _)
  · exact h

theorem State.KeepsQueues.cutOff (e : TxEntry) : s.KeepsQueues (t.cutOff e) := by
  have hended : s.KeepsQueues (t.setLink t.link.mismatch) := h.waitingAgain rfl rfl
  unfold State.cutOff State.frameCutOff
  split
  · exact State.KeepsQueues.claimCutOff hended.same _
  · exact State.KeepsQueues.restartIdle hended.same
  · exact hended.same

theorem State.KeepsQueues.frameSent (e : TxEntry) (echoed : Bool) : s.KeepsQueues (t.frameSent e echoed) := by
  have hended : s.KeepsQueues (t.setLink (t.link.sent e)) := h.waitingAgain rfl rfl
  unfold State.frameSent State.sentReport State.alertSent
  repeat' split
  · exact State.KeepsQueues.openWindow hended.same
  · exact State.KeepsQueues.endAlert hended.same _ _
  · exact hended.same
  · exact hended.same

theorem State.KeepsQueues.hearProposal (kind : FrameKind) : s.KeepsQueues (t.hearProposal kind) := by
  unfold State.hearProposal
  split
  · exact h.withdrawProposals.openWindow
  · exact h

theorem State.KeepsQueues.numberAndEcho : s.KeepsQueues t.numberAndEcho := h.same ⟨rfl, rfl⟩

theorem State.KeepsQueues.hearCells (r : Reading) (echoed : Bool) : s.KeepsQueues (t.hearCells r echoed) := by
  have hheard : s.KeepsQueues t.edge.numberAndEcho := h.edge.numberAndEcho
  unfold State.hearCells State.takeReading State.wholeFrame
  repeat' split
  · exact h.edge
  · exact (State.KeepsQueues.hearProposal hheard.same _).same ⟨rfl, rfl⟩
  · exact (State.KeepsQueues.hearProposal hheard.same _).offerRx _
  · exact h.edge.same
  · exact h.edge.same
  · exact h.edge

/-! #### Diagnosis -/

theorem State.KeepsQueues.reply (item : Nat) (result : Result) (data : List Byte) :
    s.KeepsQueues (t.reply item result data) :=
  h.place _ _

theorem State.KeepsQueues.refuse (item : Nat) (result : Result) : s.KeepsQueues (t.refuse item result) := h.reply _ _ _

theorem State.KeepsQueues.restartService : s.KeepsQueues t.restartService := h.same

theorem State.KeepsQueues.answerRead (item : Nat) (data : Option (List Byte)) :
    s.KeepsQueues (t.answerRead item data) := by
  unfold State.answerRead
  split
  · exact h.reply _ _ _
  · exact h.refuse _ _

theorem State.KeepsQueues.clearCapture (arg : Nat) : s.KeepsQueues (t.setDiag (t.diag.clearCapture arg)) := h.same

theorem State.KeepsQueues.afterReading (group : Nat) (clear : Bool) : s.KeepsQueues (t.afterReading group clear) := by
  unfold State.afterReading
  repeat' split
  · exact h.same
  · exact h.same
  · exact h

theorem State.KeepsQueues.measure (arg : Nat) : s.KeepsQueues (t.measure arg) := by
  unfold State.measure
  repeat' split
  · exact h.refuse _ _
  · exact h.refuse _ _
  · exact h.refuse _ _
  · exact h.refuse _ _
  · exact h.same (by simp [State.startOneShot])

theorem State.KeepsQueues.serviceEntry (arg : Nat) : s.KeepsQueues (t.serviceEntry arg) := by
  unfold State.serviceEntry
  repeat' split
  · exact h.refuse _ _
  · exact h.refuse _ _
  · exact h.reply _ _ _
  · exact h.enterServiceMode.reply _ _ _

theorem State.KeepsQueues.serviceLeave (arg : Nat) : s.KeepsQueues (t.serviceLeave arg) := by
  unfold State.serviceLeave
  repeat' split
  · exact h.refuse _ _
  · exact h.refuse _ _
  · exact h.refuse _ _
  · exact h.serviceExit.reply _ _ _

theorem State.KeepsQueues.storeQuery (arg : Nat) : s.KeepsQueues (t.storeQuery arg) := by
  unfold State.storeQuery
  repeat' split
  · exact h.refuse _ _
  · exact h.refuse _ _
  · exact h.refuse _ _
  · exact h.same

theorem State.KeepsQueues.commitDone : s.KeepsQueues t.commitDone := State.KeepsQueues.reply h.same _ _ _

theorem State.KeepsQueues.configFrame (item value : Nat) : s.KeepsQueues (t.configFrame item value) := by
  unfold State.configFrame
  repeat' split
  · exact h.refuse _ _
  · exact h.refuse _ _
  · exact h.refuse _ _
  · exact State.KeepsQueues.reply h.same _ _ _

theorem State.KeepsQueues.tick : s.KeepsQueues t.tick := by
  unfold State.tick
  split
  · exact h.same ⟨rfl, rfl⟩
  · exact h

end KeepsQueues

/-! ### Every command and every step keeps the queues within their bounds -/

/-- What a meaning answers keeps the bounds of the state it was given. -/
def State.AnswersQueued (s : State) (o : Out) : Prop := ∀ t, o = .next t → s.KeepsQueues t

section AnswersQueued

variable {s : State}

theorem answersQueued_next {t : State} (h : s.KeepsQueues t) : s.AnswersQueued (.next t) := by
  rintro _ ⟨⟩
  exact h

theorem answersQueued_onlyIf {c : Bool} {after : State} (h : s.KeepsQueues after) :
    s.AnswersQueued (onlyIf c after s) := by
  refine answersQueued_next ?_
  split
  · exact h
  · exact .refl s

theorem answersQueued_expire {p : Pos} {timer : Record → Timer} {limit : Nat} {f : Record → Record} :
    s.AnswersQueued (s.expire p timer limit f) :=
  answersQueued_onlyIf (State.KeepsQueues.refl s).same

theorem answersQueued_handleFrame {kind : FrameKind} {owner : RxFrame → State → State}
    (h : ∀ f t, s.KeepsQueues t → s.KeepsQueues (owner f t)) : s.AnswersQueued (s.handleFrame kind owner) := by
  refine answersQueued_next ?_
  split
  · exact h _ _ ((State.KeepsQueues.refl s).takeFrame _)
  · exact .refl s

theorem answersQueued_handleQuery {item : Nat} {answer : Nat → State → State}
    (h : ∀ arg t, s.KeepsQueues t → s.KeepsQueues (answer arg t)) : s.AnswersQueued (s.handleQuery item answer) := by
  refine answersQueued_next ?_
  split
  · exact h _ _ ((State.KeepsQueues.refl s).takeFrame _).restartService
  · exact .refl s

end AnswersQueued

/-- Every command keeps both queues within their bounds. -/
theorem exec_answersQueued (s : State) (i : Instr) : s.AnswersQueued (exec i s) := by
  have h := State.KeepsQueues.refl s
  cases i with
  | powerOn pins => exact answersQueued_next (h.emptied rfl rfl)
  | sweepCompletion r =>
    refine answersQueued_next ?_
    split
    · exact h.completeSweep _ _ _ _
    · exact h
  | oneShotCompletion r =>
    refine answersQueued_next ?_
    split
    · exact State.KeepsQueues.place h.same _ _
    · exact h
  | graceTimerExpiry p | escalationTimerExpiry p | chimeSecond p | slowTimerExpiry p | buckledRunExpiry p =>
    exact answersQueued_expire
  | sweepStart | seatedTimeSecond | lampFlashToggle | tellTaleFlashToggle | departureEntryExpiry | rosterSilent
  | rosterLost | restartedHoldExpiry | eventLossHoldExpiry | fenceEnd | stuckHoldEnd | wakePulseSendStart =>
    exact answersQueued_onlyIf h.same
  | vehicleDataLost => exact answersQueued_onlyIf (h.deriveVehicle _)
  | emissionTimerExpiry => exact answersQueued_onlyIf h.emit
  | lineStuck => exact answersQueued_onlyIf h.stuckLine
  | pulseEnd length pins => exact answersQueued_onlyIf (h.edge.hearPulse _ pins)
  | frameTxStart => exact answersQueued_onlyIf h.startFrame
  | arbitrationLost => exact answersQueued_onlyIf (h.waitingAgain rfl rfl)
  | bitMismatch =>
    refine answersQueued_next ?_
    split
    · exact h.cutOff _
    · exact h
  | frameSent echoed =>
    refine answersQueued_next ?_
    split
    · exact h.frameSent _ echoed
    · exact h
  | wakePulseRelease heard pins =>
    refine answersQueued_onlyIf ?_
    split
    · exact State.KeepsQueues.wakeOnCause h.same pins
    · exact State.KeepsQueues.hearAtRelease h.same _ pins
  | frameReceptionEnd cells echoed => exact answersQueued_onlyIf (h.hearCells _ echoed)
  | sleepRefuseHandled => exact answersQueued_handleFrame fun _ _ ht => ht.closeWindow.restartIdle
  | ownClaimHandled =>
    refine answersQueued_next ?_
    split
    · exact State.KeepsQueues.ownClaim h.same _
    · exact h
  | claimHandled =>
    show s.AnswersQueued (execClaimHandled s)
    refine answersQueued_handleFrame fun _ _ ht => ?_
    split
    · exact ht
    · exact ht.peerClaim _
  | departHandled =>
    show s.AnswersQueued (execDepartHandled s)
    refine answersQueued_handleFrame fun _ _ ht => ?_
    split
    · exact ht
    · exact ht.peerDepart _
  | rowReleaseHandled =>
    show s.AnswersQueued (execRowReleaseHandled s)
    exact answersQueued_handleFrame fun _ _ ht => ht.same
  | alertHandled => exact answersQueued_handleFrame fun _ _ ht => ht.restartIdle
  | vehicleHandled => exact answersQueued_handleFrame fun _ _ ht => ht.vehicleFrom _ _
  | stateHandled =>
    show s.AnswersQueued (execStateHandled s)
    refine answersQueued_handleFrame fun _ _ ht => ?_
    split
    · exact ht.same
    · exact ht
  | sleepProposeHandled => exact answersQueued_handleFrame fun _ _ ht => ht
  | readCapture =>
    show s.AnswersQueued (execReadCapture s)
    exact answersQueued_handleQuery fun _ _ ht => ht.answerRead _ _
  | clearCapture => exact answersQueued_handleQuery fun arg _ ht => (ht.clearCapture arg).reply _ _ _
  | readCounters =>
    show s.AnswersQueued (execReadCounters s)
    exact answersQueued_handleQuery fun _ _ ht => (ht.afterReading _ _).answerRead _ _
  | readPosition =>
    show s.AnswersQueued (execReadPosition s)
    exact answersQueued_handleQuery fun _ _ ht => ht.answerRead _ _
  | measure => exact answersQueued_handleQuery fun arg _ ht => ht.measure arg
  | readRoster =>
    show s.AnswersQueued (execReadRoster s)
    exact answersQueued_handleQuery fun _ _ ht => ht.answerRead _ _
  | readConfig =>
    show s.AnswersQueued (execReadConfig s)
    exact answersQueued_handleQuery fun _ _ ht => ht.answerRead _ _
  | enterService => exact answersQueued_handleQuery fun arg _ ht => ht.serviceEntry arg
  | leaveService => exact answersQueued_handleQuery fun arg _ ht => ht.serviceLeave arg
  | storeConfig => exact answersQueued_handleQuery fun arg _ ht => ht.storeQuery arg
  | configWrite => exact answersQueued_handleFrame fun _ _ ht => ht.restartService.configFrame _ _
  | commitCompletion =>
    refine answersQueued_onlyIf ?_
    split
    · exact h.commitDone.serviceExit.haltEntry
    · exact h.commitDone
  | serviceTimerExpiry => exact answersQueued_onlyIf h.serviceExit
  | idleTimerExpiry => exact answersQueued_onlyIf h.idleReached
  | windowEnd =>
    refine answersQueued_next ?_
    repeat' split
    · exact h.endWindow _
    · exact h
    · exact h
  | aloneTimerExpiry => exact answersQueued_onlyIf h.aloneReached
  | watchTimerExpiry => exact answersQueued_onlyIf h.enterStandby
  | leftBehindExpiry => exact answersQueued_onlyIf h.leftBehind
  | alertPeriodExpiry p => exact answersQueued_onlyIf (h.alertPeriod p)
  | standbyWatchSample ratios latchOpen pins =>
    refine answersQueued_next ?_
    split
    · exact h.takeSample _ pins
    · exact h
  | lossOfSupply => exact answersQueued_onlyIf (h.same (by simp [State.unpowered]))
  | diagQueryItemNotDefined =>
    refine answersQueued_next ?_
    split
    · exact (h.takeFrame _).restartService.refuse _ _
    · exact h

/-- A step passes a millisecond, or takes the front command on the rest of the queue. -/
theorem step_keepsQueues {s t : State} (h : step s = .next t) : s.KeepsQueues t := by
  unfold step at h
  split at h
  · exact answersQueued_next (State.KeepsQueues.refl s).tick t h
  · exact (State.KeepsQueues.refl s).same.trans (exec_answersQueued _ _ t h)

/-- Settles O54: the bounds of both queues are what a step keeps. -/
theorem linkQueuesStayBounded : Obligations.LinkQueuesStayBounded := fun s t hstep => by
  obtain ⟨htx, hrx⟩ := step_keepsQueues hstep
  exact ⟨htx, hrx⟩

end Sys2Proof.Machine

namespace Sys2Proof.Machine

/-! ### Which frame is displaced (R165) -/

section Displace

variable {before after : List TxEntry} {x : TxEntry}

theorem eraseP_first {c : TxEntry → Bool} (hx : c x = true) (hbefore : ∀ y ∈ before, ¬ c y = true) :
    (before ++ x :: after).eraseP c = before ++ after := by
  rw [List.eraseP_append_right _ hbefore, List.eraseP_cons_of_pos hx]

theorem not_waits_iff (kind : FrameKind) (y : TxEntry) : ¬ y.waits kind = true ↔ y.kind ≠ kind ∨ y.sending = true := by
  simp [waits_iff, or_iff_not_imp_left]

/-- R165: the waiting STATE is displaced first. -/
theorem displace_state (hx : x.kind = .state ∧ x.sending = false)
    (hbefore : ∀ y ∈ before, y.kind ≠ .state ∨ y.sending = true) :
    displace (before ++ x :: after) = some (before ++ after) := by
  have hwaits := (waits_iff .state x).2 hx
  rw [displace, if_pos (List.any_eq_true.2 ⟨x, by simp, hwaits⟩),
    eraseP_first hwaits fun y hy => (not_waits_iff _ y).2 (hbefore y hy)]

/-- R165: with no STATE waiting, the waiting DIAG_REPLY placed first is. -/
theorem displace_diagReply (hstate : ∀ y ∈ before ++ x :: after, y.kind ≠ .state ∨ y.sending = true)
    (hx : x.kind = .diagReply ∧ x.sending = false) (hbefore : ∀ y ∈ before, y.kind ≠ .diagReply ∨ y.sending = true) :
    displace (before ++ x :: after) = some (before ++ after) := by
  have hwaits := (waits_iff .diagReply x).2 hx
  have hnone : ¬ (before ++ x :: after).any (TxEntry.waits .state) = true := fun h => by
    obtain ⟨y, hy, hw⟩ := List.any_eq_true.1 h
    exact (not_waits_iff _ y).2 (hstate y hy) hw
  rw [displace, if_neg hnone, if_pos (List.any_eq_true.2 ⟨x, by simp, hwaits⟩),
    eraseP_first hwaits fun y hy => (not_waits_iff _ y).2 (hbefore y hy)]

theorem displace_eq_none {q : List TxEntry} (hstate : ∀ y ∈ q, y.kind ≠ .state ∨ y.sending = true)
    (hreply : ∀ y ∈ q, y.kind ≠ .diagReply ∨ y.sending = true) : displace q = none := by
  have hnone : ∀ kind, (∀ y ∈ q, y.kind ≠ kind ∨ y.sending = true) → ¬ q.any (TxEntry.waits kind) = true :=
    fun kind hkind h => by
      obtain ⟨y, hy, hw⟩ := List.any_eq_true.1 h
      exact (not_waits_iff _ y).2 (hkind y hy) hw
  rw [displace, if_neg (hnone _ hstate), if_neg (hnone _ hreply)]

end Displace

/-! ### A frame offered by a station (R164, R165, R167) -/

section OfferTx

variable {s : State} {e : TxEntry} {q : List TxEntry} {taken : Bool}

/-- R167: at invalid straps nothing happens. -/
theorem offerTx_of_invalidStraps (h : s.validStraps = false) (e : TxEntry) : s.offerTx e = s := by
  simp [State.offerTx, State.offerOf, h, State.setLink, State.setDiag]

theorem offerOf_of_validStraps (h : s.validStraps = true) (e : TxEntry) : s.offerOf e = offerEntry s.link.txq e :=
  if_pos h

theorem offerTx_of_fits (h : s.validStraps = true)
    (hoffer : offerEntry s.link.txq e = { txq := q, taken, overflow := false }) :
    s.offerTx e = { s with link := { s.link with txq := q } } := by
  rw [State.offerTx, offerOf_of_validStraps h, hoffer]
  rfl

/-- R165: the diagnosis once a frame refused or displaced has counted in TX_OVERFLOW. -/
def Diag.overflowed (d : Diag) : Diag :=
  { d with counters := { d.counters with txOverflow := saturatingSucc d.counters.txOverflow } }

theorem offerTx_of_overflow (h : s.validStraps = true)
    (hoffer : offerEntry s.link.txq e = { txq := q, taken, overflow := true }) :
    s.offerTx e = { s with link := { s.link with txq := q }, diag := s.diag.overflowed } := by
  rw [State.offerTx, offerOf_of_validStraps h, hoffer]
  rfl

end OfferTx

/-- Settles O38: the queue at invalid straps, replaced in, joined, refused from, and displaced in. -/
theorem transmitQueueTakes : Obligations.TransmitQueueTakes := by
  refine ⟨fun s kind payload => rfl, fun s e full _ _ hfull => ⟨fun hv => offerTx_of_invalidStraps hv e, fun hv => ?_⟩⟩
  obtain rfl : full = s.diag.overflowed := hfull
  refine ⟨fun hk hqueued => ?_, fun hnew hroom => offerTx_of_fits hv (offerEntry_joins hnew hroom),
    fun hk hnone hl => offerTx_of_overflow hv (offerEntry_refuses (.inr ⟨hk, hnone⟩) hl),
    fun hk hl => offerTx_of_overflow hv (offerEntry_refuses (.inl hk) hl),
    fun hk hk' hl => ⟨?_, fun hstate => ⟨?_, ?_⟩⟩⟩
  · rw [offerTx_of_fits hv (offerEntry_replaces hk hqueued)]
    simp [TxEntry.give]
  · intro before x after hq hx hwaits hbefore
    exact offerTx_of_overflow hv (offerEntry_displaces hk hk' hl (hq ▸ displace_state ⟨hx, hwaits⟩ hbefore))
  · intro before x after hq hx hwaits hbefore
    exact offerTx_of_overflow hv
      (offerEntry_displaces hk hk' hl (hq ▸ displace_diagReply (hq ▸ hstate) ⟨hx, hwaits⟩ hbefore))
  · intro hreply
    exact offerTx_of_overflow hv (offerEntry_findsNoPlace hk hl (displace_eq_none hstate hreply))

end Sys2Proof.Machine

namespace Sys2Proof.Machine

theorem isAt_iff {timer : Timer} {ms : Nat} (h : timer = .running ms) (limit : Nat) :
    timer.isAt limit = true ↔ limit ≤ ms := by
  rw [h, isAt_running, decide_eq_true_iff]

/-! ### Entries into WATCH and STANDBY (R188, R194) -/

section Entries

variable (s : State)

theorem anyOccupant_iff : s.table.anyOccupant = true ↔ ∃ p, (s.table.seats.get p).cls.isOccupant = true :=
  Four.any_iff _ _

/-- R188: a change that leaves the blocks no entry into WATCH touches. -/
theorem eq_of_watchKeeps {s t : State}
    (h : t.pending = s.pending ∧ t.powered = s.powered ∧ t.freeCount = s.freeCount ∧ t.straps = s.straps
      ∧ t.config = s.config ∧ t.sfe = s.sfe ∧ t.classes = s.classes ∧ t.table = s.table ∧ t.departures = s.departures
      ∧ t.vehicle = s.vehicle ∧ t.diag = s.diag) :
    t = { s with
      modeCtl := t.modeCtl, sweep := t.sweep, emission := t.emission, link := t.link, lamps := t.lamps
      duty := t.duty } := by
  obtain ⟨hpending, hpowered, hfree, hstraps, hconfig, hsfe, hclasses, htable, hdepartures, hvehicle, hdiag⟩ := h
  rw [← hpending, ← hpowered, ← hfree, ← hstraps, ← hconfig, ← hsfe, ← hclasses, ← htable, ← hdepartures, ← hvehicle,
    ← hdiag]

theorem enterWatch_entersWatch : s.EntersWatch s.enterWatch := by
  obtain ⟨hmode, hsweep, hemission, hlink⟩ := enterWatch_writes s
  obtain ⟨hlamps, hpattern, hchime⟩ := enterWatch_off s
  refine ⟨hmode, ?_, by rw [hemission], hlamps, hchime, hpattern, ?_⟩
  · rw [← hsweep]
    exact eq_of_watchKeeps (enterWatch_keeps s)
  · rw [hlink]
    rfl

/-- R194: a change that leaves the blocks no STANDBY entry touches. -/
theorem eq_of_standbyKeeps {s t : State}
    (h : t.pending = s.pending ∧ t.powered = s.powered ∧ t.freeCount = s.freeCount ∧ t.straps = s.straps
      ∧ t.config = s.config ∧ t.classes = s.classes ∧ t.departures = s.departures ∧ t.vehicle = s.vehicle
      ∧ t.diag = s.diag) :
    t = { s with
      modeCtl := t.modeCtl, sweep := t.sweep, sfe := t.sfe, table := t.table, emission := t.emission
      link := t.link, lamps := t.lamps, duty := t.duty } := by
  obtain ⟨hpending, hpowered, hfree, hstraps, hconfig, hclasses, hdepartures, hvehicle, hdiag⟩ := h
  rw [← hpending, ← hpowered, ← hfree, ← hstraps, ← hconfig, ← hclasses, ← hdepartures, ← hvehicle, ← hdiag]

theorem enterStandby_entersStandby : s.EntersStandby s.enterStandby := by
  obtain ⟨hmode, hsweep, hsfe, htable, hemission, hlink⟩ := enterStandby_writes s
  obtain ⟨hlamps, hpattern, hchime⟩ := enterStandby_off s
  refine ⟨hmode, hsweep, hsfe, ?_, ?_, ?_, ?_, ?_, hlamps, hchime, hpattern, htable,
    eq_of_standbyKeeps (enterStandby_keeps s)⟩
  all_goals rw [hlink]; rfl

theorem enterStandby_rxq : s.enterStandby.link.rxq = s.link.rxq := rfl

/-- R186: a window that closes first makes no difference to what the entry leaves. -/
theorem State.EntersWatch.of_closeWindow {s t : State} (h : s.closeWindow.EntersWatch t) : s.EntersWatch t := h

theorem State.EntersStandby.of_closeWindow {s t : State} (h : s.closeWindow.EntersStandby t) : s.EntersStandby t := h

/-- R186: the own decision, by the classes of the positions. -/
theorem ownDecision_enters :
    ((∃ p, (s.table.seats.get p).cls.isOccupant = true) → s.EntersWatch s.ownDecision)
      ∧ ((∀ p, (s.table.seats.get p).cls.isOccupant = false) →
        s.EntersStandby s.ownDecision ∧ s.ownDecision.link.rxq = s.link.rxq) := by
  constructor
  · intro h
    rw [State.ownDecision, if_pos ((anyOccupant_iff s).2 h)]
    exact enterWatch_entersWatch s
  · intro h
    have hnone : ¬ s.table.anyOccupant = true := fun hany => by
      obtain ⟨p, hp⟩ := (anyOccupant_iff s).1 hany
      exact absurd (h p) (by simp [hp])
    rw [State.ownDecision, if_neg hnone]
    exact ⟨enterStandby_entersStandby s, enterStandby_rxq s⟩

end Entries

/-! ### The refusal reason (R184) -/

section Reason

variable {s : State}

theorem anyAlert_iff (s : State) :
    s.table.anyAlert = true ↔ ∃ p r n timer, s.recordAt p = some r ∧ r.alert = .active n timer := by
  have hactive : ∀ a : Alert, a.isActive = true ↔ ∃ n timer, a = .active n timer := fun a => by
    cases a <;> simp [Alert.isActive]
  simp only [Positions.anyAlert, Four.any_iff, Option.any_eq_true, hactive, State.recordAt]
  exact ⟨fun ⟨p, r, hr, n, timer, ha⟩ => ⟨p, r, n, timer, hr, ha⟩,
    fun ⟨p, r, n, timer, hr, ha⟩ => ⟨p, r, hr, n, timer, ha⟩⟩

theorem recentActivity_iff (s : State) :
    s.recentActivity = true ↔ (∃ ms, s.modeCtl.idle = .running ms ∧ ms < 5000)
      ∨ (s.modeCtl.idle = .stopped ∧ s.vehicle.ignition = .on) := by
  unfold State.recentActivity
  cases s.modeCtl.idle with
  | stopped => simp [State.ignitionOn, Vehicle.effIgnition]
  | running ms =>
    rw [decide_eq_true_iff]
    simp [recentMs]

/-- R184: the first row of the table that holds. -/
theorem refusalReason_eq (hmode : s.modeCtl.mode ≠ .service) :
    s.refusalReason = if s.table.anyAlert = true then some .alertActive
      else if s.sfe.latch = some .opened then some .latchOpen
      else if s.recentActivity = true then some .recentActivity else none :=
  if_neg hmode

end Reason

/-! ### The idle timer at its end (R183) -/

section IdleTimer

variable {s : State} {ms : Nat}

theorem idleTimerExpiry_of_running (hp : s.powered = true) (hm : s.modeCtl.mode = .active)
    (hi : s.modeCtl.idle = .running ms) :
    exec .idleTimerExpiry s = .next (if 1000 * s.config.running.tIdle ≤ ms then s.idleReached else s) := by
  have hguard : (s.powered && s.modeCtl.mode == .active && s.modeCtl.idle.isAt (seconds s.config.running.tIdle)) = true
      ↔ 1000 * s.config.running.tIdle ≤ ms := by
    rw [hp, hm, ← isAt_iff hi]
    rfl
  show execIdleTimerExpiry s = _
  rw [execIdleTimerExpiry, onlyIf_next]
  simp only [hguard]

/-- R183: with no window, no standing reason and no proposal queued, one is placed. -/
theorem idleReached_proposes (hwindow : s.modeCtl.window = none) (halert : s.table.anyAlert = false)
    (hlatch : s.sfe.latch ≠ some .opened) (hnone : ∀ e ∈ s.link.txq, e.kind ≠ .sleepPropose) :
    s.idleReached = s.propose := by
  have hstanding : s.standingReason = false := by simp [State.standingReason, halert, hlatch]
  have hholds : s.link.holdsProposal = false := by simpa [Link.holdsProposal] using hnone
  simp [State.idleReached, hwindow, hstanding, hholds]

/-- R183: a proposal that is refused restarts the idle timer. -/
theorem propose_of_refused (hwindow : s.modeCtl.window = none) (hi : s.modeCtl.idle = .running ms)
    (hrefused : (s.offerOf proposal).taken = false) :
    s.propose = (s.offerTx proposal).setModeCtl { s.modeCtl with idle := .running 0 } := by
  have hidle : (s.offerTx proposal).modeCtl = s.modeCtl := rfl
  rw [State.propose, if_neg (by simp [hrefused]), restartIdle_noWindow _ (by rw [hidle, hwindow]), hidle, hi]
  rfl

theorem propose_of_taken (htaken : (s.offerOf proposal).taken = true) : s.propose = s.offerTx proposal := if_pos htaken

/-- R165: a waiting STATE or DIAG_REPLY can be displaced. -/
theorem displace_isSome {q : List TxEntry}
    (h : ∃ x ∈ q, x.sending = false ∧ (x.kind = .state ∨ x.kind = .diagReply)) : ∃ rest, displace q = some rest := by
  obtain ⟨x, hx, hwaits, hkind⟩ := h
  unfold displace
  split
  · exact ⟨_, rfl⟩
  · next hstate =>
    have hreply : q.any (TxEntry.waits .diagReply) = true := by
      refine List.any_eq_true.2 ⟨x, hx, (waits_iff _ x).2 ⟨hkind.resolve_left fun hk => hstate ?_, hwaits⟩⟩
      exact List.any_eq_true.2 ⟨x, hx, (waits_iff _ x).2 ⟨hk, hwaits⟩⟩
    exact ⟨_, if_pos hreply⟩

end IdleTimer

/-! ### The window and the alone timer at their ends (R186, R187) -/

section Windows

variable {s : State} {w : Window}

theorem windowEnd_of_open (hp : s.powered = true) (hw : s.modeCtl.window = some w) :
    exec .windowEnd s = .next (if 200 ≤ w.ms then s.endWindow w else s) := by
  show execWindowEnd s = _
  simp only [execWindowEnd, hp, hw]
  rfl

/-- Log entry 9: with the window closed first, the idle timer restarts and no reason is tested. -/
theorem closeWindow_restartIdle (s : State) :
    s.closeWindow.restartIdle
      = { s with modeCtl := { s.modeCtl with window := none, idle := s.modeCtl.idle.restart } } := by
  rw [restartIdle_noWindow _ rfl]
  rfl

/-- R186: where the mark is set or a reason holds, the station stays ACTIVE. -/
theorem endWindow_of_refused (hm : s.modeCtl.mode = .active) (h : w.refusedHere = true ∨ s.refusalReason ≠ none) :
    s.endWindow w = { s with modeCtl := { s.modeCtl with window := none, idle := s.modeCtl.idle.restart } } := by
  have hstays : (w.refusedHere || s.refusalReason.isSome) = true := by
    rwa [Bool.or_eq_true, Option.isSome_iff_ne_none]
  rw [State.endWindow, if_pos hm, State.activeWindowEnd, if_pos hstays, closeWindow_restartIdle]

theorem endWindow_of_agreed (hm : s.modeCtl.mode = .active) (hmark : w.refusedHere = false)
    (hreason : s.refusalReason = none) : s.endWindow w = s.closeWindow.ownDecision := by
  rw [State.endWindow, if_pos hm, State.activeWindowEnd, if_neg (by simp [hmark, hreason])]

theorem aloneTimerExpiry_of_running {ms : Nat} (hp : s.powered = true) (hm : s.modeCtl.mode = .active)
    (ha : s.modeCtl.alone = .running ms) :
    exec .aloneTimerExpiry s = .next (if 10000 ≤ ms then s.aloneReached else s) := by
  have hguard : (s.powered && s.modeCtl.mode == .active && s.modeCtl.alone.isAt aloneMs) = true ↔ 10000 ≤ ms := by
    rw [hp, hm, ← isAt_iff ha]
    rfl
  show execAloneTimerExpiry s = _
  rw [execAloneTimerExpiry, onlyIf_next]
  simp only [hguard]

end Windows

/-- R183: what IDLE_TIMER_EXPIRY does in ACTIVE, by the first case that holds. -/
theorem idleTimer_atEnd {s : State} {ms : Nat} (hi : s.modeCtl.idle = .running ms) :
    (s.modeCtl.window ≠ none → s.idleReached = s)
      ∧ (s.modeCtl.window = none → s.table.anyAlert = true ∨ s.sfe.latch = some .opened →
        s.idleReached = { s with modeCtl := { s.modeCtl with idle := .running 0 } })
      ∧ (s.modeCtl.window = none → s.table.anyAlert = false → s.sfe.latch ≠ some .opened →
        (∃ e ∈ s.link.txq, e.kind = .sleepPropose) → s.idleReached = s) := by
  refine ⟨fun hwindow => ?_, fun hwindow hreason => ?_, fun hwindow halert hlatch hqueued => ?_⟩
  · rw [State.idleReached, if_pos (Option.isSome_iff_ne_none.2 hwindow)]
  · have hstanding : s.standingReason = true := by simpa [State.standingReason] using hreason
    rw [State.idleReached, if_neg (by simp [hwindow]), if_pos hstanding, restartIdle_noWindow s hwindow, hi]
    rfl
  · have hstanding : s.standingReason = false := by simp [State.standingReason, halert, hlatch]
    have hholds : s.link.holdsProposal = true := by simpa [Link.holdsProposal] using hqueued
    simp [State.idleReached, hwindow, hstanding, hholds]

/-- R183, R165, R167: what comes of the proposal. -/
theorem propose_cases {s : State} {ms : Nat} (hwindow : s.modeCtl.window = none) (hi : s.modeCtl.idle = .running ms) :
    (s.validStraps = true → s.link.txq.length < 6 →
        s.propose = { s with link := { s.link with txq := s.link.txq ++ [proposal] } })
      ∧ (s.validStraps = true → 6 ≤ s.link.txq.length →
        (∃ x ∈ s.link.txq, x.sending = false ∧ (x.kind = .state ∨ x.kind = .diagReply)) →
          s.propose = s.offerTx proposal)
      ∧ (s.validStraps = true → 6 ≤ s.link.txq.length →
        (∀ x ∈ s.link.txq, x.sending = true ∨ (x.kind ≠ .state ∧ x.kind ≠ .diagReply)) →
        s.propose = { s with modeCtl := { s.modeCtl with idle := .running 0 }, diag := s.diag.overflowed })
      ∧ (s.validStraps = false → s.propose = { s with modeCtl := { s.modeCtl with idle := .running 0 } }) := by
  have hk : proposal.kind ≠ .state := by decide
  have hk' : proposal.kind ≠ .diagReply := by decide
  refine ⟨fun hv hroom => ?_, fun hv hfull hwaits => ?_, fun hv hfull hnone => ?_, fun hv => ?_⟩
  · have hoffer := offerEntry_joins (q := s.link.txq) (.inl hk) hroom
    rw [propose_of_taken (by rw [offerOf_of_validStraps hv, hoffer]), offerTx_of_fits hv hoffer]
  · obtain ⟨rest, hrest⟩ := displace_isSome hwaits
    exact propose_of_taken (by rw [offerOf_of_validStraps hv, offerEntry_displaces hk hk' hfull hrest])
  · have hoffer := offerEntry_findsNoPlace hk hfull (displace_eq_none (fun x hx => (hnone x hx).symm.imp And.left id)
      fun x hx => (hnone x hx).symm.imp And.right id)
    rw [propose_of_refused hwindow hi (by rw [offerOf_of_validStraps hv, hoffer]), offerTx_of_overflow hv hoffer]
    rfl
  · rw [propose_of_refused hwindow hi (by rw [State.offerOf, if_neg (by simp [hv])]), offerTx_of_invalidStraps hv]
    rfl

/-- Settles O45: the three timers at and below their limits, and the table of reasons. -/
theorem sleepAgreementTimers : Obligations.SleepAgreementTimers := by
  refine ⟨fun s ms hp hm hi => ⟨fun hms => ?_, fun hms => ?_⟩, fun s hp => ⟨fun w hw hms => ?_, fun w hw hms => ?_,
    fun ms hm ha => ⟨fun hms => ?_, fun hms => ?_⟩⟩, fun s alerting recent halerting hrecent => ?_⟩
  · rw [idleTimerExpiry_of_running hp hm hi, if_neg (by omega)]
  · rw [idleTimerExpiry_of_running hp hm hi, if_pos hms]
    obtain ⟨hopen, hstanding, hqueued⟩ := idleTimer_atEnd hi
    refine ⟨fun hw => by rw [hopen hw], fun hw hr => by rw [hstanding hw hr], fun hw halert hlatch =>
      ⟨fun hq => by rw [hqueued hw halert hlatch hq], fun hnone => ?_⟩⟩
    obtain ⟨hroom, hdisplaces, hrefused, hinvalid⟩ := propose_cases hw hi
    rw [idleReached_proposes hw halert hlatch hnone]
    exact ⟨fun hv hl => congrArg _ (hroom hv hl), fun hv hl => ⟨fun hx => congrArg _ (hdisplaces hv hl hx),
      fun hx => congrArg _ (hrefused hv hl hx)⟩, fun hv => congrArg _ (hinvalid hv)⟩
  · rw [windowEnd_of_open hp hw, if_neg (by omega)]
  · rw [windowEnd_of_open hp hw, if_pos hms]
    refine ⟨fun hm => ?_, fun hm => ⟨fun hr => by rw [endWindow_of_refused hm hr], fun hmark hr =>
      ⟨_, rfl, ?_⟩⟩⟩
    · rw [State.endWindow, if_neg hm]
      rfl
    · rw [endWindow_of_agreed hm hmark hr]
      obtain ⟨hwatch, hstandby⟩ := ownDecision_enters s.closeWindow
      exact ⟨fun ho => (hwatch ho).of_closeWindow, fun hn =>
        ⟨(hstandby hn).1.of_closeWindow, (hstandby hn).2⟩⟩
  · rw [aloneTimerExpiry_of_running hp hm ha, if_neg (by omega)]
  · rw [aloneTimerExpiry_of_running hp hm ha, if_pos hms]
    refine ⟨fun h => ?_, fun hw hr => ⟨_, rfl, ?_⟩⟩
    · rw [State.aloneReached, if_pos (by rwa [Bool.or_eq_true, Option.isSome_iff_ne_none, Option.isSome_iff_ne_none])]
      rfl
    · rw [State.aloneReached, if_neg (by simp [hw, hr])]
      exact ownDecision_enters s
  · rw [← anyAlert_iff] at halerting
    rw [← recentActivity_iff] at hrecent
    refine ⟨fun hm => if_pos hm, fun hm => ?_⟩
    rw [refusalReason_eq hm, halerting, hrecent]
    exact ⟨fun ha => if_pos ha, fun ha hl => by rw [if_neg ha, if_pos hl], fun ha hl hr => by
      rw [if_neg ha, if_neg hl, if_pos hr], fun ha hl hr => by rw [if_neg ha, if_neg hl, if_neg hr]⟩

end Sys2Proof.Machine

namespace Sys2Proof.Machine

/-! ### The frame that starts (R148) -/

section Lowest

variable {e : TxEntry}

theorem lowerKind_of_le {best x : TxEntry} (h : best.kind.code ≤ x.kind.code) : lowerKind best x = best :=
  if_neg (by omega)

theorem lowerKind_eq_or (best x : TxEntry) : lowerKind best x = best ∨ lowerKind best x = x := by
  unfold lowerKind
  split
  · exact .inr rfl
  · exact .inl rfl

theorem foldl_lowerKind_stands : ∀ rest : List TxEntry, (∀ x ∈ rest, e.kind.code ≤ x.kind.code) →
    rest.foldl lowerKind e = e
  | [], _ => rfl
  | x :: rest, h => by
    rw [List.foldl_cons, lowerKind_of_le (h x (.head _))]
    exact foldl_lowerKind_stands rest fun y hy => h y (.tail _ hy)

/-- R148: an entry below all before it and not above any behind it is the one found. -/
theorem foldl_lowerKind_found {after : List TxEntry} (hafter : ∀ x ∈ after, e.kind.code ≤ x.kind.code) :
    ∀ (before : List TxEntry) (best : TxEntry), e.kind.code < best.kind.code →
      (∀ x ∈ before, e.kind.code < x.kind.code) → (before ++ e :: after).foldl lowerKind best = e
  | [], best, hbest, _ => by
    rw [List.nil_append, List.foldl_cons, lowerKind, if_pos hbest]
    exact foldl_lowerKind_stands after hafter
  | x :: before, best, hbest, hbefore => by
    rw [List.cons_append, List.foldl_cons]
    refine foldl_lowerKind_found hafter before _ ?_ fun y hy => hbefore y (.tail _ hy)
    rcases lowerKind_eq_or best x with h | h
    · rwa [h]
    · rw [h]
      exact hbefore x (.head _)

end Lowest

section StartFrame

variable {s : State}

theorem eligible_iff (l : Link) (e : TxEntry) : l.eligible e = true ↔ l.Eligible e := by
  simp [Link.eligible, Link.Eligible]

/-- R148: the eligible entry of lowest kind placed first is chosen. -/
theorem chosen_eq {l : Link} {before after : List TxEntry} {e : TxEntry} (hq : l.txq = before ++ e :: after)
    (he : l.Eligible e) (hbefore : ∀ x ∈ before, l.Eligible x → e.kind.code < x.kind.code)
    (hafter : ∀ x ∈ after, l.Eligible x → e.kind.code ≤ x.kind.code) : l.chosen = some e := by
  have hfound : ∀ x ∈ before.filter l.eligible, e.kind.code < x.kind.code := fun x hx => by
    obtain ⟨hmem, hel⟩ := List.mem_filter.1 hx
    exact hbefore x hmem ((eligible_iff l x).1 hel)
  have hbehind : ∀ x ∈ after.filter l.eligible, e.kind.code ≤ x.kind.code := fun x hx => by
    obtain ⟨hmem, hel⟩ := List.mem_filter.1 hx
    exact hafter x hmem ((eligible_iff l x).1 hel)
  have hfilter : l.txq.filter l.eligible = before.filter l.eligible ++ e :: after.filter l.eligible := by
    rw [hq, List.filter_append, List.filter_cons_of_pos ((eligible_iff l e).2 he)]
  rw [Link.chosen, hfilter]
  cases hb : before.filter l.eligible with
  | nil => exact congrArg some (foldl_lowerKind_stands _ hbehind)
  | cons b rest =>
    rw [hb] at hfound
    exact congrArg some (foldl_lowerKind_found hbehind rest b (hfound b (.head _)) fun x hx => hfound x (.tail _ hx))

theorem startSending_first {after : List TxEntry} {e : TxEntry} :
    ∀ before : List TxEntry, e ∉ before →
      startSending (before ++ e :: after) e = before ++ { e with sending := true } :: after
  | [], _ => if_pos rfl
  | x :: before, h => by
    obtain ⟨hne, hrest⟩ := not_or.1 (List.mem_cons.not.1 h)
    rw [List.cons_append, startSending, if_neg (Ne.symm hne), startSending_first before hrest, List.cons_append]

theorem isFree_iff (d : Drive) : d.isFree = true ↔ d = .released ∨ d = .echo := by
  cases d <;> simp [Drive.isFree]

theorem isRunning_eq_false_iff (timer : Timer) : timer.isRunning = false ↔ timer = .stopped := by
  rw [← Bool.not_eq_true, timer_isRunning_iff, not_not]

theorem maySend_iff (s : State) : (s.maySend && s.link.sendingEntry.isNone) = true ↔ s.MaySend := by
  simp only [State.maySend, State.MaySend, Link.sendingEntry, Bool.and_eq_true, Bool.or_eq_true, Bool.not_eq_true',
    beq_iff_eq, isRunning_eq_false_iff, isFree_iff, Option.isNone_iff_eq_none, List.find?_eq_none, Bool.not_eq_true]
  tauto

theorem frameTxStart_of_maySend (h : s.MaySend) : exec .frameTxStart s = .next s.startFrame := by
  show execFrameTxStart s = _
  rw [execFrameTxStart, (maySend_iff s).2 h, onlyIf_true]

theorem frameTxStart_of_barred (h : ¬ s.MaySend) : exec .frameTxStart s = .next s := by
  show execFrameTxStart s = _
  rw [execFrameTxStart, Bool.eq_false_iff.2 (h ∘ (maySend_iff s).1), onlyIf_false]

end StartFrame

/-- Settles O32: the chosen entry starts, where a frame may start and one is eligible. -/
theorem frameStartTakesLowestKind : Obligations.FrameStartTakesLowestKind := by
  refine fun s => ⟨frameTxStart_of_barred, fun h => ⟨fun before e after hq he hbefore hafter => ?_, fun hnone => ?_⟩⟩
  · have hfirst : e ∉ before := fun hmem => Nat.lt_irrefl _ (hbefore e hmem he)
    rw [frameTxStart_of_maySend h, State.startFrame, chosen_eq hq he hbefore hafter]
    simp only [hq, startSending_first before hfirst]
    rfl
  · have hfilter : s.link.txq.filter s.link.eligible = [] :=
      List.filter_eq_nil_iff.2 fun x hx hel => hnone x hx ((eligible_iff _ x).1 hel)
    rw [frameTxStart_of_maySend h, State.startFrame, Link.chosen, hfilter]

end Sys2Proof.Machine

namespace Sys2Proof.Machine

/-! ### The header (R146) -/

section Header

variable (kind : FrameKind) (station : StationNo)

theorem headerByte_toNat : (headerByte kind station).toNat = kind.code * 16 + station.toNat := by
  have hcode : kind.code ≤ 12 := by cases kind <;> decide
  have hstation := station.isLt
  rw [headerByte, toByte, BitVec.toNat_ofNat, Nat.mod_eq_of_lt (by omega)]

theorem headerStation_headerByte : headerStation (headerByte kind station) = station := by
  refine BitVec.eq_of_toNat_eq ?_
  have hstation := station.isLt
  rw [headerStation, headerByte_toNat, BitVec.toNat_ofNat]
  omega

theorem headerKind_headerByte : headerKind (headerByte kind station) = some kind := by
  have hstation := station.isLt
  have hcode : (headerByte kind station).toNat / 16 = kind.code := by rw [headerByte_toNat]; omega
  rw [headerKind, hcode]
  cases kind <;> rfl

end Header

/-! ### The cells of a byte (R144, R145) -/

section Cells

theorem cellShape_cellOfBit (bit : Bool) : cellShape (cellOfBit bit).dominant = .bit bit := by
  cases bit <;> rfl

/-- R146: eight bits sent, most significant first, read back as their byte. -/
theorem foldl_bitsOf (b : Byte) :
    (bitsOf b).foldl (fun (acc : Byte) x => (acc <<< 1) ||| (if x then 1 else 0)) 0 = b := by
  revert b
  decide

/-- The cells of these bytes. -/
def cellsOf (bytes : List Byte) : List LineCell := (bytes.flatMap bitsOf).map cellOfBit

variable {rest : List LineCell} {bytes : List Byte} {bits : List Bool} {b : Byte}

theorem readCells_bit (bit : Bool) (h : bits.length ≠ 7) :
    readCells (cellOfBit bit :: rest) bytes bits = readCells rest bytes (bits ++ [bit]) := by
  have hgap : ((cellOfBit bit).gap < 36 || 44 < (cellOfBit bit).gap) = false := rfl
  rw [readCells, hgap, cellShape_cellOfBit]
  simp [h]

/-- R145: a bit that completes a byte with which the frame ends. -/
theorem readCells_lastBit {bit : Bool} {reading : Reading} (hlength : bits.length = 7)
    (hbyte : bits ++ [bit] = bitsOf b)
    (h : afterByte (bytes ++ [b]) = some reading) : readCells (cellOfBit bit :: rest) bytes bits = reading := by
  have hgap : ((cellOfBit bit).gap < 36 || 44 < (cellOfBit bit).gap) = false := rfl
  rw [readCells, hgap, cellShape_cellOfBit]
  simp only [Bool.false_eq_true, if_false, hlength, beq_self_eq_true, if_true, hbyte, foldl_bitsOf, h]

/-- R145: a bit that completes a byte with which the frame goes on. -/
theorem readCells_bitOfMore {bit : Bool} (hlength : bits.length = 7) (hbyte : bits ++ [bit] = bitsOf b)
    (h : afterByte (bytes ++ [b]) = none) :
    readCells (cellOfBit bit :: rest) bytes bits = readCells rest (bytes ++ [b]) [] := by
  have hgap : ((cellOfBit bit).gap < 36 || 44 < (cellOfBit bit).gap) = false := rfl
  rw [readCells, hgap, cellShape_cellOfBit]
  simp only [Bool.false_eq_true, if_false, hlength, beq_self_eq_true, if_true, hbyte, foldl_bitsOf, h]

/-- The cells of a byte: seven of its bits, and the eighth. -/
theorem cellsOf_cons (b : Byte) (more : List Byte) :
    cellsOf (b :: more) = ((bitsOf b).take 7).map cellOfBit ++ cellOfBit (b.getLsbD 0) :: cellsOf more := by
  simp [cellsOf, bitsOf]

theorem readCells_sevenBits (cells : List LineCell) :
    readCells (((bitsOf b).take 7).map cellOfBit ++ cells) bytes [] = readCells cells bytes ((bitsOf b).take 7) := by
  simp [bitsOf, readCells_bit]

theorem readCells_lastByte {more : List Byte} {reading : Reading} (h : afterByte (bytes ++ [b]) = some reading) :
    readCells (cellsOf (b :: more)) bytes [] = reading := by
  rw [cellsOf_cons, readCells_sevenBits]
  exact readCells_lastBit rfl rfl h

theorem readCells_byteOfMore {more : List Byte} (h : afterByte (bytes ++ [b]) = none) :
    readCells (cellsOf (b :: more)) bytes [] = readCells (cellsOf more) (bytes ++ [b]) [] := by
  rw [cellsOf_cons, readCells_sevenBits]
  exact readCells_bitOfMore rfl rfl h

end Cells

/-! ### The bytes of a frame (R146) -/

section Bytes

variable {kind : FrameKind} {header : Byte} (hk : headerKind header = some kind)
include hk

/-- R146: the reception goes on until the check byte is read. -/
theorem afterByte_of_more {done : List Byte} (h : done.length ≠ kind.payloadLength + 1) :
    afterByte (header :: done) = none := by
  simp [afterByte, hk, h]

theorem afterByte_of_done {payload : List Byte} (h : payload.length = kind.payloadLength) (check : Byte) :
    afterByte (header :: (payload ++ [check])) = some (.frame kind header payload check) := by
  simp [afterByte, hk, ← h, byteAt]

/-- R145, R146: what of payload and check byte is still to come, read from the payload bytes already read. -/
theorem readCells_afterHeader (check : Byte) : ∀ more done : List Byte, (done ++ more).length = kind.payloadLength →
    readCells (cellsOf (more ++ [check])) (header :: done) [] = .frame kind header (done ++ more) check
  | [], done, hlength => by
    rw [List.append_nil] at hlength ⊢
    exact readCells_lastByte (afterByte_of_done hk hlength check)
  | b :: more, done, hlength => by
    have hrest : afterByte (header :: done ++ [b]) = none := afterByte_of_more hk (by simp at hlength ⊢; omega)
    rw [List.cons_append, readCells_byteOfMore hrest, List.cons_append,
      readCells_afterHeader check more (done ++ [b]) (by simpa using hlength), List.append_assoc, List.singleton_append]

end Bytes

/-- R144 to R146: a frame of a known kind and its payload length reads back. -/
theorem readFrame_frameCells {kind : FrameKind} {header : Byte} {payload : List Byte}
    (hk : headerKind header = some kind) (h : payload.length = kind.payloadLength) :
    readFrame (frameCells header payload) = .frame kind header payload (crc (header :: payload)) := by
  have hfirst : afterByte ([] ++ [header]) = none := afterByte_of_more hk (by simp)
  show readCells (cellsOf (header :: (payload ++ [crc (header :: payload)]))) [] [] = _
  rw [readCells_byteOfMore hfirst]
  exact readCells_afterHeader hk _ payload [] h

theorem frameCells_length (header : Byte) (payload : List Byte) :
    (frameCells header payload).length = 1 + 8 * (payload.length + 2) := by
  have hbits : ∀ b : Byte, (bitsOf b).length = 8 := fun _ => rfl
  simp only [frameCells, frameBytes, List.length_cons, List.length_map, List.length_flatMap, hbits, List.length_append,
    List.map_const', List.sum_replicate, List.length_nil, smul_eq_mul]
  omega

/-- Settles O39: the header gives kind and station back, and the cells the bytes. -/
theorem frameReadsBack : Obligations.FrameReadsBack := fun kind station _ h =>
  ⟨readFrame_frameCells (headerKind_headerByte kind station) h, headerStation_headerByte kind station,
    frameCells_length _ _⟩

end Sys2Proof.Machine

namespace Sys2Proof.Machine

/-! ### The classes of a long dominant (R156) -/

section PulseClass

variable {length : Nat}

theorem pulseClass_form (h : (38 < length ∧ length < 1000) ∨ (2000 < length ∧ length < 4000)
    ∨ (6000 < length ∧ length ≤ 10000)) : pulseClass length = .form := by
  unfold pulseClass
  rcases h with h | h | h
  · rw [if_neg (by omega), if_pos (by omega)]
  · rw [if_neg (by omega), if_neg (by omega), if_neg (by omega), if_pos (by omega)]
  · rw [if_neg (by omega), if_neg (by omega), if_neg (by omega), if_neg (by omega), if_neg (by omega),
      if_pos (by omega)]

theorem pulseClass_wake (h : 1000 ≤ length) (h' : length ≤ 2000) : pulseClass length = .wake := by
  unfold pulseClass
  rw [if_neg (by omega), if_neg (by omega), if_pos (by omega)]

theorem pulseClass_halt (h : 4000 ≤ length) (h' : length ≤ 6000) : pulseClass length = .halt := by
  unfold pulseClass
  rw [if_neg (by omega), if_neg (by omega), if_neg (by omega), if_neg (by omega), if_pos (by omega)]

theorem pulseClass_lineStuck (h : 10000 < length) : pulseClass length = .lineStuck := by
  unfold pulseClass
  rw [if_neg (by omega), if_neg (by omega), if_neg (by omega), if_neg (by omega), if_neg (by omega), if_neg (by omega)]

end PulseClass

/-! ### A pulse heard (R156, R157, R197) -/

section Heard

variable {s : State}

theorem readsLine_iff (s : State) : s.readsLine = true ↔ s.powered = true ∧ s.link.drive ≠ .wakePulse := by
  simp [State.readsLine]

theorem pulseEnd_heard (hp : s.powered = true) (hd : s.link.drive ≠ .wakePulse) {length : Nat} (h : 38 < length)
    (pins : BitVec 5) :
    exec (.pulseEnd length pins) s = .next (s.edge.hearPulse (pulseClass length) pins) := by
  have hguard : (s.readsLine && (Instr.pulseEnd length pins).wf) = true := by
    rw [Bool.and_eq_true, readsLine_iff]
    exact ⟨⟨hp, hd⟩, decide_eq_true h⟩
  show execPulseEnd length pins s = _
  rw [execPulseEnd, hguard, onlyIf_true]

theorem heardWake_of_active (h : s.modeCtl.mode = .active) (pins : BitVec 5) :
    s.heardWake pins = { s with modeCtl := { s.modeCtl with window := none, idle := s.modeCtl.idle.restart } } := by
  have hheard : s.heardWake pins = s.closeWindow.restartIdle := by simp only [State.heardWake, h]
  rw [hheard, closeWindow_restartIdle]

theorem heardWake_of_watch (h : s.modeCtl.mode = .watch) (pins : BitVec 5) : s.heardWake pins = s.leaveWatch := by
  simp only [State.heardWake, h]

theorem heardWake_of_standby (h : s.modeCtl.mode = .standby) (pins : BitVec 5) : s.heardWake pins = s.wake pins := by
  simp only [State.heardWake, h]

theorem heardWake_of_service (h : s.modeCtl.mode = .service) (pins : BitVec 5) : s.heardWake pins = s := by
  simp only [State.heardWake, h]

theorem heardHalt_of_running (h : s.modeCtl.mode = .active ∨ s.modeCtl.mode = .watch) : s.heardHalt = s.haltEntry := by
  rcases h with h | h <;> simp only [State.heardHalt, h]

theorem heardHalt_of_standby (h : s.modeCtl.mode = .standby) : s.heardHalt = s.haltInStandby := by
  simp only [State.heardHalt, h]

theorem heardHalt_of_service (h : s.modeCtl.mode = .service) :
    s.heardHalt = if s.diag.commit.isRunning then s.setDiag { s.diag with haltWaiting := true }
      else s.haltFromService := by
  simp only [State.heardHalt, h]

end Heard

/-! ### What the pulses leave (R157, R194, R195, R197, R209) -/

section Leaves

variable (s : State)

/-- R190: of the row link and the blocks before it, the change from WATCH to ACTIVE leaves all. -/
theorem leaveWatch_eq :
    s.leaveWatch = { s with
      modeCtl := s.leaveWatch.modeCtl, sweep := s.leaveWatch.sweep, emission := s.leaveWatch.emission
      lamps := s.leaveWatch.lamps, duty := s.leaveWatch.duty } := by
  have hlink : s.leaveWatch.link = s.link := by simp
  rw [← hlink]
  exact eq_of_watchKeeps (by simp)

theorem leaveWatch_timers :
    (s.vehicle.ignition ≠ .on → s.leaveWatch.modeCtl.idle = .running 0 ∧ s.leaveWatch.modeCtl.alone = .running 0)
      ∧ (s.vehicle.ignition = .on → s.leaveWatch.modeCtl.idle = .stopped ∧ s.leaveWatch.modeCtl.alone = .stopped) := by
  simp +contextual [leaveWatch_writes, State.ignitionOn, Vehicle.effIgnition]

theorem freshSeats_record (c : Conf) (p : Pos) : ((freshSeats c).get p).record = none := by
  rw [freshSeats, Four.get_ofFn]

theorem wake_classes (pins : BitVec 5) (p : Pos) :
    (s.wake pins).classes.get p = (s.classes.get p).atWake :=
  Four.get_map _ _ _

theorem wake_canStartSweep (hp : s.powered = true) (pins : BitVec 5) : (s.wake pins).canStartSweep = true := by
  have hpowered : (s.wake pins).powered = true := hp
  rw [State.canStartSweep, hpowered]
  rfl

theorem haltEntry_entersStandby : s.EntersStandby s.haltEntry := by
  obtain ⟨hlink, hmode, hsweep, hsfe, htable, -, hlamps, hduty⟩ := haltEntry_writes s
  obtain ⟨hmode', hsweep', hsfe', hfence, hrun, hwake, hloss, hstuck, hlamps', hchime, hpattern, htable', -⟩ :=
    enterStandby_entersStandby s
  refine ⟨hmode.trans hmode', hsweep.trans hsweep', hsfe.trans hsfe', ?_, ?_, ?_, ?_, ?_, hlamps.trans hlamps', ?_, ?_,
    htable.trans htable', eq_of_standbyKeeps (haltEntry_keeps s)⟩
  · rw [hlink]; exact hfence
  · rw [hlink]; exact hrun
  · rw [hlink]; exact hwake
  · rw [hlink]; exact hloss
  · rw [hlink]; exact hstuck
  · rw [hduty]; exact hchime
  · rw [hduty]; exact hpattern

theorem haltEntry_emptied :
    s.haltEntry.link.rxq = [] ∧ s.haltEntry.link.txq = [] ∧ s.haltEntry.link.selfSlot = none
      ∧ s.haltEntry.link.lineSeq = 0 :=
  ⟨rfl, rfl, rfl, rfl⟩

/-- R194: clearing what had differed keeps the references. -/
theorem clearDiffering_marksCleared (w : Option StandbyWatch) : MarksCleared w (w.map StandbyWatch.clearDiffering) := by
  refine ⟨fun h => by rw [h]; rfl, fun b hb => ⟨b.clearDiffering, by rw [hb]; rfl, rfl, rfl, rfl, fun p => ?_⟩⟩
  rw [StandbyWatch.clearDiffering, Four.get_map]
  exact ⟨fun h => by rw [h]; rfl, fun w hw => by rw [hw]; rfl⟩

/-- R194: what a HALT leaves of the sensing state of a station in STANDBY. -/
theorem haltInStandby_sfe :
    s.haltInStandby.sfe = { s.sfe with watch := s.haltInStandby.sfe.watch }
      ∧ (s.modeCtl.wakeCause = false → s.haltInStandby.sfe.watch = s.sfe.watch)
      ∧ (s.modeCtl.wakeCause = true → MarksCleared s.sfe.watch s.haltInStandby.sfe.watch) := by
  have hsfe : s.haltInStandby.sfe = if s.modeCtl.wakeCause then s.sfe.clearDiffering else s.sfe := rfl
  rw [hsfe]
  cases s.modeCtl.wakeCause with
  | false => exact ⟨rfl, fun _ => rfl, fun h => absurd h Bool.false_ne_true⟩
  | true => exact ⟨rfl, fun h => absurd h.symm Bool.false_ne_true, fun _ => clearDiffering_marksCleared _⟩

theorem haltInStandby_eq :
    s.haltInStandby = { s with
      sfe := { s.sfe with watch := s.haltInStandby.sfe.watch }
      modeCtl := { s.modeCtl with wakeCause := false }
      link := { s.link with wakePending := false } } := by
  rw [← (haltInStandby_sfe s).1]
  rfl

theorem haltEntry_conf : s.haltEntry.config = s.config ∧ s.haltEntry.classes = s.classes := by
  simp

theorem haltFromService_b16 (p : Pos) :
    (s.haltFromService.classes.get p).b16 = (s.config.working.zero.get p : Int) * 16 := by
  have hclasses : s.haltFromService.classes = freshClasses s.config.working := by
    rw [State.haltFromService, (haltEntry_conf _).2]
    rfl
  rw [hclasses, freshClasses, Four.get_ofFn]
  push_cast
  rfl

end Leaves

/-- Settles O31: the class of each length, and what a WAKE and a HALT do in each mode. -/
theorem pulseLengthsClassed : Obligations.PulseLengthsClassed := by
  intro s u length pins hp hd hu
  obtain rfl : u = s.edge := hu
  refine ⟨fun h => ?_, fun h => ?_, fun h h' => ⟨s.edge.heardWake pins, ?_, ?_, ?_, ?_, ?_⟩,
    fun h h' => ⟨s.edge.heardHalt, ?_, ?_, ?_, ?_, ?_⟩⟩
  · rw [pulseEnd_heard hp hd (by omega), pulseClass_form h]
    rfl
  · rw [pulseEnd_heard hp hd (by omega), pulseClass_lineStuck h]
    rfl
  · rw [pulseEnd_heard hp hd (by omega), pulseClass_wake h h']
    rfl
  · exact fun hm => heardWake_of_service (s := s.edge) hm pins
  · exact fun hm => heardWake_of_active (s := s.edge) hm pins
  · intro hm
    rw [heardWake_of_watch (s := s.edge) hm]
    obtain ⟨hmode, hsweep, hemission⟩ := leaveWatch_writes s.edge
    obtain ⟨hoff, hon⟩ := leaveWatch_timers s.edge
    exact ⟨by rw [hmode], by rw [hmode], by rw [hmode], by rw [hmode]; rfl, leaveWatch_eq _, hsweep, by rw [hemission],
      hoff, hon⟩
  · intro hm
    rw [heardWake_of_standby (s := s.edge) hm]
    refine ⟨rfl, rfl, rfl, rfl, rfl, rfl, rfl, rfl, rfl, rfl, rfl, rfl, rfl, fun p => freshSeats_record _ p, rfl, rfl,
      rfl, fun p => ?_, rfl, rfl, rfl, rfl, rfl, wake_canStartSweep _ hp pins, rfl⟩
    rw [wake_classes]
    exact ⟨rfl, rfl, rfl⟩
  · rw [pulseEnd_heard hp hd (by omega), pulseClass_halt h h']
    rfl
  · intro hm
    rw [heardHalt_of_running (s := s.edge) hm]
    exact ⟨haltEntry_entersStandby _, haltEntry_emptied _⟩
  · intro hm
    rw [heardHalt_of_standby (s := s.edge) hm]
    exact ⟨haltInStandby_eq _, (haltInStandby_sfe _).2⟩
  · intro hm hcommit
    have hidle : ¬ s.edge.diag.commit.isRunning = true := by rw [timer_isRunning_iff]; exact not_not_intro hcommit
    rw [heardHalt_of_service (s := s.edge) hm, if_neg hidle]
    exact ⟨rfl, (haltEntry_conf _).1, rfl, rfl, rfl, rfl, haltFromService_b16 _⟩
  · intro hm hcommit
    have hruns : s.edge.diag.commit.isRunning = true := (timer_isRunning_iff _).2 hcommit
    rw [heardHalt_of_service (s := s.edge) hm, if_pos hruns]
    rfl

end Sys2Proof.Machine

namespace Sys2Proof.Machine

/-! ### The own WAKE pulse (R159, R194) -/

section OwnPulse

variable {s : State}

/-- The station as the release of its own pulse leaves it, before the line is heard. -/
def State.pulseReleased (s : State) : State :=
  { s with link := { s.link with drive := .released, wakePending := false } }

theorem maySendPulse_iff (s : State) :
    s.maySendPulse = true ↔ s.powered = true ∧ s.validStraps = true ∧ s.link.wakePending = true
      ∧ s.link.fence = .stopped ∧ s.link.stuck = .stopped ∧ (s.link.drive = .released ∨ s.link.drive = .echo) := by
  simp only [State.maySendPulse, Bool.and_eq_true, Bool.not_eq_true', isRunning_eq_false_iff, isFree_iff, and_assoc]

theorem wakePulseRelease_silent (hp : s.powered = true) (hd : s.link.drive = .wakePulse) (pins : BitVec 5) :
    exec (.wakePulseRelease none pins) s = .next (s.pulseReleased.wakeOnCause pins) := by
  show execWakePulseRelease none pins s = _
  rw [execWakePulseRelease, hp, hd]
  rfl

theorem wakePulseRelease_heard (hp : s.powered = true) (hd : s.link.drive = .wakePulse) (pins : BitVec 5)
    {length : Nat} (h : 1500 < length) :
    exec (.wakePulseRelease (some length) pins) s = .next (s.pulseReleased.hearAtRelease length pins) := by
  have hwf : (Instr.wakePulseRelease (some length) pins).wf = true := decide_eq_true h
  show execWakePulseRelease (some length) pins s = _
  rw [execWakePulseRelease, hp, hd, hwf]
  rfl

theorem wakeOnCause_of_noCause (h : ¬ (s.modeCtl.mode = .standby ∧ s.modeCtl.wakeCause = true)) (pins : BitVec 5) :
    s.wakeOnCause pins = s := by
  rw [State.wakeOnCause, if_neg h]

theorem wakeOnCause_of_cause (hm : s.modeCtl.mode = .standby) (hc : s.modeCtl.wakeCause = true) (pins : BitVec 5) :
    s.wakeOnCause pins = s.wake pins := by
  rw [State.wakeOnCause, if_pos ⟨hm, hc⟩]

/-- R156: a dominant longer than a WAKE pulse can be short is a WAKE, a HALT or a form, or has stuck. -/
theorem pulseClass_heard {length : Nat} (h : 1500 < length) :
    (length ≤ 10000 ∧ (length < 4000 ∨ 6000 < length)
        ∧ (pulseClass length = .wake ∨ pulseClass length = .form))
      ∨ ((4000 ≤ length ∧ length ≤ 6000) ∧ pulseClass length = .halt)
      ∨ (10000 < length ∧ pulseClass length = .lineStuck) := by
  by_cases hstuck : 10000 < length
  · exact .inr (.inr ⟨hstuck, pulseClass_lineStuck hstuck⟩)
  · by_cases hhalt : 4000 ≤ length ∧ length ≤ 6000
    · exact .inr (.inl ⟨hhalt, pulseClass_halt hhalt.1 hhalt.2⟩)
    · refine .inl ⟨by omega, by omega, ?_⟩
      by_cases hwake : length ≤ 2000
      · exact .inl (pulseClass_wake (by omega) hwake)
      · exact .inr (pulseClass_form (by omega))

/-- R159: without a pending cause a dominant that ends in time is classed as any other. -/
theorem hearAtRelease_of_noCause (h : ¬ (s.modeCtl.mode = .standby ∧ s.modeCtl.wakeCause = true)) (pins : BitVec 5)
    {length : Nat} (hlong : 1500 < length) (htime : length ≤ 10000) :
    s.hearAtRelease length pins = s.edge.hearPulse (pulseClass length) pins := by
  rcases pulseClass_heard hlong with ⟨-, -, hc | hc⟩ | ⟨-, hc⟩ | ⟨hstuck, -⟩
  · rw [State.hearAtRelease, hc]
    rfl
  · rw [State.hearAtRelease, hc]
    exact wakeOnCause_of_noCause (s := s.edge.hearPulse .form pins) h pins
  · rw [State.hearAtRelease, hc]
    rfl
  · omega

/-- R159: without a pending cause a stuck line's dominant has only to end. -/
theorem hearAtRelease_stuck (h : ¬ (s.modeCtl.mode = .standby ∧ s.modeCtl.wakeCause = true)) (pins : BitVec 5)
    {length : Nat} (hstuck : 10000 < length) : s.hearAtRelease length pins = s.stuckLine.edge := by
  rw [State.hearAtRelease, pulseClass_lineStuck hstuck]
  exact wakeOnCause_of_noCause (s := s.stuckLine.edge) h pins

/-- R194: with a pending cause any dominant but a HALT leaves a station in STANDBY awake. -/
theorem hearAtRelease_wakes (hm : s.modeCtl.mode = .standby) (hc : s.modeCtl.wakeCause = true) (pins : BitVec 5)
    {length : Nat} (hlong : 1500 < length) (hno : length < 4000 ∨ 6000 < length) :
    (s.hearAtRelease length pins).modeCtl.mode = .active ∧ (s.hearAtRelease length pins).straps = pins := by
  have hwakes : ∃ v : State, s.hearAtRelease length pins = v.wake pins := by
    rcases pulseClass_heard hlong with ⟨-, -, hclass | hclass⟩ | ⟨hhalt, -⟩ | ⟨-, hclass⟩ <;>
      rw [State.hearAtRelease]
    · rw [hclass]
      exact ⟨_, heardWake_of_standby (s := s.edge) hm pins⟩
    · rw [hclass]
      exact ⟨_, wakeOnCause_of_cause (s := s.edge.hearPulse .form pins) hm hc pins⟩
    · omega
    · rw [hclass]
      exact ⟨_, wakeOnCause_of_cause (s := s.stuckLine.edge) hm hc pins⟩
  obtain ⟨v, hv⟩ := hwakes
  rw [hv]
  exact ⟨rfl, rfl⟩

/-- R194: a HALT keeps a station in STANDBY. -/
theorem hearAtRelease_halted (hm : s.modeCtl.mode = .standby) (pins : BitVec 5) {length : Nat} (h : 4000 ≤ length)
    (h' : length ≤ 6000) : s.hearAtRelease length pins = s.edge.haltInStandby := by
  rw [State.hearAtRelease, pulseClass_halt h h']
  exact heardHalt_of_standby (s := s.edge) hm

end OwnPulse

/-- Settles O35: the start, and the release by the pending cause and the length of what the line then carries. -/
theorem ownWakePulse : Obligations.OwnWakePulse := by
  refine fun s pins hp => ⟨fun hv hw hf hs hd => ?_, fun hd => ⟨fun hno => ⟨?_, fun length hlong => ⟨fun h => ?_,
    fun h => ⟨s.pulseReleased.stuckLine, ?_, ?_⟩⟩⟩, fun hm hc => ⟨⟨s.pulseReleased.wake pins, ?_, rfl, rfl⟩,
    fun length hlong => ⟨fun h => ⟨s.pulseReleased.hearAtRelease length pins, ?_,
      hearAtRelease_wakes (s := s.pulseReleased) hm hc pins hlong h⟩,
      fun h h' => ⟨s.pulseReleased.edge.haltInStandby, ?_, ?_, ?_⟩⟩⟩⟩⟩
  · show execWakePulseSendStart s = _
    rw [execWakePulseSendStart, (maySendPulse_iff s).2 ⟨hp, hv, hw, hf, hs, hd⟩, onlyIf_true]
    rfl
  · rw [wakePulseRelease_silent hp hd, wakeOnCause_of_noCause (s := s.pulseReleased) hno]
    rfl
  · rw [wakePulseRelease_heard hp hd pins hlong, hearAtRelease_of_noCause (s := s.pulseReleased) hno pins hlong h]
    exact (pulseEnd_heard (s := s.pulseReleased) hp Drive.noConfusion (by omega) pins).symm
  · have hreads : s.pulseReleased.readsLine = true := (readsLine_iff _).2 ⟨hp, Drive.noConfusion⟩
    show execLineStuck s.pulseReleased = _
    rw [execLineStuck, hreads, onlyIf_true]
  · rw [wakePulseRelease_heard hp hd pins hlong, hearAtRelease_stuck (s := s.pulseReleased) hno pins h,
      pulseEnd_heard (s := s.pulseReleased.stuckLine) hp Drive.noConfusion (by omega) pins, pulseClass_lineStuck h,
      State.hearPulse]
  · rw [wakePulseRelease_silent hp hd, wakeOnCause_of_cause (s := s.pulseReleased) hm hc]
  · rw [wakePulseRelease_heard hp hd pins hlong]
  · rw [wakePulseRelease_heard hp hd pins hlong, hearAtRelease_halted (s := s.pulseReleased) hm pins h h']
  · rw [haltInStandby_eq]
    rfl
  · obtain ⟨-, -, hmarks⟩ := haltInStandby_sfe s.pulseReleased.edge
    exact hmarks hc

end Sys2Proof.Machine

namespace Sys2Proof.Machine

/-! ### What the proposal window writes (R183, R184) -/

section RefusalWrites

variable {s t u : State}

/-- R184: a test of the refusal reasons writes the transmit queue, the window, the idle timer and the two counters of a
refusal, and nothing else. -/
def State.RefusalWrites (s t : State) : Prop :=
  ∃ (txq : List TxEntry) (window : Option Window) (idle : Timer) (overflow refusals : Nat),
    t = { s with
      link := { s.link with txq }
      modeCtl := { s.modeCtl with window, idle }
      diag := { s.diag with counters := { s.diag.counters with txOverflow := overflow, refusalsSent := refusals } } }

theorem State.RefusalWrites.refl (s : State) : s.RefusalWrites s :=
  ⟨s.link.txq, s.modeCtl.window, s.modeCtl.idle, s.diag.counters.txOverflow, s.diag.counters.refusalsSent, rfl⟩

theorem State.RefusalWrites.trans (h : s.RefusalWrites t) (h' : t.RefusalWrites u) : s.RefusalWrites u := by
  obtain ⟨_, _, _, _, _, rfl⟩ := h
  obtain ⟨txq, window, idle, overflow, refusals, rfl⟩ := h'
  exact ⟨txq, window, idle, overflow, refusals, rfl⟩

theorem setWindow_refusalWrites (s : State) (window : Option Window) (idle : Timer) :
    s.RefusalWrites (s.setModeCtl { s.modeCtl with window, idle }) :=
  ⟨s.link.txq, window, idle, s.diag.counters.txOverflow, s.diag.counters.refusalsSent, rfl⟩

theorem withdraw_refusalWrites (s : State) (c : TxEntry → Bool) : s.RefusalWrites (s.withdraw c) :=
  ⟨_, s.modeCtl.window, s.modeCtl.idle, s.diag.counters.txOverflow, s.diag.counters.refusalsSent, rfl⟩

theorem offerTx_refusalWrites (s : State) (e : TxEntry) : s.RefusalWrites (s.offerTx e) := by
  unfold State.offerTx
  split
  · exact ⟨_, s.modeCtl.window, s.modeCtl.idle, _, s.diag.counters.refusalsSent, rfl⟩
  · exact ⟨_, s.modeCtl.window, s.modeCtl.idle, s.diag.counters.txOverflow, s.diag.counters.refusalsSent, rfl⟩

theorem placeRefusal_refusalWrites (s : State) (w : Window) (reason : Reason) :
    s.RefusalWrites (s.placeRefusal w reason) := by
  obtain ⟨txq, _, _, overflow, refusals, hoffer⟩ :=
    offerTx_refusalWrites s (newEntry .sleepRefuse (refusePayload reason) none)
  simp only [State.placeRefusal, hoffer]
  split
  · exact ⟨txq, _, _, overflow, _, rfl⟩
  · exact ⟨txq, _, _, overflow, refusals, rfl⟩

theorem testReasons_refusalWrites (s : State) : s.RefusalWrites s.testReasons := by
  obtain h | ⟨w, reason, -, h⟩ := testReasons_cases s <;> rw [h]
  · exact .refl s
  · exact placeRefusal_refusalWrites s w reason

theorem openWindow_refusalWrites (s : State) : s.RefusalWrites s.openWindow := by
  unfold State.openWindow
  split
  · exact (setWindow_refusalWrites s _ s.modeCtl.idle).trans (testReasons_refusalWrites _)
  · exact .refl s

theorem restartIdle_refusalWrites (s : State) : s.RefusalWrites s.restartIdle := by
  unfold State.restartIdle
  split
  · exact (setWindow_refusalWrites s s.modeCtl.window _).trans (testReasons_refusalWrites _)
  · exact .refl s

theorem hearProposal_refusalWrites (s : State) (kind : FrameKind) : s.RefusalWrites (s.hearProposal kind) := by
  unfold State.hearProposal
  split
  · exact (withdraw_refusalWrites s _).trans (openWindow_refusalWrites _)
  · exact .refl s

/-- What a heard proposal leaves is said of the queue, the mode controller and the refusals alone. -/
theorem State.ProposalHeard.of_result {txq : List TxEntry} {m : ModeCtl} (h : s.ProposalHeard t txq m)
    (hq : u.link.txq = t.link.txq) (hm : u.modeCtl = t.modeCtl)
    (hc : u.diag.counters.refusalsSent = t.diag.counters.refusalsSent) : s.ProposalHeard u txq m := by
  unfold State.ProposalHeard at *
  simpa only [hq, hm, hc] using h

/-- R183, R184: the proposal of another station withdraws the own one that waits and opens the window. -/
theorem hearProposal_heard (s : State) :
    s.ProposalHeard (s.hearProposal .sleepPropose)
      (s.link.txq.filter fun x => x.sending || !decide (x.kind = .sleepPropose)) s.modeCtl := by
  have hfilter : (fun x : TxEntry => x.sending || !decide (x.kind = .sleepPropose))
      = fun x => x.sending || !(x.kind == .sleepPropose) := by
    funext x
    rw [beq_eq_decide]
  rw [hfilter]
  exact (openWindow_heard (s := s.withdrawProposals)).of_same _ rfl rfl rfl rfl

theorem hearProposal_of_other {kind : FrameKind} (h : kind ≠ .sleepPropose) : s.hearProposal kind = s := by
  rw [State.hearProposal, if_neg h]

end RefusalWrites

/-! ### A frame read on the line (R152 to R156) -/

section Reception

variable {s : State}

theorem frameReceptionEnd_eq (hp : s.powered = true) (hd : s.link.drive = .released ∨ s.link.drive = .echo)
    {cells : List LineCell} (hc : cells ≠ []) (echoed : Bool) :
    exec (.frameReceptionEnd cells echoed) s = .next (s.hearCells (readFrame cells) echoed) := by
  have hfollows : s.followsCells = true := by rw [State.followsCells, hp, (isFree_iff _).2 hd]; rfl
  have hwf : (Instr.frameReceptionEnd cells echoed).wf = true :=
    Bool.not_eq_true' _ ▸ List.isEmpty_eq_false_iff.2 hc
  show execFrameReceptionEnd cells echoed s = _
  rw [execFrameReceptionEnd, hfollows, hwf]
  rfl

theorem hearCells_inStandby (hm : s.modeCtl.mode = .standby) (r : Reading) (echoed : Bool) :
    s.hearCells r echoed = s.edge :=
  if_pos hm

theorem hearCells_awake (hm : s.modeCtl.mode ≠ .standby) (r : Reading) (echoed : Bool) :
    s.hearCells r echoed = s.edge.takeReading r echoed :=
  if_neg hm

theorem restart_isRunning (timer : Timer) : timer.restart.isRunning = timer.isRunning := by
  cases timer <;> rfl

/-- R147: the echo is driven exactly where no stuck hold runs. -/
theorem edge_echo (s : State) :
    s.edge.link.echo = { s.edge.link with drive := if s.link.stuck = .stopped then .echo else .released } := by
  have hrunning : s.edge.link.stuck.isRunning = s.link.stuck.isRunning := restart_isRunning _
  rw [Link.echo, hrunning]
  cases s.link.stuck <;> rfl

theorem badCheck_eq (s : State) (header : Byte) (payload : List Byte) (echoed : Bool) :
    s.badCheck header payload echoed = { s with diag := (Diag.reportLink
      { s.diag with counters := { s.diag.counters with checkFail := saturatingSucc s.diag.counters.checkFail } }
      { kind := if echoed then .inconsistent else .checkFail, severity := if echoed then .hard else .soft, header
        first := byteAt payload 0, second := byteAt payload 1, stamp := s.sweep.count }) } := by
  cases echoed <;> rfl

theorem byteAt_tail (bytes : List Byte) (k : Nat) : byteAt bytes.tail k = byteAt bytes (k + 1) := by
  cases bytes <;> rfl

theorem wholeFrame_of_bad {kind : FrameKind} {header check : Byte} {payload : List Byte} (echoed : Bool)
    (h : check ≠ crc (header :: payload)) :
    s.wholeFrame kind header payload check echoed = s.badCheck header payload echoed :=
  if_neg fun heq => h heq.symm

theorem wholeFrame_of_clash {kind : FrameKind} {header : Byte} {payload : List Byte} (echoed : Bool)
    (hv : s.validStraps = true) (hn : headerStation header = s.station) :
    s.wholeFrame kind header payload (crc (header :: payload)) echoed = s.stationClash kind header payload := by
  have hown : (s.validStraps && headerStation header == s.station) = true := by
    rw [hv, hn, beq_self_eq_true, Bool.true_and]
  rw [State.wholeFrame, if_pos rfl, if_pos hown]

theorem wholeFrame_of_other {kind : FrameKind} {header : Byte} {payload : List Byte} (echoed : Bool)
    (h : ¬ (s.validStraps = true ∧ headerStation header = s.station)) :
    s.wholeFrame kind header payload (crc (header :: payload)) echoed
      = s.accept kind (headerStation header) payload := by
  have hother : ¬ (s.validStraps && headerStation header == s.station) = true := by
    rw [Bool.and_eq_true, beq_iff_eq]
    exact h
  rw [State.wholeFrame, if_pos rfl, if_neg hother]

/-- The station once a good frame is numbered and echoed and the alone timer restarts. -/
def State.frameHeard (s : State) : State := s.edge.numberAndEcho.restartAlone

theorem frameHeard_eq (s : State) :
    s.frameHeard = { s with
      link := { s.link with
        stuck := s.link.stuck.restart, lineHeld := false, lineSeq := s.link.lineSeq + 1
        drive := if s.link.stuck = .stopped then .echo else .released }
      modeCtl := { s.modeCtl with alone := s.modeCtl.alone.restart } } := by
  rw [State.frameHeard, State.numberAndEcho, edge_echo]
  rfl

/-- R154: what a clash leaves of the station. -/
theorem stationClash_writes (s : State) (kind : FrameKind) (header : Byte) (payload : List Byte) {t : State}
    {rep : LinkReport} (ht : t = s.edge.stationClash kind header payload)
    (hrep : rep = { kind := .stationClash, severity := .hard, header, first := byteAt payload 0
                    second := byteAt payload 1, stamp := s.sweep.count }) :
    t = { s with link := t.link, diag := t.diag, modeCtl := t.modeCtl }
      ∧ t.link = { s.edge.link with
          txq := t.link.txq, stationClash := true, lineSeq := s.link.lineSeq + 1
          drive := if s.link.stuck = .stopped then .echo else .released }
      ∧ t.diag.link = s.diag.link.apply .hard rep := by
  have heard : t = ((s.frameHeard.hearProposal kind).reportLink .stationClash header payload).markClash := ht
  obtain ⟨txq, window, idle, overflow, refusals, h⟩ := hearProposal_refusalWrites s.frameHeard kind
  subst heard hrep
  rw [h, frameHeard_eq]
  exact ⟨rfl, rfl, rfl⟩

end Reception

/-- Settles O37: each way a reading ends badly, and the clash. -/
theorem badFramesAreReported : Obligations.BadFramesAreReported := by
  intro s u cells echoed hp hd hc hu
  obtain rfl : u = s.edge := hu
  rw [frameReceptionEnd_eq hp hd hc]
  refine ⟨fun hm => by rw [hearCells_inStandby hm], fun hm => ?_⟩
  rw [hearCells_awake hm]
  refine ⟨fun kind header payload check hr hbad => ?_, fun bytes hr => ?_, fun hr => by rw [hr]; rfl,
    fun kind header payload rep hr hv hn hrep => ?_⟩
  · rw [hr, State.takeReading, wholeFrame_of_bad echoed hbad, badCheck_eq]
    rfl
  · rw [hr, State.takeReading, State.reportLink, byteAt_tail, byteAt_tail]
    rfl
  · rw [hr, State.takeReading, wholeFrame_of_clash (s := s.edge) echoed hv hn]
    obtain ⟨hstate, hlink, hdiag⟩ := stationClash_writes s kind header payload rfl hrep
    refine ⟨_, rfl, hstate, hlink, hdiag, fun hkind => ?_, fun hkind => ?_⟩
    · rw [State.stationClash, hearProposal_of_other hkind, hrep]
      exact ⟨rfl, rfl, rfl⟩
    · subst hkind
      exact ((hearProposal_heard s.frameHeard).of_same _ rfl rfl rfl rfl).of_result rfl rfl rfl

end Sys2Proof.Machine

namespace Sys2Proof.Machine

/-! ### A frame offered to the receive queue (R160, R161) -/

section OfferRx

variable {s : State} {f : RxFrame}

theorem saturatingSucc_eq_min (n : Nat) : saturatingSucc n = min (n + 1) 65535 := by
  unfold saturatingSucc
  split <;> omega

theorem isAddressed_iff (s : State) (f : RxFrame) :
    s.isAddressed f = true
      ↔ s.validStraps = true ∧ f.station = 13 ∧ (byteAt f.payload 0).toNat = s.station.toNat := by
  simp only [State.isAddressed, Bool.and_eq_true, beq_iff_eq, and_assoc]

theorem offeredClass_of_class {c : FrameClass} (hc : f.kind.frameClass = some c)
    (h : c = .service → s.isAddressed f = true) : s.offeredClass f = some c := by
  rw [State.offeredClass, hc]
  cases c with
  | event => rfl
  | status => rfl
  | service => exact if_pos (h rfl)

theorem offeredClass_of_noClass (hc : f.kind.frameClass = none) : s.offeredClass f = none := by
  rw [State.offeredClass, hc]

theorem offeredClass_of_unaddressed (hc : f.kind.frameClass = some .service) (h : ¬ s.isAddressed f = true) :
    s.offeredClass f = none := by
  rw [State.offeredClass, hc]
  exact if_neg h

theorem offerRx_of_none (h : s.offeredClass f = none) : s.offerRx f = s := by
  rw [State.offerRx, h]

theorem offerRx_of_place {c : FrameClass} (h : s.offeredClass f = some c) (hp : s.link.hasPlace c = true) :
    s.offerRx f = { s with
      link := { s.link with
        rxq := s.link.rxq ++ [f]
        highWater := max s.link.highWater (s.link.rxq.length + 1 + (if s.link.selfSlot = none then 0 else 1)) }
      diag := { s.diag with counters := s.diag.counters.rxPlaced c } } := by
  have hheld : Link.held { s.link with rxq := s.link.rxq ++ [f] }
      = s.link.rxq.length + 1 + (if s.link.selfSlot = none then 0 else 1) := by
    rw [Link.held, List.length_append, List.length_singleton]
    cases s.link.selfSlot <;> rfl
  rw [← hheld, State.offerRx, h]
  exact if_pos hp

theorem offerRx_of_noPlace {c : FrameClass} (h : s.offeredClass f = some c) (hp : ¬ s.link.hasPlace c = true) :
    s.offerRx f = { s with
      link := { s.link with eventLoss := if c = .event then .running 0 else s.link.eventLoss }
      diag := { s.diag with counters := s.diag.counters.rxDropped c } } := by
  rw [State.offerRx, h]
  exact if_neg hp

theorem rxPlaced_eq (k : Counters) (c : FrameClass) :
    k.rxPlaced c = { k with
      rxEvent := if c = .event then min (k.rxEvent + 1) 65535 else k.rxEvent
      rxStatus := if c = .status then min (k.rxStatus + 1) 65535 else k.rxStatus
      rxService := if c = .service then min (k.rxService + 1) 65535 else k.rxService } := by
  cases c <;> simp [Counters.rxPlaced, saturatingSucc_eq_min]

theorem rxDropped_eq (k : Counters) (c : FrameClass) :
    k.rxDropped c = { k with
      rxDropEvent := if c = .event then min (k.rxDropEvent + 1) 65535 else k.rxDropEvent
      rxDropStatus := if c = .status then min (k.rxDropStatus + 1) 65535 else k.rxDropStatus
      rxDropService := if c = .service then min (k.rxDropService + 1) 65535 else k.rxDropService } := by
  cases c <;> simp [Counters.rxDropped, saturatingSucc_eq_min]

/-- R160, R161: what a frame offered to the receive queue may write. -/
theorem offerRx_writes (s : State) (f : RxFrame) :
    ∃ (rxq : List RxFrame) (highWater : Nat) (eventLoss : Timer) (counters : Counters),
      counters.refusalsSent = s.diag.counters.refusalsSent
        ∧ s.offerRx f = { s with
            link := { s.link with rxq, highWater, eventLoss }, diag := { s.diag with counters } } := by
  cases hc : s.offeredClass f with
  | none => exact ⟨s.link.rxq, s.link.highWater, s.link.eventLoss, s.diag.counters, rfl, offerRx_of_none hc⟩
  | some c =>
    by_cases hp : s.link.hasPlace c = true
    · exact ⟨_, _, s.link.eventLoss, _, by rw [rxPlaced_eq], offerRx_of_place hc hp⟩
    · exact ⟨s.link.rxq, s.link.highWater, _, _, by rw [rxDropped_eq], offerRx_of_noPlace hc hp⟩

end OfferRx

/-! ### A frame of another station (R130, R147, R152, R187) -/

section OtherFrame

variable {s : State} {n : StationNo}

/-- The station once a good frame of station n is numbered and echoed, its slot live, and the alone timer restarts. -/
def State.otherHeard (s : State) (n : StationNo) : State :=
  ((s.edge.numberAndEcho.hear n).refreshDuty).restartAlone

theorem otherHeard_eq (s : State) (n : StationNo) :
    s.otherHeard n = { s.frameHeard with duty := (s.otherHeard n).duty } := by
  rw [State.otherHeard, State.hear]
  split <;> rfl

theorem otherHeard_view (s : State) (n : StationNo) :
    (s.otherHeard n).duty.view = s.duty.view ∧ (s.otherHeard n).duty.yielded = s.duty.yielded := by
  obtain ⟨-, -, -, hview, hyielded⟩ := refreshDuty_writes (s.edge.numberAndEcho.hear n)
  refine ⟨hview.trans ?_, hyielded.trans ?_⟩ <;>
  · rw [State.hear]
    split <;> rfl

theorem otherHeard_roster_live (h : 1 ≤ n.toNat) (h' : n.toNat ≤ 13) (hn : n ≠ s.station) :
    (s.otherHeard n).duty.roster = s.duty.roster.set (n.toNat - 1) { state := .live, ms := 0 } := by
  obtain ⟨-, -, hroster, -, -⟩ := refreshDuty_writes (s.edge.numberAndEcho.hear n)
  have hslot : s.edge.numberAndEcho.keepsSlot n = true := (keepsSlot_iff s n).2 ⟨h, h', hn⟩
  refine hroster.trans ?_
  rw [State.hear, if_pos hslot]
  rfl

theorem otherHeard_roster_kept (h : n.toNat = 0 ∨ 13 < n.toNat) : (s.otherHeard n).duty.roster = s.duty.roster := by
  obtain ⟨-, -, hroster, -, -⟩ := refreshDuty_writes (s.edge.numberAndEcho.hear n)
  have hslot : ¬ s.edge.numberAndEcho.keepsSlot n = true := fun hkeeps => by
    obtain ⟨_, _, -⟩ := (keepsSlot_iff s n).1 hkeeps
    omega
  refine hroster.trans ?_
  rw [State.hear, if_neg hslot]
  rfl

/-- R152: the accepted frame is offered to the receive queue last. -/
theorem accept_eq (s : State) (kind : FrameKind) (n : StationNo) (payload : List Byte) :
    s.edge.accept kind n payload
      = ((s.otherHeard n).hearProposal kind).offerRx { kind, station := n, payload, seq := s.link.lineSeq + 1 } :=
  rfl

/-- R152: what an accepted frame leaves before it is offered: the fields of the duty unit, and of a heard proposal. -/
theorem heardFrame_writes (s : State) (kind : FrameKind) (n : StationNo) :
    ∃ (txq : List TxEntry) (window : Option Window) (idle : Timer) (overflow refusals : Nat),
      (s.otherHeard n).hearProposal kind = { s with
        duty := (s.otherHeard n).duty
        link := { s.link with
          txq, stuck := s.link.stuck.restart, lineHeld := false, lineSeq := s.link.lineSeq + 1
          drive := if s.link.stuck = .stopped then .echo else .released }
        modeCtl := { s.modeCtl with window, idle, alone := s.modeCtl.alone.restart }
        diag := { s.diag with counters := { s.diag.counters with
          txOverflow := overflow, refusalsSent := refusals } } } := by
  obtain ⟨txq, window, idle, overflow, refusals, h⟩ := hearProposal_refusalWrites (s.otherHeard n) kind
  refine ⟨txq, window, idle, overflow, refusals, h.trans ?_⟩
  generalize hduty : (s.otherHeard n).duty = duty
  rw [otherHeard_eq, hduty, frameHeard_eq]

/-- R183, R184: what a SLEEP_PROPOSE of another station leaves. -/
theorem accept_heard (s : State) (n : StationNo) (payload : List Byte) :
    s.ProposalHeard (s.edge.accept .sleepPropose n payload)
      (s.link.txq.filter fun x => x.sending || !decide (x.kind = .sleepPropose))
      { s.modeCtl with alone := s.modeCtl.alone.restart } := by
  obtain ⟨rxq, highWater, eventLoss, counters, hcount, hoffer⟩ := offerRx_writes
    ((s.otherHeard n).hearProposal .sleepPropose)
    { kind := .sleepPropose, station := n, payload, seq := s.link.lineSeq + 1 }
  have hsame : (s.otherHeard n).link.txq = s.link.txq
      ∧ (s.otherHeard n).modeCtl = { s.modeCtl with alone := s.modeCtl.alone.restart }
      ∧ (s.otherHeard n).refusalReason = s.refusalReason ∧ (s.otherHeard n).validStraps = s.validStraps
      ∧ (s.otherHeard n).diag = s.diag := by
    rw [otherHeard_eq, frameHeard_eq]
    exact ⟨rfl, rfl, rfl, rfl, rfl⟩
  obtain ⟨htxq, hmode, hreason, hstraps, hdiag⟩ := hsame
  have hheard := hearProposal_heard (s.otherHeard n)
  rw [htxq, hmode] at hheard
  rw [accept_eq, hoffer]
  exact (hheard.of_same s (by rw [hmode]) hreason hstraps (by rw [hdiag])).of_result rfl rfl hcount

/-- R152, R147, R187: what an accepted frame leaves, whatever the receive queue does with it. -/
theorem accept_writes (s : State) (kind : FrameKind) (n : StationNo) (payload : List Byte) {t : State}
    (ht : t = s.edge.accept kind n payload) :
    t = { s with link := t.link, diag := t.diag, duty := t.duty, modeCtl := t.modeCtl }
      ∧ t.duty = (s.otherHeard n).duty
      ∧ t.modeCtl = { s.modeCtl with
          window := t.modeCtl.window, idle := t.modeCtl.idle, alone := s.modeCtl.alone.restart }
      ∧ t.link = { s.link with
          txq := t.link.txq, rxq := t.link.rxq, highWater := t.link.highWater, eventLoss := t.link.eventLoss
          stuck := s.link.stuck.restart, lineHeld := false, lineSeq := s.link.lineSeq + 1
          drive := if s.link.stuck = .stopped then .echo else .released } := by
  obtain ⟨rxq, highWater, eventLoss, counters, -, hoffer⟩ := offerRx_writes
    ((s.otherHeard n).hearProposal kind) { kind, station := n, payload, seq := s.link.lineSeq + 1 }
  obtain ⟨txq, window, idle, overflow, refusals, hheard⟩ := heardFrame_writes s kind n
  rw [ht, accept_eq, hoffer, hheard]
  exact ⟨rfl, rfl, rfl, rfl⟩

/-- R183: only a proposal touches the transmit queue and the window. -/
theorem accept_of_other {kind : FrameKind} (hkind : kind ≠ .sleepPropose) (n : StationNo) (payload : List Byte) :
    (s.edge.accept kind n payload).link.txq = s.link.txq
      ∧ (s.edge.accept kind n payload).modeCtl = { s.modeCtl with alone := s.modeCtl.alone.restart } := by
  obtain ⟨rxq, highWater, eventLoss, counters, -, hoffer⟩ := offerRx_writes
    (s.otherHeard n) { kind, station := n, payload, seq := s.link.lineSeq + 1 }
  rw [accept_eq, hearProposal_of_other hkind, hoffer, otherHeard_eq, frameHeard_eq]
  exact ⟨rfl, rfl⟩

/-- R160: a frame of no class, or a SERVICE frame for another, only is heard. -/
theorem accept_of_unoffered {kind : FrameKind} {payload : List Byte} (hkind : kind ≠ .sleepPropose)
    (h : s.offeredClass { kind, station := n, payload, seq := s.link.lineSeq + 1 } = none) :
    (s.edge.accept kind n payload).link.rxq = s.link.rxq
      ∧ (s.edge.accept kind n payload).link.highWater = s.link.highWater
      ∧ (s.edge.accept kind n payload).diag = s.diag := by
  rw [accept_eq, hearProposal_of_other hkind, otherHeard_eq, frameHeard_eq, offerRx_of_none]
  · exact ⟨rfl, rfl, rfl⟩
  · exact h

/-- R161: a frame offered joins where its class has a place. -/
theorem accept_placed {kind : FrameKind} {payload : List Byte} {c : FrameClass}
    (h : s.offeredClass { kind, station := n, payload, seq := s.link.lineSeq + 1 } = some c)
    (hp : s.link.hasPlace c = true) {t : State} {k k' : Counters} (ht : t = s.edge.accept kind n payload)
    (hk : k = s.diag.counters) (hk' : k' = t.diag.counters) :
    t.diag.meas = s.diag.meas ∧ t.diag.link = s.diag.link
      ∧ t.link.rxq = s.link.rxq ++ [{ kind, station := n, payload, seq := s.link.lineSeq + 1 }]
      ∧ t.link.eventLoss = s.link.eventLoss
      ∧ t.link.highWater
        = max s.link.highWater (s.link.rxq.length + 1 + (if s.link.selfSlot = none then 0 else 1))
      ∧ k'.rxEvent = (if c = .event then min (k.rxEvent + 1) 65535 else k.rxEvent)
      ∧ k'.rxStatus = (if c = .status then min (k.rxStatus + 1) 65535 else k.rxStatus)
      ∧ k'.rxService = (if c = .service then min (k.rxService + 1) 65535 else k.rxService)
      ∧ k'.rxDropEvent = k.rxDropEvent ∧ k'.rxDropStatus = k.rxDropStatus
      ∧ k'.rxDropService = k.rxDropService := by
  obtain ⟨txq, window, idle, overflow, refusals, hheard⟩ := heardFrame_writes s kind n
  have hoffered : ((s.otherHeard n).hearProposal kind).offeredClass
      { kind, station := n, payload, seq := s.link.lineSeq + 1 } = some c := by rw [hheard]; exact h
  have hplace : ((s.otherHeard n).hearProposal kind).link.hasPlace c = true := by rw [hheard]; exact hp
  rw [accept_eq, offerRx_of_place hoffered hplace, rxPlaced_eq, hheard] at ht
  subst ht hk hk'
  exact ⟨rfl, rfl, rfl, rfl, rfl, rfl, rfl, rfl, rfl, rfl, rfl⟩

/-- R161: without a place it is dropped. -/
theorem accept_dropped {kind : FrameKind} {payload : List Byte} {c : FrameClass}
    (h : s.offeredClass { kind, station := n, payload, seq := s.link.lineSeq + 1 } = some c)
    (hp : ¬ s.link.hasPlace c = true) {t : State} {k k' : Counters} (ht : t = s.edge.accept kind n payload)
    (hk : k = s.diag.counters) (hk' : k' = t.diag.counters) :
    t.diag.meas = s.diag.meas ∧ t.diag.link = s.diag.link
      ∧ t.link.rxq = s.link.rxq ∧ t.link.highWater = s.link.highWater
      ∧ (c = .event → t.link.eventLoss = .running 0) ∧ (c ≠ .event → t.link.eventLoss = s.link.eventLoss)
      ∧ k'.rxEvent = k.rxEvent ∧ k'.rxStatus = k.rxStatus ∧ k'.rxService = k.rxService
      ∧ k'.rxDropEvent = (if c = .event then min (k.rxDropEvent + 1) 65535 else k.rxDropEvent)
      ∧ k'.rxDropStatus = (if c = .status then min (k.rxDropStatus + 1) 65535 else k.rxDropStatus)
      ∧ k'.rxDropService = (if c = .service then min (k.rxDropService + 1) 65535 else k.rxDropService) := by
  obtain ⟨txq, window, idle, overflow, refusals, hheard⟩ := heardFrame_writes s kind n
  have hoffered : ((s.otherHeard n).hearProposal kind).offeredClass
      { kind, station := n, payload, seq := s.link.lineSeq + 1 } = some c := by rw [hheard]; exact h
  have hplace : ¬ ((s.otherHeard n).hearProposal kind).link.hasPlace c = true := by rw [hheard]; exact hp
  rw [accept_eq, offerRx_of_noPlace hoffered hplace, rxDropped_eq, hheard] at ht
  subst ht hk hk'
  exact ⟨rfl, rfl, rfl, rfl, fun hc => if_pos hc, fun hc => if_neg hc, rfl, rfl, rfl, rfl, rfl, rfl⟩

end OtherFrame

/-- Settles O36: what every accepted frame leaves, then the receive queue by the class of the frame. -/
theorem acceptedFrameIsQueued : Obligations.AcceptedFrameIsQueued := by
  intro s cells echoed kind header payload n hp hm hd hr hn hother
  subst hn
  have hcells : cells ≠ [] := by rintro rfl; exact Reading.noConfusion hr
  have hexec : exec (.frameReceptionEnd cells echoed) s
      = .next (s.edge.accept kind (headerStation header) payload) := by
    rw [frameReceptionEnd_eq hp hd hcells, hearCells_awake hm, hr, State.takeReading,
      wholeFrame_of_other (s := s.edge) echoed hother]
  generalize headerStation header = n at *
  obtain ⟨hstate, hduty, hmode, hlink⟩ := accept_writes s kind n payload rfl
  obtain ⟨hview, hyielded⟩ := otherHeard_view s n
  refine ⟨_, hexec, hstate, by rw [hduty, hview], by rw [hduty, hyielded], by rw [hmode], by rw [hlink], by rw [hlink],
    fun hkind => accept_of_other hkind n payload, by rw [hlink], by rw [hlink], fun h => ?_, fun h => ?_, by rw [hmode],
    fun h h' hn => ?_, fun h => ?_, fun hkind => ?_, fun hkind => ?_, fun hkind haddr => ?_,
    fun c k k' hc hk hk' haddr => ?_⟩
  · rw [hlink]; exact if_pos h
  · rw [hlink]; exact if_neg h
  · rw [hduty, otherHeard_roster_live h h' hn]
  · rw [hduty, otherHeard_roster_kept h]
  · subst hkind
    exact accept_heard s n payload
  · subst hkind
    exact accept_of_unoffered FrameKind.noConfusion (offeredClass_of_noClass rfl)
  · have hclass : kind.frameClass = some .service := by rcases hkind with rfl | rfl <;> rfl
    have hpropose : kind ≠ .sleepPropose := by rintro rfl; exact absurd hclass (by decide)
    exact accept_of_unoffered hpropose (offeredClass_of_unaddressed hclass fun h => haddr ((isAddressed_iff s _).1 h))
  · have hoffered : s.offeredClass { kind, station := n, payload, seq := s.link.lineSeq + 1 } = some c :=
      offeredClass_of_class hc fun h => (isAddressed_iff s _).2 (haddr h)
    by_cases hplace : s.link.hasPlace c = true
    · obtain ⟨hmeas, hcapture, hqueue⟩ := accept_placed hoffered hplace rfl hk hk'
      refine ⟨hmeas, hcapture, fun _ => hqueue, fun hfull hshared => ?_⟩
      rw [hasPlace_iff] at hplace
      omega
    · obtain ⟨hmeas, hcapture, hqueue⟩ := accept_dropped hoffered hplace rfl hk hk'
      exact ⟨hmeas, hcapture, fun h => absurd ((hasPlace_iff _ _).2 h) hplace, fun _ _ => hqueue⟩

end Sys2Proof.Machine

namespace Sys2Proof.Machine

/-! ### The end of a transmission (R151, R164) -/

section Sent

variable {s : State} {before after : List TxEntry} {e : TxEntry}

theorem afterEnd_of_sentWhole (h : s.Sends before e after) (hn : e.newer = none) :
    afterEnd s.link.txq = before ++ after := by
  rw [afterEnd_of_sends s h, if_pos hn, List.append_nil]

theorem afterEnd_of_newer (h : s.Sends before e after) {newer : List Byte} (hn : e.newer = some newer) :
    afterEnd s.link.txq = before ++ { e with sending := false, newer := none, payload := newer } :: after := by
  rw [afterEnd_of_sends s h, if_neg (by rw [hn]; exact Option.some_ne_none _), List.append_assoc, List.singleton_append,
    TxEntry.waitAgain, hn]
  rfl

/-- The station once the sent frame has left the queue, is numbered, counted and its echo judged. -/
def State.frameNumbered (s : State) (e : TxEntry) (echoed : Bool) : State :=
  ((s.setLink (s.link.sent e)).count fun k => k.sent echoed).reportEcho e echoed

theorem frameSent_eq (h : s.Sends before e after) (echoed : Bool) :
    exec (.frameSent echoed) s = .next ((s.frameNumbered e echoed).sentReport e) := by
  show execFrameSent echoed s = _
  rw [execFrameSent, onLine_of_sends s h]
  rfl

theorem frameNumbered_eq (s : State) (e : TxEntry) (echoed : Bool) :
    s.frameNumbered e echoed = { s with link := s.link.sent e, diag := (s.frameNumbered e echoed).diag } := by
  cases echoed <;> rfl

theorem frameNumbered_counters (s : State) (e : TxEntry) (echoed : Bool) :
    (s.frameNumbered e echoed).diag.counters.framesSent = saturatingSucc s.diag.counters.framesSent
      ∧ (s.frameNumbered e echoed).diag.counters.refusalsSent = s.diag.counters.refusalsSent
      ∧ (s.frameNumbered e echoed).diag.counters.echoMissing
        = if echoed then s.diag.counters.echoMissing else saturatingSucc s.diag.counters.echoMissing := by
  cases echoed <;> exact ⟨rfl, rfl, rfl⟩

theorem frameNumbered_capture (s : State) (e : TxEntry) (echoed : Bool) :
    (s.frameNumbered e echoed).diag.link = if echoed then s.diag.link else s.diag.link.apply .soft
      { kind := .echoMissing, severity := .soft, header := headerByte e.kind s.station
        first := byteAt e.payload 0, second := byteAt e.payload 1, stamp := s.sweep.count } := by
  cases echoed <;> rfl

end Sent

/-! ### The ALERT that was sent (R193) -/

section AlertSent

variable {s : State} {p : Pos} {cls : Cls} {r : Record} {timer : Timer} {payload : List Byte}

theorem alertPos_alertPayload (p : Pos) (cls : Cls) (count : Nat) : alertPos (alertPayload p cls count) = p := by
  have hcls : cls.code < 16 := by cases cls <;> decide
  have hp := p.isLt
  have hbyte : (toByte (p.val * 64 + cls.code * 4)).toNat = p.val * 64 + cls.code * 4 := by
    rw [toByte, BitVec.toNat_ofNat]
    omega
  refine Fin.ext ?_
  show (toByte (p.val * 64 + cls.code * 4)).toNat / 64 % 4 = p.val
  rw [hbyte]
  omega

theorem isLast_iff (a : Alert) : a.isLast = true ↔ ∃ timer, a = .active 60 timer := by
  cases a <;> simp [Alert.isLast, alertLimit]

theorem alertSent_of_stays (h : (byteAt payload 1).toNat ≠ 60
    ∨ ∀ r timer, s.recordAt (alertPos payload) = some r → r.alert ≠ .active 60 timer) : s.alertSent payload = s := by
  refine if_neg fun hends => ?_
  rw [Bool.and_eq_true, beq_iff_eq, Option.any_eq_true] at hends
  obtain ⟨hcount, r, hr, hlast⟩ := hends
  obtain ⟨timer, htimer⟩ := (isLast_iff _).1 hlast
  rcases h with h | h
  · exact h hcount
  · exact h r timer hr htimer

theorem alertSent_of_last (hr : s.recordAt p = some r) (ha : r.alert = .active 60 timer) :
    s.alertSent (alertPayload p cls 60) = (s.putRecord p { r with alert := .expired }).withdrawAlerts p := by
  have hlast : (alertCountOf (alertPayload p cls 60) == alertLimit
      && (s.recordAt p).any fun r => r.alert.isLast) = true := by
    rw [hr, Option.any_some, (isLast_iff _).2 ⟨timer, ha⟩]
    rfl
  have hactive : r.alert.isActive = true := by rw [ha]; rfl
  rw [State.alertSent, alertPos_alertPayload, if_pos hlast]
  simp only [State.endAlert, hr, hactive, if_true]
  rw [updateRecord_of_some s hr]

/-- R193: of the transmit queue, the end of an alert takes entries and brings none; else it writes the table alone. -/
theorem alertSent_writes (s : State) (payload : List Byte) :
    ∃ (txq : List TxEntry) (table : Positions),
      s.alertSent payload = { s with link := { s.link with txq }, table } := by
  unfold State.alertSent State.endAlert
  split
  · split
    · split
      · exact ⟨_, _, rfl⟩
      · exact ⟨s.link.txq, s.table, rfl⟩
    · exact ⟨s.link.txq, s.table, rfl⟩
  · exact ⟨s.link.txq, s.table, rfl⟩

end AlertSent

/-! ### What a sent frame leaves (R151) -/

section SentReport

variable {s : State} {before after : List TxEntry} {e : TxEntry}

theorem sentReport_of_propose (h : e.kind = .sleepPropose) : s.sentReport e = s.openWindow := by
  rw [State.sentReport, h]

theorem sentReport_of_alert (h : e.kind = .alert) : s.sentReport e = s.alertSent e.payload := by
  rw [State.sentReport, h]

theorem sentReport_of_other (hp : e.kind ≠ .sleepPropose) (ha : e.kind ≠ .alert) : s.sentReport e = s := by
  unfold State.sentReport
  split
  · next h => exact absurd h hp
  · next h => exact absurd h ha
  · rfl

/-- R151: what the report of a sent frame to the mode controller may write. -/
theorem sentReport_writes (s : State) (e : TxEntry) :
    ∃ (txq : List TxEntry) (table : Positions) (modeCtl : ModeCtl) (overflow refusals : Nat),
      s.sentReport e = { s with
        link := { s.link with txq }, table, modeCtl
        diag := { s.diag with counters := { s.diag.counters with
          txOverflow := overflow, refusalsSent := refusals } } } := by
  by_cases hp : e.kind = .sleepPropose
  · obtain ⟨txq, _, _, overflow, refusals, h⟩ := openWindow_refusalWrites s
    exact ⟨txq, s.table, _, overflow, refusals, (sentReport_of_propose hp).trans h⟩
  · by_cases ha : e.kind = .alert
    · obtain ⟨txq, table, h⟩ := alertSent_writes s e.payload
      exact ⟨txq, table, s.modeCtl, _, _, (sentReport_of_alert ha).trans h⟩
    · exact ⟨s.link.txq, s.table, s.modeCtl, _, _, sentReport_of_other hp ha⟩

/-- R151: what every sent frame leaves. -/
theorem sentFrame_writes (s : State) (e : TxEntry) (echoed : Bool) {t : State}
    (ht : t = (s.frameNumbered e echoed).sentReport e) :
    t = { s with link := t.link, diag := t.diag, table := t.table, modeCtl := t.modeCtl }
      ∧ t.link = { s.link.sent e with txq := t.link.txq }
      ∧ t.diag.link = (s.frameNumbered e echoed).diag.link
      ∧ t.diag.counters.framesSent = (s.frameNumbered e echoed).diag.counters.framesSent
      ∧ t.diag.counters.echoMissing = (s.frameNumbered e echoed).diag.counters.echoMissing := by
  obtain ⟨txq, table, modeCtl, overflow, refusals, h⟩ := sentReport_writes (s.frameNumbered e echoed) e
  have hbase := frameNumbered_eq s e echoed
  generalize s.frameNumbered e echoed = base at hbase h ht ⊢
  rw [ht, h]
  refine ⟨?_, ?_, rfl, rfl, rfl⟩ <;>
  · rw [hbase]

/-- R184: a sent SLEEP_PROPOSE opens the window at its sender too. -/
theorem sentPropose_heard (s : State) (e : TxEntry) (echoed : Bool) :
    s.ProposalHeard (s.frameNumbered e echoed).openWindow (afterEnd s.link.txq) s.modeCtl := by
  obtain ⟨-, hrefusals, -⟩ := frameNumbered_counters s e echoed
  have hbase := frameNumbered_eq s e echoed
  have hheard := openWindow_heard (s := s.frameNumbered e echoed)
  generalize s.frameNumbered e echoed = base at hrefusals hbase hheard ⊢
  have hmode : base.modeCtl = s.modeCtl := by rw [hbase]
  have htxq : base.link.txq = afterEnd s.link.txq := by rw [hbase]; rfl
  rw [hmode, htxq] at hheard
  exact hheard.of_same s (by rw [hmode]) (by rw [hbase]; rfl) (by rw [hbase]; rfl) hrefusals

/-- R193: of a queue in which nothing is sent, the alert's ALERTs leave. -/
theorem filter_withdrawAlerts {q : List TxEntry} (h : ∀ x ∈ q, x.sending = false) (p : Pos) :
    (q.filter fun x => x.sending || !(x.kind == .alert && alertPos x.payload == p))
      = q.filter fun x => !x.alertsFor p :=
  List.filter_congr fun x hx => by rw [h x hx]; rfl

end SentReport

/-- Settles O34: what every sent frame leaves, then the report of each kind to the mode controller. -/
theorem sentFrameIsNumbered : Obligations.SentFrameIsNumbered := by
  intro s before e after echoed h
  obtain ⟨hstate, hlink, hcapture, hsent, hecho⟩ := sentFrame_writes s e echoed rfl
  obtain ⟨hframes, -, hmissing⟩ := frameNumbered_counters s e echoed
  have hbase := frameNumbered_eq s e echoed
  refine ⟨_, frameSent_eq h echoed, by rw [hlink]; rfl, by rw [hlink]; rfl, by rw [hlink]; rfl, hstate,
    by rw [hlink]; rfl, by rw [hlink]; rfl, hsent.trans hframes, fun heq => ⟨?_, ?_⟩, fun heq => ⟨?_, ?_⟩,
    fun k hk => ?_, fun hk => ?_, fun hp ha => ⟨fun hn => ?_, fun newer hn => ?_, ?_, ?_⟩,
    fun hp => ⟨afterEnd s.link.txq, afterEnd_of_sentWhole h, ?_, ?_⟩, fun ha => ⟨?_, fun hstays => ⟨?_, fun hn => ?_⟩⟩,
    fun p cls r timer ha hpayload hr hlast => ⟨?_, fun hn => ?_⟩⟩
  · rw [hcapture, frameNumbered_capture, if_pos heq]
  · rw [hecho, hmissing, if_pos heq]
  · rw [hcapture, frameNumbered_capture, if_neg (by rw [heq]; exact Bool.false_ne_true)]
  · rw [hecho, hmissing, if_neg (by rw [heq]; exact Bool.false_ne_true)]
    rfl
  · rw [hlink, Link.sent, hk]
    rfl
  · rw [hlink, Link.sent, hk]
    rfl
  · rw [sentReport_of_other hp ha, hbase, ← afterEnd_of_sentWhole h hn]
    rfl
  · rw [sentReport_of_other hp ha, hbase, ← afterEnd_of_newer h hn]
    rfl
  · rw [sentReport_of_other hp ha, hbase]
  · rw [sentReport_of_other hp ha, hbase]
  · rw [sentReport_of_propose hp]
    exact sentPropose_heard s e echoed
  · obtain ⟨_, _, _, _, _, hopen⟩ := openWindow_refusalWrites (s.frameNumbered e echoed)
    rw [sentReport_of_propose hp, hopen, hbase]
  · obtain ⟨_, _, hends⟩ := alertSent_writes (s.frameNumbered e echoed) e.payload
    rw [sentReport_of_alert ha, hends, hbase]
  · rw [sentReport_of_alert ha, alertSent_of_stays (by rw [hbase]; exact hstays), hbase]
  · rw [sentReport_of_alert ha, alertSent_of_stays (by rw [hbase]; exact hstays), hbase, ← afterEnd_of_sentWhole h hn]
    rfl
  · rw [sentReport_of_alert ha, hpayload, alertSent_of_last (by rw [hbase]; exact hr) hlast]
    exact putRecord_recordAt _ _ _
  · rw [sentReport_of_alert ha, hpayload, alertSent_of_last (by rw [hbase]; exact hr) hlast, hbase,
      ← afterEnd_of_sentWhole h hn]
    refine filter_withdrawAlerts (q := afterEnd s.link.txq) ?_ p
    rw [afterEnd_of_sentWhole h hn]
    obtain ⟨-, -, -, -, hrest⟩ := h
    exact hrest

end Sys2Proof.Machine

namespace Sys2Proof.Machine

/-! ### A lost arbitration (R121, R149) -/

section Loss

variable {s : State} {before after : List TxEntry} {e : TxEntry}

theorem isVoid_iff (e : TxEntry) : e.isVoid = true ↔ ∃ k, e.claim = some k ∧ k.voided = true := by
  rw [TxEntry.isVoid, Option.any_eq_true]

theorem afterLoss_append (q r : List TxEntry) : afterLoss (q ++ r) = afterLoss q ++ afterLoss r := by
  rw [afterLoss, afterLoss, afterLoss, List.filter_append, List.map_append]

/-- R149: an entry that only waits is not touched. -/
theorem afterLoss_of_waiting {q : List TxEntry} (h : ∀ x ∈ q, x.sending = false) : afterLoss q = q := by
  have hfilter : (q.filter fun x => !(x.sending && x.isVoid)) = q :=
    List.filter_eq_self.2 fun x hx => by rw [h x hx]; rfl
  have hmap : (q.map fun x => if x.sending then x.waitAgain else x) = q.map id :=
    List.map_congr_left fun x hx => by rw [h x hx]; rfl
  rw [afterLoss, hfilter, hmap, List.map_id]

/-- R149, R121: of the queue, the entry that was on the line alone moves. -/
theorem afterLoss_of_sends (h : s.Sends before e after) :
    afterLoss s.link.txq = before ++ (if e.isVoid then [] else [e.waitAgain]) ++ after := by
  obtain ⟨-, -, hq, he, hrest⟩ := h
  have hone : afterLoss [e] = if e.isVoid then [] else [e.waitAgain] := by
    cases hv : e.isVoid <;> simp [afterLoss, he, hv]
  rw [hq, ← List.singleton_append, afterLoss_append, afterLoss_append, hone,
    afterLoss_of_waiting fun x hx => hrest x (List.mem_append_left _ hx),
    afterLoss_of_waiting fun x hx => hrest x (List.mem_append_right _ hx), List.append_assoc]

theorem arbitrationLost_eq (h : s.Sends before e after) :
    exec .arbitrationLost s = .next { s with
      link := { s.link with
        txq := before ++ (if e.isVoid then [] else [e.waitAgain]) ++ after, drive := .released }
      diag := { s.diag with counters := { s.diag.counters with
        arbLoss := saturatingSucc s.diag.counters.arbLoss } } } := by
  show execArbitrationLost s = _
  rw [execArbitrationLost, onLine_of_sends s h, afterLoss_of_sends h]
  rfl

end Loss

/-! ### A mismatch (R150, R166) -/

section Mismatch

variable {s : State} {before after : List TxEntry} {e : TxEntry}

/-- The station once the mismatch is judged, before the owner of the discarded frame is told. -/
def State.mismatched (s : State) (e : TxEntry) : State :=
  ((s.setLink s.link.mismatch).reportLink .bitMismatch (headerByte e.kind s.station) e.payload).reportFence
    (fenceRun ≤ s.link.mismatchRun + 1) (headerByte e.kind s.station) e.payload

theorem bitMismatch_eq (h : s.Sends before e after) :
    exec .bitMismatch s = .next ((s.mismatched e).frameCutOff e) := by
  show execBitMismatch s = _
  rw [execBitMismatch, onLine_of_sends s h]
  rfl

theorem mismatched_of_below (e : TxEntry) (h : s.link.mismatchRun + 1 < 8) :
    s.mismatched e
      = (s.setLink s.link.mismatch).reportLink .bitMismatch (headerByte e.kind s.station) e.payload := by
  have hbelow : decide (fenceRun ≤ s.link.mismatchRun + 1) = false := decide_eq_false (Nat.not_le.2 h)
  rw [State.mismatched, hbelow]
  rfl

theorem mismatched_of_fence (e : TxEntry) (h : 8 ≤ s.link.mismatchRun + 1) :
    s.mismatched e
      = ((s.setLink s.link.mismatch).reportLink .bitMismatch (headerByte e.kind s.station) e.payload).reportLink
          .fenceEntry (headerByte e.kind s.station) e.payload := by
  have hfence : decide (fenceRun ≤ s.link.mismatchRun + 1) = true := decide_eq_true h
  rw [State.mismatched, hfence]
  rfl

theorem mismatched_eq (s : State) (e : TxEntry) :
    s.mismatched e = { s with link := s.link.mismatch, diag := (s.mismatched e).diag } := by
  rcases Nat.lt_or_ge (s.link.mismatchRun + 1) 8 with h | h
  · rw [mismatched_of_below e h]
    rfl
  · rw [mismatched_of_fence e h]
    rfl

theorem mismatched_claimsYielded (s : State) (e : TxEntry) :
    (s.mismatched e).diag.counters.claimsYielded = s.diag.counters.claimsYielded := by
  rcases Nat.lt_or_ge (s.link.mismatchRun + 1) 8 with h | h
  · rw [mismatched_of_below e h]
    rfl
  · rw [mismatched_of_fence e h]
    rfl

end Mismatch

/-! ### What a discarded frame does to its owner (R119, R120, R183) -/

section CutOff

variable {s : State} {e : TxEntry}

theorem frameCutOff_of_claim (hk : e.kind = .claim) {c : ClaimRef} (hc : e.claim = some c) :
    s.frameCutOff e = s.claimCutOff c := by
  rw [State.frameCutOff, hk, hc]

theorem frameCutOff_of_propose (hk : e.kind = .sleepPropose) : s.frameCutOff e = s.restartIdle := by
  rw [State.frameCutOff, hk]

/-- R120, R121: but for a SLEEP_PROPOSE, and a CLAIM that is not void, the frame only goes. -/
theorem frameCutOff_of_other (hp : e.kind ≠ .sleepPropose)
    (hc : ∀ k, e.kind = .claim → e.claim = some k → k.voided = true) : s.frameCutOff e = s := by
  unfold State.frameCutOff
  split
  · next c hk he => rw [State.claimCutOff, if_pos (hc c hk he)]
  · next hk => exact absurd hk hp
  · rfl

theorem claimCutOff_of_claimant {c : ClaimRef} (hvoid : c.voided = false) {p : Pos} (hp : s.claimantOf c = some p) :
    s.claimCutOff c = s.yieldCutOff p := by
  rw [State.claimCutOff, hvoid, if_neg Bool.false_ne_true, hp]

/-- R119: the station once the yield has counted, from where the match is run again. -/
def State.yieldCounted (s : State) : State :=
  s.count fun k => { k with claimsYielded := saturatingSucc k.claimsYielded }

/-- R119: what a match run again may write: the record's origin, the departure list, the queue and the counters. -/
theorem searchOrSettle_writes (s : State) (p : Pos) :
    ∃ (txq : List TxEntry) (table : Positions) (departures : List DepEntry) (counters : Counters),
      s.searchOrSettle p = { s with
        link := { s.link with txq }, table, departures, diag := { s.diag with counters } } := by
  unfold State.searchOrSettle
  split
  · exact ⟨s.link.txq, s.table, s.departures, s.diag.counters, rfl⟩
  · split
    · exact ⟨_, _, _, _, rfl⟩
    · exact ⟨s.link.txq, _, s.departures, s.diag.counters, rfl⟩

theorem frameCutOff_writes (s : State) (e : TxEntry) :
    ∃ (txq : List TxEntry) (table : Positions) (modeCtl : ModeCtl) (departures : List DepEntry) (counters : Counters),
      s.frameCutOff e = { s with
        link := { s.link with txq }, table, modeCtl, departures, diag := { s.diag with counters } } := by
  have hsame : ∃ (txq : List TxEntry) (table : Positions) (modeCtl : ModeCtl) (departures : List DepEntry)
      (counters : Counters), s = { s with
        link := { s.link with txq }, table, modeCtl, departures, diag := { s.diag with counters } } :=
    ⟨s.link.txq, s.table, s.modeCtl, s.departures, s.diag.counters, rfl⟩
  unfold State.frameCutOff State.claimCutOff
  split
  · split
    · exact hsame
    · split
      · next p _ =>
        obtain ⟨txq, table, departures, counters, h⟩ := searchOrSettle_writes s.yieldCounted p
        exact ⟨txq, table, s.modeCtl, departures, counters, h⟩
      · exact hsame
  · obtain ⟨txq, _, _, _, _, h⟩ := restartIdle_refusalWrites s
    exact ⟨txq, s.table, _, s.departures, _, h⟩
  · exact hsame

end CutOff

/-! ### The idle timer a lost SLEEP_PROPOSE restarts (R183, R184) -/

section LostProposal

variable {s : State}

theorem testReasons_idle (h : s.modeCtl.idle.restart = s.modeCtl.idle) :
    s.testReasons.modeCtl.idle = s.modeCtl.idle := by
  obtain hsame | ⟨w, reason, -, hplaced⟩ := testReasons_cases s
  · rw [hsame]
  · obtain ⟨hmode, -⟩ := placeRefusal_writes s w reason
    rw [hplaced, hmode, h]

theorem restartIdle_idle (s : State) : s.restartIdle.modeCtl.idle = s.modeCtl.idle.restart := by
  unfold State.restartIdle
  cases hidle : s.modeCtl.idle with
  | stopped => exact hidle
  | running ms => exact testReasons_idle rfl

/-- R164, R165: but for a STATE, an offered frame brings at most itself to the queue. -/
theorem mem_of_offered {q : List TxEntry} {e x : TxEntry} (hk : e.kind ≠ .state) (h : x ∈ (offerEntry q e).txq) :
    x ∈ q ∨ x = e := by
  rcases Nat.lt_or_ge q.length 6 with hroom | hfull
  · rw [offerEntry_joins (.inl hk) hroom, List.mem_append, List.mem_singleton] at h
    exact h
  · by_cases hk' : e.kind = .diagReply
    · rw [offerEntry_refuses (.inl hk') hfull] at h
      exact .inl h
    · cases hd : displace q with
      | none =>
        rw [offerEntry_findsNoPlace hk hfull hd] at h
        exact .inl h
      | some rest =>
        rw [offerEntry_displaces hk hk' hfull hd, List.mem_append, List.mem_singleton] at h
        exact h.imp_left fun hx => (displace_sublist hd).subset hx

theorem mem_testReasons {x : TxEntry} (h : x ∈ s.testReasons.link.txq) : x ∈ s.link.txq ∨ x.kind = .sleepRefuse := by
  obtain hsame | ⟨w, reason, -, hplaced⟩ := testReasons_cases s
  · exact .inl (hsame ▸ h)
  · obtain ⟨-, hlink, -, -⟩ := placeRefusal_writes s w reason
    rw [hplaced, hlink] at h
    cases hv : s.validStraps with
    | false =>
      rw [offerTx_of_invalidStraps hv] at h
      exact .inl h
    | true =>
      have htxq : (s.offerTx (newEntry .sleepRefuse [toByte reason.code] none)).link.txq
          = (offerEntry s.link.txq (newEntry .sleepRefuse [toByte reason.code] none)).txq := by
        rw [← offerOf_of_validStraps hv]
        rfl
      rw [htxq] at h
      exact (mem_of_offered FrameKind.noConfusion h).imp_right fun hx => by rw [hx]; rfl

theorem mem_restartIdle {x : TxEntry} (h : x ∈ s.restartIdle.link.txq) : x ∈ s.link.txq ∨ x.kind = .sleepRefuse := by
  unfold State.restartIdle at h
  split at h
  · exact mem_testReasons (s := s.setModeCtl { s.modeCtl with idle := .running 0 }) h
  · exact .inl h

end LostProposal

/-! ### What every mismatch leaves (R119, R150) -/

section CutOffLeaves

variable {s : State}

theorem cutOff_writes (s : State) (e : TxEntry) {t : State} (ht : t = (s.mismatched e).frameCutOff e) :
    t = { s with link := t.link, diag := t.diag, table := t.table, modeCtl := t.modeCtl, departures := t.departures }
      ∧ t.link = { s.link.mismatch with txq := t.link.txq } ∧ t.diag.link = (s.mismatched e).diag.link := by
  obtain ⟨txq, table, modeCtl, departures, counters, h⟩ := frameCutOff_writes (s.mismatched e) e
  have hbase := mismatched_eq s e
  generalize s.mismatched e = base at hbase h ht ⊢
  rw [ht, h]
  refine ⟨?_, ?_, rfl⟩ <;>
  · rw [hbase]

/-- R183: what a lost SLEEP_PROPOSE leaves. -/
theorem mismatched_restartIdle (s : State) (e : TxEntry) :
    (s.mismatched e).restartIdle.modeCtl.idle = s.modeCtl.idle.restart
      ∧ (s.mismatched e).restartIdle.table = s.table ∧ (s.mismatched e).restartIdle.departures = s.departures
      ∧ (∀ x ∈ (s.mismatched e).restartIdle.link.txq, x ∈ afterEnd s.link.txq ∨ x.kind = .sleepRefuse)
      ∧ (s.modeCtl.window = none → (s.mismatched e).restartIdle.link.txq = afterEnd s.link.txq) := by
  have hbase := mismatched_eq s e
  generalize s.mismatched e = base at hbase ⊢
  have htxq : base.link.txq = afterEnd s.link.txq := by rw [hbase]; rfl
  have hmode : base.modeCtl = s.modeCtl := by rw [hbase]
  obtain ⟨_, _, _, _, _, h⟩ := restartIdle_refusalWrites base
  refine ⟨by rw [restartIdle_idle, hmode], by rw [h, hbase], by rw [h, hbase], fun x hx => ?_, fun hwindow => ?_⟩
  · rw [← htxq]
    exact mem_restartIdle hx
  · rw [restartIdle_noWindow _ (by rw [hmode]; exact hwindow), ← htxq]
    rfl

/-- R119, R120: a CLAIM cut off whose record still waits for it makes that record search again. -/
theorem mismatched_claimCutOff (e : TxEntry) {k : ClaimRef} {p : Pos} {r : Record} {d : DepEntry}
    (hvoid : k.voided = false) (hr : s.recordAt p = some r) (hid : r.id = k.id) (ho : r.origin = .claiming d)
    (htag : d.tag = k.tag) (only : ∀ q r', s.recordAt q = some r' → r'.id = k.id → q = p) :
    (s.mismatched e).yieldCounted.Searched ((s.mismatched e).claimCutOff k) p r := by
  have hrecords : ∀ q, (s.mismatched e).recordAt q = s.recordAt q := fun q => by rw [mismatched_eq]; rfl
  have hclaimant : (s.mismatched e).claimantOf k = some p :=
    claimantOf_eq ((hrecords p).trans hr) hid ho htag fun q r' hq => only q r' ((hrecords q).symm.trans hq)
  rw [claimCutOff_of_claimant hvoid hclaimant]
  exact searchOrSettle_searched _ ((hrecords p).trans hr)

end CutOffLeaves

/-- Settles O33: a lost arbitration in its two cases, and a mismatch by the run and by the owner of the frame. -/
theorem transmissionsCutOff : Obligations.TransmissionsCutOff := by
  refine ⟨fun s before e after h => ⟨fun hclaim => ?_, fun k hk hvoid => ?_⟩, fun s before e after rep h hrep => ?_⟩
  · have hvoid : ¬ e.isVoid = true := by
      rw [isVoid_iff]
      rintro ⟨k, hk, hvoid⟩
      exact Bool.false_ne_true ((hclaim k hk).symm.trans hvoid)
    rw [arbitrationLost_eq h, if_neg hvoid, List.append_assoc]
    rfl
  · rw [arbitrationLost_eq h, if_pos ((isVoid_iff e).2 ⟨k, hk, hvoid⟩), List.append_nil]
    rfl
  · obtain ⟨hstate, hlink, hcapture⟩ := cutOff_writes s e rfl
    have hbase := mismatched_eq s e
    refine ⟨_, bitMismatch_eq h, hstate, by rw [hlink]; rfl, by rw [hlink]; rfl, by rw [hlink]; rfl, by rw [hlink]; rfl,
      by rw [hlink]; rfl, fun hbelow => ⟨?_, ?_⟩, fun hfence => ⟨?_, ?_⟩, fun hn hp hc => ⟨?_, ?_, ?_, ?_⟩,
      fun newer hk hn => ?_, fun hp => ?_, fun k p r d hk hc hvoid hr hid ho htag only => ?_⟩
    · rw [hlink]
      exact if_neg (Nat.not_le.2 hbelow)
    · rw [hcapture, mismatched_of_below e hbelow, hrep]
      rfl
    · rw [hlink]
      exact if_pos hfence
    · rw [hcapture, mismatched_of_fence e hfence, hrep]
      rfl
    · rw [frameCutOff_of_other hp hc, hbase, ← afterEnd_of_sentWhole h hn]
      rfl
    · rw [frameCutOff_of_other hp hc, hbase]
    · rw [frameCutOff_of_other hp hc, hbase]
    · rw [frameCutOff_of_other hp hc, hbase]
    · have hp : e.kind ≠ .sleepPropose := by rw [hk]; exact FrameKind.noConfusion
      have hc : e.kind ≠ .claim := by rw [hk]; exact FrameKind.noConfusion
      rw [frameCutOff_of_other hp fun _ hclaim => absurd hclaim hc, hbase, ← afterEnd_of_newer h hn]
      rfl
    · obtain ⟨hidle, htable, hdepartures, hjoins, hkept⟩ := mismatched_restartIdle s e
      rw [frameCutOff_of_propose hp]
      refine ⟨hidle, htable, hdepartures, fun hn => ?_⟩
      rw [← afterEnd_of_sentWhole h hn]
      exact ⟨hjoins, hkept⟩
    · rw [frameCutOff_of_claim hk hc]
      refine ⟨(s.mismatched e).yieldCounted, mismatched_claimCutOff e hvoid hr hid ho htag only, ?_, fun hn => ?_, ?_⟩
      · rw [hbase]
        rfl
      · rw [hbase, ← afterEnd_of_sentWhole h hn]
        rfl
      · rw [← mismatched_claimsYielded s e]
        rfl

end Sys2Proof.Machine

namespace Sys2Proof.Machine

/-! ### Holds and fence at their limits (R158, R161, R166, R171) -/

section Holds

variable {s : State} {limit : Nat} {timer : Timer} {held : Bool} (after : State)

/-- Log entry 2: below its limit a timer changes nothing. -/
theorem onlyIf_of_not_reached (h : ¬ timer.Reached limit) :
    onlyIf (s.powered && timer.isAt limit) after s = .next s := by
  rw [Bool.eq_false_iff.2 (h ∘ (reached_iff_isAt limit timer).2), Bool.and_false, onlyIf_false]

/-- R158: recessive time waits while the line is held. -/
theorem onlyIf_of_not_released (h : ¬ timer.Reached limit ∨ held = true) :
    onlyIf (s.powered && timer.isAt limit && !held) after s = .next s := by
  rcases h with h | rfl
  · rw [Bool.eq_false_iff.2 (h ∘ (reached_iff_isAt limit timer).2), Bool.and_false, Bool.false_and, onlyIf_false]
  · rw [Bool.not_true, Bool.and_false, onlyIf_false]

variable (hp : s.powered = true)
include hp

/-- Log entry 2: a timer at its limit is taken. -/
theorem onlyIf_of_reached (h : timer.Reached limit) : onlyIf (s.powered && timer.isAt limit) after s = .next after := by
  rw [hp, (reached_iff_isAt limit timer).1 h, Bool.true_and, onlyIf_true]

theorem onlyIf_of_released (h : timer.Reached limit) (hreleased : held = false) :
    onlyIf (s.powered && timer.isAt limit && !held) after s = .next after := by
  rw [hp, (reached_iff_isAt limit timer).1 h, hreleased, Bool.true_and, Bool.not_false, Bool.true_and, onlyIf_true]

theorem lineStuck_eq (hd : s.link.drive ≠ .wakePulse) : exec .lineStuck s = .next s.stuckLine := by
  show execLineStuck s = _
  rw [execLineStuck, (readsLine_iff s).2 ⟨hp, hd⟩, onlyIf_true]

end Holds

/-- Settles O30: each hold by whether its timer has reached its limit, the stuck hold by the line too. -/
theorem holdsRunOut : Obligations.HoldsRunOut := fun _ hp =>
  ⟨onlyIf_of_reached _ hp, onlyIf_of_not_reached _, onlyIf_of_reached _ hp, onlyIf_of_not_reached _,
    onlyIf_of_released _ hp, onlyIf_of_not_released _, onlyIf_of_reached _ hp, onlyIf_of_not_reached _, lineStuck_eq hp⟩

/-! ### STATE placed (R172, R174) -/

section Placing

variable {s : State}

/-- R164, R165: the queue takes a STATE where it has room or holds one to replace. -/
theorem offerOf_state_taken (hv : s.validStraps = true)
    (h : s.link.txq.length < 6 ∨ ∃ x ∈ s.link.txq, x.kind = .state) (payload : List Byte) :
    (s.offerOf (newEntry .state payload none)).taken = true := by
  rw [offerOf_of_validStraps hv]
  by_cases hqueued : ∃ x ∈ s.link.txq, x.kind = .state
  · rw [offerEntry_replaces rfl hqueued]
  · rw [offerEntry_joins (.inr fun x hx hk => hqueued ⟨x, hx, hk⟩) (h.resolve_right hqueued)]

/-- R165, R167: invalid straps, or a full queue with no STATE, refuse it. -/
theorem offerOf_state_refused
    (h : s.validStraps = false ∨ (6 ≤ s.link.txq.length ∧ ∀ x ∈ s.link.txq, x.kind ≠ .state)) (payload : List Byte) :
    (s.offerOf (newEntry .state payload none)).taken = false := by
  cases hv : s.validStraps with
  | false => simp [State.offerOf, hv]
  | true =>
    obtain ⟨hfull, hnone⟩ := h.resolve_left (by simp [hv])
    rw [offerOf_of_validStraps hv, offerEntry_refuses (.inr ⟨rfl, hnone⟩) hfull]

/-- The STATE emission once a STATE with this report has been placed from s (R172). -/
def State.emissionPlaced (s : State) (report : List Byte) : Emission :=
  { s.emission with
    report := report
    placedMark := true
    timer := .running 0
    lastPlaced := if (s.offerOf (newEntry .state report none)).taken then some report else s.emission.lastPlaced }

/-- The state once a STATE with this report has been placed (R172). -/
def State.statePlaced (s : State) (report : List Byte) : State :=
  { s with
    emission := s.emissionPlaced report, link := (s.place .state report).link, diag := (s.place .state report).diag }

theorem placeState_eq (s : State) : s.placeState = s.statePlaced s.emission.report := rfl

theorem rebuildReport_placeState_eq (s : State) : s.rebuildReport.placeState = s.statePlaced s.buildReport := rfl

/-- R172: the last placed content is the report only where the queue takes the frame. -/
theorem emissionPlaced_lastPlaced (report : List Byte) :
    (s.validStraps = true → (s.link.txq.length < 6 ∨ ∃ x ∈ s.link.txq, x.kind = .state) →
        (s.emissionPlaced report).lastPlaced = some report)
      ∧ (s.validStraps = false ∨ (6 ≤ s.link.txq.length ∧ ∀ x ∈ s.link.txq, x.kind ≠ .state) →
        (s.emissionPlaced report).lastPlaced = s.emission.lastPlaced) :=
  ⟨fun hv h => if_pos (offerOf_state_taken hv h report),
    fun h => if_neg (Bool.eq_false_iff.1 (offerOf_state_refused h report))⟩

/-- R174: the emission timer's end places the report as last built, in SERVICE a fresh one. -/
theorem emit_eq (s : State) :
    s.emit = s.statePlaced (if s.modeCtl.mode = .service then s.buildReport else s.emission.report) := by
  unfold State.emit
  split
  · exact rebuildReport_placeState_eq s
  · exact placeState_eq s

theorem emissionTimerExpiry_of_running {ms : Nat} (hp : s.powered = true) (ht : s.emission.timer = .running ms) :
    exec .emissionTimerExpiry s = .next (if 200 ≤ ms then s.emit else s) := by
  show execEmissionTimerExpiry s = _
  rw [execEmissionTimerExpiry, onlyIf_next, hp, Bool.true_and]
  simp only [isAt_iff ht]
  rfl

end Placing

/-- Settles O40: below and at the limit of the emission timer; what a placed STATE writes by `emissionPlaced`. -/
theorem emissionTimerPlacesState : Obligations.EmissionTimerPlacesState := by
  intro s ms report hp ht hreport
  rw [emissionTimerExpiry_of_running hp ht]
  refine ⟨fun hbelow => congrArg _ (if_neg (Nat.not_le.2 hbelow)), fun hend => ⟨s.statePlaced report, ?_, rfl, rfl, rfl,
    rfl, rfl, emissionPlaced_lastPlaced report⟩⟩
  rw [if_pos hend, emit_eq, ← hreport]

end Sys2Proof.Machine

namespace Sys2Proof.Machine

/-! ### The report (R103, R171) -/

section Report

/-- R103: at a record the kind NONE sends QUIET, every other its level. -/
theorem reminderSent_of_record {seat : Seat} {r : Record} (h : seat.record = some r) :
    seat.reminderSent = if r.kind = .none then (.quiet, false) else (r.level, decide (r.kind = .secure)) := by
  rw [Seat.reminderSent, h]
  cases hk : r.kind <;> simp [hk]

/-- R103: without a record a securing state sends its level as SECURE. -/
theorem reminderSent_of_noRecord {seat : Seat} (h : seat.record = none) :
    (∀ l, seat.securing = some l → seat.reminderSent = (l, true))
      ∧ (seat.securing = none → seat.reminderSent = (.quiet, false)) := by
  rw [Seat.reminderSent, h]
  exact ⟨fun l hl => by rw [hl], fun hnone => by rw [hnone]⟩

theorem seat_byte_toNat (seat : Seat) :
    seat.byte.toNat = seat.cls.code * 16 + seat.reminderSent.1.code * 2 + (if seat.reminderSent.2 then 1 else 0) := by
  have hcls : seat.cls.code ≤ 9 := by cases seat.cls <;> decide
  have hlevel : seat.reminderSent.1.code ≤ 4 := by cases seat.reminderSent.1 <;> decide
  rw [Seat.byte, positionByte, toByte, BitVec.toNat_ofNat, Nat.mod_eq_of_lt]
  split <;> omega

/-- R171: the belt byte holds each belt state in two bits, position 0 in the highest. -/
theorem beltByte_field (belts : Four BeltState) (p : Pos) :
    (beltByte belts).toNat / 4 ^ (3 - p.val) % 4 = (belts.get p).code := by
  have hcode : ∀ b : BeltState, b.code ≤ 3 := fun b => by cases b <;> decide
  have h0 := hcode belts.c0
  have h1 := hcode belts.c1
  have h2 := hcode belts.c2
  have h3 := hcode belts.c3
  have hbyte : (beltByte belts).toNat
      = belts.c0.code * 64 + belts.c1.code * 16 + belts.c2.code * 4 + belts.c3.code := by
    rw [beltByte, toByte, BitVec.toNat_ofNat, Nat.mod_eq_of_lt]
    omega
  rw [hbyte]
  fin_cases p <;> simp [Four.get] <;> omega

/-- R171: a byte made of eight flags, bit 7 first. -/
def flagByte (b7 b6 b5 b4 b3 b2 b1 b0 : Bool) : Byte :=
  toByte ((if b7 then 128 else 0) + (if b6 then 64 else 0) + (if b5 then 32 else 0) + (if b4 then 16 else 0)
    + (if b3 then 8 else 0) + (if b2 then 4 else 0) + (if b1 then 2 else 0) + (if b0 then 1 else 0))

theorem flagByte_getLsbD : ∀ b7 b6 b5 b4 b3 b2 b1 b0 : Bool,
    (flagByte b7 b6 b5 b4 b3 b2 b1 b0).getLsbD 7 = b7 ∧ (flagByte b7 b6 b5 b4 b3 b2 b1 b0).getLsbD 6 = b6
      ∧ (flagByte b7 b6 b5 b4 b3 b2 b1 b0).getLsbD 5 = b5 ∧ (flagByte b7 b6 b5 b4 b3 b2 b1 b0).getLsbD 4 = b4
      ∧ (flagByte b7 b6 b5 b4 b3 b2 b1 b0).getLsbD 3 = b3 ∧ (flagByte b7 b6 b5 b4 b3 b2 b1 b0).getLsbD 2 = b2
      ∧ (flagByte b7 b6 b5 b4 b3 b2 b1 b0).getLsbD 1 = b1 ∧ (flagByte b7 b6 b5 b4 b3 b2 b1 b0).getLsbD 0 = b0 := by
  decide

variable (s : State)

theorem flagsByte_eq :
    s.flagsByte = flagByte s.emission.restarted.isRunning s.link.eventLoss.isRunning s.vehicle.lostFlag
      s.table.unlatched s.holdsDuty (s.link.stationClash || s.duty.yielded) s.faultHeld
      (decide (s.modeCtl.mode = .service)) := by
  simp only [State.flagsByte, flagByte, decide_eq_true_eq]

theorem lostFlag_iff (v : Vehicle) : v.lostFlag = true ↔ v.fresh = false ∧ v.ignition = .on := by
  simp [Vehicle.lostFlag]

theorem isLocked_iff {ρ : Type} (c : Capture ρ) : c.isLocked = true ↔ ∃ rep lost, c = .locked rep lost := by
  cases c <;> simp [Capture.isLocked]

theorem faultHeld_iff :
    s.faultHeld = true ↔ (∃ rep lost, s.diag.meas = .locked rep lost) ∨ (∃ rep lost, s.diag.link = .locked rep lost)
      ∨ s.config.defaulted = true := by
  rw [State.faultHeld, Bool.or_eq_true, Bool.or_eq_true, isLocked_iff, isLocked_iff, or_assoc]

theorem buildReport_position (p : Pos) : byteAt s.buildReport p.val = (s.table.seats.get p).byte := by
  fin_cases p <;> rfl

/-- R171: a number that is ABSENT sends NOT_FITTED. -/
theorem buildReport_belt (p : Pos) :
    (byteAt s.buildReport 4).toNat / 4 ^ (3 - p.val) % 4
      = if (s.table.seats.get p).cls = .absent then 3 else (s.sfe.positions.get p).belt.code := by
  have hbyte : byteAt s.buildReport 4 = beltByte (Four.ofFn s.beltSent) := rfl
  rw [hbyte, beltByte_field, Four.get_ofFn, State.beltSent, apply_ite BeltState.code]
  rfl

end Report

/-! ### Step 5 of a completion (R29, R135, R172) -/

section StepFive

variable (s : State)

/-- R172: step 5 places a STATE. -/
def State.CallsForState (s : State) : Prop :=
  s.modeCtl.mode = .active ∧ s.emission.placedMark = false ∧ s.emission.lastPlaced ≠ some s.buildReport

theorem callsForState_iff :
    (s.rebuildReport.modeCtl.mode == .active && s.rebuildReport.emission.calls) = true ↔ s.CallsForState := by
  simp [State.rebuildReport, Emission.calls, State.CallsForState]

variable {s} in
theorem placeIfCalled_of_called (h : s.CallsForState) :
    s.rebuildReport.placeIfCalled = s.statePlaced s.buildReport := by
  rw [State.placeIfCalled, if_pos ((callsForState_iff s).2 h), rebuildReport_placeState_eq]

variable {s} in
theorem placeIfCalled_of_notCalled (h : ¬ s.CallsForState) : s.rebuildReport.placeIfCalled = s.rebuildReport :=
  if_neg ((callsForState_iff s).not.2 h)

/-- R135: the duty unit once the own row is filled, where the station holds duty. -/
def State.ownRowFilled (s : State) : Duty :=
  if s.holdsDuty then
    { s.duty with
      view := s.duty.view.set (s.station.toNat - 1) (.filled s.table.unlatched (s.table.seats.map Seat.viewSlot)) }
  else s.duty

theorem fillOwnRow_eq : s.fillOwnRow = { s with duty := s.ownRowFilled } := by
  unfold State.fillOwnRow State.ownRowFilled
  split <;> rfl

/-- Filling the own row reads the table, the straps and the duty unit alone. -/
theorem fillOwnRow_placeIfCalled :
    s.rebuildReport.placeIfCalled.fillOwnRow = { s.rebuildReport.placeIfCalled with duty := s.ownRowFilled } := by
  rw [fillOwnRow_eq]
  by_cases h : s.CallsForState
  · rw [placeIfCalled_of_called h]
    rfl
  · rw [placeIfCalled_of_notCalled h]
    rfl

end StepFive

/-- Settles O41: the report byte by byte, then step 5 by whether it places a STATE and whether the station holds duty. -/
theorem completionReports : Obligations.CompletionReports := by
  refine ⟨fun s => ?_, fun s u called hu hcalled => ?_⟩
  · obtain ⟨h7, h6, h5, h4, h3, h2, h1, h0⟩ := flagByte_getLsbD s.emission.restarted.isRunning
      s.link.eventLoss.isRunning s.vehicle.lostFlag s.table.unlatched s.holdsDuty
      (s.link.stationClash || s.duty.yielded) s.faultHeld (decide (s.modeCtl.mode = .service))
    have hflags : byteAt s.buildReport 5 = s.flagsByte := rfl
    rw [hflags, flagsByte_eq, h7, h6, h5, h4, h3, h2, h1, h0]
    refine ⟨rfl, fun p => ⟨?_, fun r hr => reminderSent_of_record hr, reminderSent_of_noRecord,
      buildReport_belt s p⟩, timer_isRunning_iff _, timer_isRunning_iff _, lostFlag_iff _, Iff.rfl, Iff.rfl,
      Bool.or_eq_true_iff, faultHeld_iff s, decide_eq_true_iff⟩
    rw [buildReport_position, seat_byte_toNat]
  · subst hu
    replace hcalled : called ↔ s.CallsForState := hcalled
    refine ⟨s.rebuildReport.placeIfCalled.fillOwnRow, rfl, ?_⟩
    rw [fillOwnRow_placeIfCalled]
    refine ⟨?_, fun h => ?_, fun h => ?_, fun hduty => ?_, fun hduty => ⟨s.table.seats.map Seat.viewSlot, ?_, fun p => ?_⟩⟩
    · by_cases h : s.CallsForState
      · rw [placeIfCalled_of_called h]
        rfl
      · rw [placeIfCalled_of_notCalled h]
        rfl
    · rw [placeIfCalled_of_notCalled (h ∘ hcalled.2)]
      exact ⟨rfl, rfl, rfl⟩
    · rw [placeIfCalled_of_called (hcalled.1 h)]
      exact ⟨rfl, rfl, rfl, emissionPlaced_lastPlaced s.buildReport⟩
    · exact if_neg (Bool.eq_false_iff.1 hduty)
    · exact if_pos hduty
    · rw [Four.get_map]
      rfl

end Sys2Proof.Machine

namespace Sys2Proof.Machine

/-! ### Vehicle data taken (R177, R178) -/

section VehicleTaken

variable (s : State) (after : Vehicle)

/-- R178: the changes that the new values make. -/
def State.changesOf (s : State) (after : Vehicle) : VehicleChange := vehicleChange s.config.running s.vehicle after

/-- R178: the state whose record, ladders and Departure List have taken the new values, before the mode controller
does. -/
def State.vehicleTaken (s : State) (after : Vehicle) : State :=
  ((s.setVehicle { after with trip := (s.changesOf after).tripAfter after.trip }).laddersTaken
    (s.changesOf after)).setDepartures (if (s.changesOf after).tripEnded then [] else s.departures)

variable {s after}

theorem deriveVehicle_of_becameOn (h : (s.changesOf after).becameOn = true) :
    s.deriveVehicle after = (s.vehicleTaken after).ignitionBecameOn.refreshOutputs :=
  congrArg State.refreshOutputs (if_pos h)

theorem deriveVehicle_of_leftOn (h : (s.changesOf after).becameOn = false)
    (h' : (s.changesOf after).leftOn = true) :
    s.deriveVehicle after = (s.vehicleTaken after).ignitionLeftOn.refreshOutputs :=
  congrArg State.refreshOutputs ((if_neg (Bool.eq_false_iff.1 h)).trans (if_pos h'))

theorem deriveVehicle_of_sameIgnition (h : (s.changesOf after).becameOn = false)
    (h' : (s.changesOf after).leftOn = false) : s.deriveVehicle after = (s.vehicleTaken after).refreshOutputs :=
  congrArg State.refreshOutputs ((if_neg (Bool.eq_false_iff.1 h)).trans (if_neg (Bool.eq_false_iff.1 h')))

theorem changesOf_becameOn_iff :
    (s.changesOf after).becameOn = true ↔ s.vehicle.ignition ≠ .on ∧ after.ignition = .on := by
  simp [State.changesOf, vehicleChange, Vehicle.effIgnition]

theorem changesOf_leftOn_iff :
    (s.changesOf after).leftOn = true ↔ s.vehicle.ignition = .on ∧ after.ignition ≠ .on := by
  simp [State.changesOf, vehicleChange, Vehicle.effIgnition]

theorem changesOf_tripEnded_iff :
    (s.changesOf after).tripEnded = true
      ↔ s.vehicle.trip = true ∧ s.vehicle.ignition ≠ .off ∧ after.ignition = .off := by
  simp [State.changesOf, vehicleChange, Vehicle.effIgnition, and_comm]

theorem deriveVehicle_vehicle :
    (s.deriveVehicle after).vehicle = { after with trip := (s.changesOf after).tripAfter after.trip } := by
  simp [State.deriveVehicle, State.changesOf]

/-- R178: the trip flag goes up as the ignition becomes ON, and down as a trip ends. -/
theorem tripAfter_eq (h : after.trip = s.vehicle.trip) :
    (s.changesOf after).tripAfter after.trip
      = if (s.changesOf after).becameOn then true else if (s.changesOf after).tripEnded then false
        else s.vehicle.trip := by
  have hbegan : (s.changesOf after).tripBegan = ((s.changesOf after).becameOn && !s.vehicle.trip) := rfl
  have hended : (s.changesOf after).becameOn = true → (s.changesOf after).tripEnded = false := fun hon => by
    refine Bool.eq_false_iff.2 fun he => ?_
    have hoff := (changesOf_tripEnded_iff.1 he).2.2
    exact absurd ((changesOf_becameOn_iff.1 hon).2.symm.trans hoff) (by decide)
  rw [VehicleChange.tripAfter, hbegan, h]
  cases hon : (s.changesOf after).becameOn with
  | false => simp
  | true => cases htrip : s.vehicle.trip <;> simp [hended hon]

/-- R178: the class at every position stands. -/
theorem State.TakesVehicleData.cls {s t : State} (h : s.TakesVehicleData t) (p : Pos) :
    (t.table.seats.get p).cls = (s.table.seats.get p).cls := by
  obtain ⟨-, hseats⟩ := h
  obtain ⟨alert, hseat⟩ := hseats p
  rw [hseat, seat_vehicleEvents_eq]

end VehicleTaken

/-! ### Vehicle data lost (R176, R177) -/

section VehicleLost

variable {s : State}

/-- R176: the record once its age has reached 2000 ms. -/
def Vehicle.lost (v : Vehicle) : Vehicle := { v with fresh := false, ageMs := 2000 }

theorem vehicleDataLost_eq (hp : s.powered = true) (hf : s.vehicle.fresh = true) (hm : s.modeCtl.mode ≠ .standby) :
    exec .vehicleDataLost s = .next (if 2000 ≤ s.vehicle.ageMs then s.deriveVehicle s.vehicle.lost else s) := by
  have hguard : (s.powered && s.vehicle.fresh && s.modeCtl.mode != .standby && vehicleLostMs ≤ s.vehicle.ageMs) = true
      ↔ 2000 ≤ s.vehicle.ageMs := by
    rw [hp, hf, bne_iff_ne.2 hm, Bool.true_and, Bool.true_and, Bool.true_and]
    exact decide_eq_true_iff
  show execVehicleDataLost s = _
  rw [execVehicleDataLost, onlyIf_next]
  simp only [hguard]
  rfl

/-- R177: a loss leaves the ignition and so the trip. -/
theorem changesOf_lost (s : State) :
    (s.changesOf s.vehicle.lost).becameOn = false ∧ (s.changesOf s.vehicle.lost).leftOn = false
      ∧ (s.changesOf s.vehicle.lost).tripEnded = false := by
  refine ⟨Bool.eq_false_iff.2 fun h => ?_, Bool.eq_false_iff.2 fun h => ?_, Bool.eq_false_iff.2 fun h => ?_⟩
  · obtain ⟨hbefore, hafter⟩ := changesOf_becameOn_iff.1 h
    exact hbefore hafter
  · obtain ⟨hbefore, hafter⟩ := changesOf_leftOn_iff.1 h
    exact hafter hbefore
  · obtain ⟨-, hbefore, hafter⟩ := changesOf_tripEnded_iff.1 h
    exact hbefore hafter

theorem deriveVehicle_lost_vehicle (s : State) : (s.deriveVehicle s.vehicle.lost).vehicle = s.vehicle.lost := by
  obtain ⟨hon, -, hended⟩ := changesOf_lost s
  rw [deriveVehicle_vehicle, tripAfter_eq (after := s.vehicle.lost) rfl, hon, hended]
  rfl

/-- R177: a loss is taken by the record, the ladders and the outputs, and by nothing else. -/
theorem deriveVehicle_lost_eq (s : State) :
    s.deriveVehicle s.vehicle.lost = { s with
      vehicle := (s.deriveVehicle s.vehicle.lost).vehicle, table := (s.deriveVehicle s.vehicle.lost).table
      lamps := (s.deriveVehicle s.vehicle.lost).lamps, duty := (s.deriveVehicle s.vehicle.lost).duty } := by
  obtain ⟨hon, hleft, hended⟩ := changesOf_lost s
  rw [deriveVehicle_of_sameIgnition hon hleft, State.vehicleTaken, hended]
  rfl

end VehicleLost

/-- Settles O43: below the age and at it; the ladders aside, only the record's freshness has moved. -/
theorem vehicleDataIsLost : Obligations.VehicleDataIsLost := by
  intro s hp hf hm
  rw [vehicleDataLost_eq hp hf hm]
  refine ⟨fun hbelow => congrArg _ (if_neg (Nat.not_le.2 hbelow)), fun hend => ⟨s.deriveVehicle s.vehicle.lost,
    congrArg _ (if_pos hend), deriveVehicle_lost_vehicle s, fun hon => ?_, fun hnot => ?_, deriveVehicle_lost_eq s,
    (deriveVehicle_takesVehicleData s _).cls⟩⟩
  · rw [State.effSpeed, deriveVehicle_lost_vehicle, (deriveVehicle_takesVehicleData s _).1, lostFlag_iff]
    exact ⟨if_pos hon, rfl, hon⟩
  · rw [State.effSpeed, deriveVehicle_lost_vehicle, (deriveVehicle_takesVehicleData s _).1, ← Bool.not_eq_true,
      lostFlag_iff]
    exact ⟨if_neg hnot, fun ⟨_, hon⟩ => hnot hon⟩

end Sys2Proof.Machine

namespace Sys2Proof.Machine

/-! ### Alerts that an acknowledgement ends (R193) -/

section Acknowledged

variable {s t : State}

/-- The alert of the record at p. -/
def State.alertAt (s : State) (p : Pos) : Option Alert := (s.recordAt p).map Record.alert

/-- R193: the alert once an acknowledgement, where there is one, has ended it. -/
def Alert.acknowledgedIf (set : Bool) (a : Alert) : Alert := if set && a.isActive then .acknowledged else a

/-- R193: x is an ALERT of a record whose alert is ACTIVE. -/
def State.alertFrame (s : State) (x : TxEntry) : Bool :=
  positionsInOrder.any fun p => s.endsAlertFor (fun _ => true) p x

theorem alertFrame_iff (s : State) (x : TxEntry) :
    s.alertFrame x = true
      ↔ ∃ p r, s.recordAt p = some r ∧ r.alert.isActive = true ∧ x.alertsFor p = true := by
  simp only [State.alertFrame, any_endsAlertFor_iff, Bool.and_true]

theorem alertFrame_iff_alertAt (s : State) (x : TxEntry) :
    s.alertFrame x = true ↔ ∃ p a, s.alertAt p = some a ∧ a.isActive = true ∧ x.alertsFor p = true := by
  simp [alertFrame_iff, State.alertAt]

theorem alertFrame_eq_of_alertAt (h : ∀ p, t.alertAt p = s.alertAt p) : t.alertFrame = s.alertFrame := by
  funext x
  rw [Bool.eq_iff_iff, alertFrame_iff_alertAt, alertFrame_iff_alertAt]
  simp only [h]

theorem acknowledgedIf_acknowledgedIf (first second : Bool) (a : Alert) :
    (a.acknowledgedIf first).acknowledgedIf second = a.acknowledgedIf (second || first) := by
  cases first <;> cases second <;> cases a <;> rfl

theorem alertAt_of_table (h : t.table = s.table) (p : Pos) : t.alertAt p = s.alertAt p := by
  rw [State.alertAt, State.recordAt, h]
  rfl

/-- R193: an acknowledgement ends every ACTIVE alert, its waiting ALERTs withdrawn. -/
theorem acknowledgeAlerts_eq (s : State) :
    s.acknowledgeAlerts = s.alertsEnded (fun _ => true) .acknowledged positionsInOrder := by
  rw [← foldl_endAlert s _ _ (by decide)]
  refine congrArg (fun step => positionsInOrder.foldl step s) (funext fun t => funext fun p => ?_)
  cases hr : t.recordAt p with
  | none => simp [State.endAlert, hr]
  | some r => rfl

theorem alertEnded_alert (r : Record) :
    (r.alertEnded (fun _ => true) .acknowledged).alert = r.alert.acknowledgedIf true := by
  cases h : r.alert.isActive <;> simp [Record.alertEnded, Alert.acknowledgedIf, h]

theorem acknowledgeAlerts_alertAt (s : State) (p : Pos) :
    s.acknowledgeAlerts.alertAt p = (s.alertAt p).map (Alert.acknowledgedIf true) := by
  rw [State.alertAt, acknowledgeAlerts_eq, State.recordAt, alertsEnded_seats_get, if_pos (mem_positionsInOrder p),
    Seat.alertEnded, State.alertAt, Option.map_map, Option.map_map]
  exact congrArg (Option.map · _) (funext alertEnded_alert)

theorem acknowledgeAlerts_link (s : State) : s.acknowledgeAlerts.link = s.link.without s.alertFrame := by
  rw [acknowledgeAlerts_eq]
  rfl

theorem acknowledgeAlerts_table (s : State) :
    s.acknowledgeAlerts.table = { s.table with seats := s.acknowledgeAlerts.table.seats } := by
  rw [acknowledgeAlerts_eq]
  rfl

/-- R193: once acknowledged, no alert has an ALERT to withdraw. -/
theorem alertFrame_of_acknowledged (h : ∀ p, t.alertAt p = (s.alertAt p).map (Alert.acknowledgedIf true)) :
    t.alertFrame = fun _ => false := by
  funext x
  rw [Bool.eq_false_iff, Ne, alertFrame_iff_alertAt]
  rintro ⟨p, a, ha, hactive, -⟩
  rw [h] at ha
  obtain ⟨b, -, rfl⟩ := Option.map_eq_some_iff.1 ha
  cases b <;> cases hactive

variable (s) (set : Bool)

theorem acknowledge_alertAt (p : Pos) :
    (s.acknowledge set).alertAt p = (s.alertAt p).map (Alert.acknowledgedIf set) := by
  cases set with
  | false => exact Option.map_id'.symm
  | true => exact acknowledgeAlerts_alertAt s p

theorem acknowledge_link : (s.acknowledge set).link = s.link.without fun x => set && s.alertFrame x := by
  cases set with
  | false => exact (without_false _).symm
  | true => exact acknowledgeAlerts_link s

theorem acknowledge_table :
    (s.acknowledge set).table = { s.table with seats := (s.acknowledge set).table.seats } := by
  cases set with
  | false => rfl
  | true => exact acknowledgeAlerts_table s

end Acknowledged

/-! ### A door report (R113, R182, R184) -/

section DoorReport

variable (s : State)

/-- R182, R184: restarting the idle timer tests the reasons where it runs. -/
theorem restartIdle_eq :
    s.restartIdle = if s.modeCtl.idle.isRunning then (s.idleMoved true).testReasons else s.idleMoved true := by
  have h := idleStep_eq s true
  rwa [Bool.true_and] at h

/-- R113, R182: the state once a door report has cleared the Departure List and restarted the idle timer. -/
def State.doorMoved (s : State) (isOpen : Bool) : State :=
  (s.setDepartures (if isOpen then [] else s.departures)).idleMoved isOpen

/-- R184: a door report makes the station refuse an open window, which it has not done yet. -/
def State.DoorRefuses (s : State) (isOpen : Bool) : Prop :=
  isOpen = true ∧ s.modeCtl.idle ≠ .stopped ∧ ∃ w, s.modeCtl.window = some w ∧ w.refusedHere = false

/-- R184: the first reason that holds where RECENT_ACTIVITY does. -/
def State.recentReason (s : State) : Reason :=
  if s.modeCtl.mode = .service then .service else if s.table.anyAlert then .alertActive
  else if s.sfe.latch = some .opened then .latchOpen else .recentActivity

variable {s}

theorem refusalReason_of_recent (h : s.recentActivity = true) : s.refusalReason = some s.recentReason := by
  unfold State.refusalReason State.recentReason
  rw [if_pos h]
  repeat' split
  all_goals rfl

/-- R184: an idle timer that has just restarted is RECENT_ACTIVITY. -/
theorem doorMoved_reason (h : s.modeCtl.idle ≠ .stopped) : (s.doorMoved true).refusalReason = some s.recentReason := by
  refine refusalReason_of_recent (s := s.doorMoved true) ((recentActivity_iff _).2 (.inl ⟨0, ?_, by decide⟩))
  cases hi : s.modeCtl.idle with
  | stopped => exact absurd hi h
  | running ms => exact congrArg Timer.restart hi

theorem doorReport_of_refusal {w : Window} (hi : s.modeCtl.idle ≠ .stopped) (hw : s.modeCtl.window = some w)
    (hmark : w.refusedHere = false) : s.doorReport true = (s.doorMoved true).placeRefusal w s.recentReason := by
  have hrestarts : s.doorReport true = (s.setDepartures []).restartIdle := rfl
  rw [hrestarts, restartIdle_eq, if_pos (by exact (timer_isRunning_iff _).2 hi)]
  exact testReasons_of_reason (s.doorMoved true) hw hmark (doorMoved_reason hi)

theorem doorReport_of_noRefusal {isOpen : Bool} (h : ¬ s.DoorRefuses isOpen) :
    s.doorReport isOpen = s.doorMoved isOpen := by
  cases isOpen with
  | false => rfl
  | true =>
    have hrestarts : s.doorReport true = (s.setDepartures []).restartIdle := rfl
    rw [hrestarts, restartIdle_eq]
    split
    · next hruns =>
      cases hw : s.modeCtl.window with
      | none => exact testReasons_of_noWindow (s.doorMoved true) hw
      | some w =>
        refine testReasons_of_refused (s.doorMoved true) hw (Bool.not_eq_false _ ▸ fun hmark => h ?_)
        exact ⟨rfl, (timer_isRunning_iff _).1 hruns, w, hw, hmark⟩
    · rfl

variable (s) (isOpen : Bool)

/-- R182, R184: a door report moves list and idle timer, and then places one SLEEP_REFUSE at most. -/
theorem doorReport_cases :
    s.doorReport isOpen = s.doorMoved isOpen
      ∨ ∃ w, s.doorReport isOpen = (s.doorMoved isOpen).placeRefusal w s.recentReason := by
  by_cases h : s.DoorRefuses isOpen
  · obtain ⟨rfl, hi, w, hw, hmark⟩ := h
    exact .inr ⟨w, doorReport_of_refusal hi hw hmark⟩
  · exact .inl (doorReport_of_noRefusal h)

theorem doorReport_departures : (s.doorReport isOpen).departures = if isOpen then [] else s.departures := by
  obtain h | ⟨w, h⟩ := doorReport_cases s isOpen <;> rw [h] <;> rfl

/-- R182: of the mode controller a door report moves the idle timer and the window. -/
theorem doorReport_modeCtl :
    (s.doorReport isOpen).modeCtl = { s.modeCtl with
      idle := if isOpen then s.modeCtl.idle.restart else s.modeCtl.idle
      window := (s.doorReport isOpen).modeCtl.window } := by
  by_cases h : s.DoorRefuses isOpen
  · obtain ⟨rfl, hi, w, hw, hmark⟩ := h
    obtain ⟨hmode, -⟩ := placeRefusal_writes (s.doorMoved true) w s.recentReason
    have hidle : (s.doorMoved true).modeCtl.idle.restart = s.modeCtl.idle.restart := restart_restart s.modeCtl.idle
    rw [doorReport_of_refusal hi hw hmark, hmode, hidle]
    rfl
  · rw [doorReport_of_noRefusal h]
    rfl

end DoorReport

/-! ### Vehicle data taken by the mode controller (R182 to R193) -/

section VehicleMode

variable {s : State} {after : Vehicle}

theorem vehicleEvents_alert (env : LadderEnv) (ch : VehicleChange) (belt : BeltState) (r : Record) :
    (r.vehicleEvents env ch belt).alert = r.alert := by
  obtain ⟨_, _, _, _, _, _, hmoved⟩ := moved_trans (ignitionEvent_moved env ch belt r) (speedEvent_moved env ch _)
  unfold Record.vehicleEvents Record.tripEvent
  rw [hmoved]
  split <;> rfl

/-- R178: the ladders leave the alerts. -/
theorem vehicleTaken_alertAt (s : State) (after : Vehicle) (p : Pos) :
    (s.vehicleTaken after).alertAt p = s.alertAt p := by
  simp only [State.alertAt, State.recordAt, State.vehicleTaken, State.laddersTaken, State.mapSeats, setDepartures_table,
    setTable_table, Four.get_ofFn, seat_vehicleEvents_eq, Option.map_map]
  exact congrArg (Option.map · _) (funext fun r => vehicleEvents_alert _ _ _ r)

/-- R193, R183: as the ignition becomes ON the ALERTs of ACTIVE alerts and the own proposals are withdrawn. -/
def State.ignitionWithdraws (s : State) (x : TxEntry) : Bool := s.alertFrame x || x.kind == .sleepPropose

/-- The state once the ignition has become ON, but for the end of WATCH. -/
def State.ignitionSeen (s : State) : State :=
  { s with
    table := s.acknowledgeAlerts.table
    link := s.link.without s.ignitionWithdraws
    modeCtl := { s.modeCtl with idle := .stopped, window := none, alone := .stopped, leftBehindMs := 0 } }

theorem ignitionBecameOn_eq (s : State) :
    s.ignitionBecameOn = if s.modeCtl.mode = .watch then s.ignitionSeen.leaveWatch else s.ignitionSeen := by
  have hlink : s.acknowledgeAlerts.withdrawProposals.link = s.link.without s.ignitionWithdraws :=
    (congrArg (Link.without · fun x => x.kind == .sleepPropose) (acknowledgeAlerts_link s)).trans
      (without_without _ _ _)
  have hseen : s.acknowledgeAlerts.withdrawProposals.setModeCtl
      { s.modeCtl with idle := .stopped, window := none, alone := .stopped, leftBehindMs := 0 } = s.ignitionSeen := by
    rw [State.ignitionSeen, ← hlink, acknowledgeAlerts_eq]
    rfl
  have hmode : s.acknowledgeAlerts.withdrawProposals.modeCtl = s.modeCtl := by simp
  rw [State.ignitionBecameOn, hmode]
  dsimp only
  rw [hseen]
  rfl

/-- R182, R183, R185, R190, R191: what the mode controller does as the ignition becomes ON. -/
theorem ignitionBecameOn_writes {s : State} (hon : s.ignitionOn = true) :
    s.ignitionBecameOn.modeCtl = { s.modeCtl with
        mode := if s.modeCtl.mode = .watch then .active else s.modeCtl.mode
        idle := .stopped, window := none, alone := .stopped, leftBehindMs := 0
        watch := if s.modeCtl.mode = .watch then .stopped else s.modeCtl.watch
        vacantRun := if s.modeCtl.mode = .watch then 0 else s.modeCtl.vacantRun }
      ∧ (s.modeCtl.mode = .watch → s.ignitionBecameOn.sweep = { s.sweep with period := .running 0 }
        ∧ s.ignitionBecameOn.emission = { s.emission with lastPlaced := none, timer := .running 0 })
      ∧ (s.modeCtl.mode ≠ .watch →
        s.ignitionBecameOn.sweep = s.sweep ∧ s.ignitionBecameOn.emission = s.emission) := by
  have hon' : s.ignitionSeen.ignitionOn = true := hon
  obtain ⟨hmode, hsweep, hemission⟩ := leaveWatch_writes s.ignitionSeen
  rw [hon'] at hmode
  rw [ignitionBecameOn_eq]
  by_cases hw : s.modeCtl.mode = .watch
  · simp only [if_pos hw]
    exact ⟨hmode, fun _ => ⟨hsweep, hemission⟩, fun h => absurd hw h⟩
  · simp only [if_neg hw]
    exact ⟨rfl, fun h => absurd h hw, fun _ => ⟨rfl, rfl⟩⟩

theorem ignitionBecameOn_link_table (s : State) :
    s.ignitionBecameOn.link = s.link.without s.ignitionWithdraws
      ∧ s.ignitionBecameOn.table = s.acknowledgeAlerts.table := by
  rw [ignitionBecameOn_eq]
  split <;> simp [State.ignitionSeen]

/-- R182, R187: the mode controller once the ignition has, or has not, left ON. -/
def State.modeAfter (s : State) (after : Vehicle) : ModeCtl :=
  if (s.changesOf after).leftOn = true ∧ s.modeCtl.mode = .active then
    { s.modeCtl with idle := .running 0, alone := .running 0 }
  else s.modeCtl

theorem ignitionLeftOn_modeCtl (s : State) :
    s.ignitionLeftOn.modeCtl = if s.modeCtl.mode = .active then
      { s.modeCtl with idle := .running 0, alone := .running 0 } else s.modeCtl := by
  unfold State.ignitionLeftOn
  split <;> rfl

/-- R178: without an ignition that becomes ON, new vehicle data move of these blocks the two timers alone. -/
theorem deriveVehicle_of_notOn (h : (s.changesOf after).becameOn = false) :
    (s.deriveVehicle after).modeCtl = s.modeAfter after ∧ (s.deriveVehicle after).link = s.link
      ∧ (s.deriveVehicle after).sweep = s.sweep ∧ (s.deriveVehicle after).emission = s.emission
      ∧ (s.deriveVehicle after).table = (s.vehicleTaken after).table := by
  cases hleft : (s.changesOf after).leftOn with
  | false =>
    simp only [deriveVehicle_of_sameIgnition h hleft, State.modeAfter, hleft, refreshOutputs_keeps]
    exact ⟨rfl, rfl, rfl, rfl, trivial⟩
  | true =>
    simp only [deriveVehicle_of_leftOn h hleft, State.modeAfter, hleft, refreshOutputs_keeps, ignitionLeftOn_keeps,
      ignitionLeftOn_modeCtl, true_and]
    exact ⟨rfl, rfl, rfl, rfl, trivial⟩

/-- R178: what new vehicle data leave as the ignition becomes ON. -/
theorem deriveVehicle_becomingOn (h : (s.changesOf after).becameOn = true) :
    (s.deriveVehicle after).modeCtl = { s.modeCtl with
        mode := if s.modeCtl.mode = .watch then .active else s.modeCtl.mode
        idle := .stopped, window := none, alone := .stopped, leftBehindMs := 0
        watch := if s.modeCtl.mode = .watch then .stopped else s.modeCtl.watch
        vacantRun := if s.modeCtl.mode = .watch then 0 else s.modeCtl.vacantRun }
      ∧ (s.modeCtl.mode = .watch → (s.deriveVehicle after).sweep = { s.sweep with period := .running 0 }
        ∧ (s.deriveVehicle after).emission = { s.emission with lastPlaced := none, timer := .running 0 })
      ∧ (s.modeCtl.mode ≠ .watch →
        (s.deriveVehicle after).sweep = s.sweep ∧ (s.deriveVehicle after).emission = s.emission)
      ∧ (s.deriveVehicle after).link = s.link.without s.ignitionWithdraws
      ∧ (s.deriveVehicle after).table = (s.vehicleTaken after).acknowledgeAlerts.table := by
  have hon : (s.vehicleTaken after).ignitionOn = true := beq_iff_eq.2 (changesOf_becameOn_iff.1 h).2
  obtain ⟨hmode, hwatch, hother⟩ := ignitionBecameOn_writes hon
  obtain ⟨hlink, htable⟩ := ignitionBecameOn_link_table (s.vehicleTaken after)
  have hgone : (s.vehicleTaken after).ignitionWithdraws = s.ignitionWithdraws := by
    funext x
    rw [State.ignitionWithdraws, alertFrame_eq_of_alertAt (vehicleTaken_alertAt s after)]
    rfl
  rw [hgone] at hlink
  simp only [deriveVehicle_of_becameOn h, refreshOutputs_keeps]
  exact ⟨hmode, hwatch, hother, hlink, htable⟩

/-- R193: as the ignition becomes ON, every ACTIVE alert is acknowledged. -/
theorem deriveVehicle_alertAt (s : State) (after : Vehicle) (p : Pos) :
    (s.deriveVehicle after).alertAt p
      = (s.alertAt p).map (Alert.acknowledgedIf (s.changesOf after).becameOn) := by
  cases h : (s.changesOf after).becameOn with
  | false =>
    obtain ⟨-, -, -, -, htable⟩ := deriveVehicle_of_notOn h
    rw [alertAt_of_table htable, vehicleTaken_alertAt]
    exact Option.map_id'.symm
  | true =>
    obtain ⟨-, -, -, -, htable⟩ := deriveVehicle_becomingOn h
    rw [alertAt_of_table htable, acknowledgeAlerts_alertAt, vehicleTaken_alertAt]

/-- R178: of the position table only the seats take new vehicle data. -/
theorem deriveVehicle_table (s : State) (after : Vehicle) :
    (s.deriveVehicle after).table = { s.table with seats := (s.deriveVehicle after).table.seats } := by
  cases h : (s.changesOf after).becameOn with
  | false =>
    obtain ⟨-, -, -, -, htable⟩ := deriveVehicle_of_notOn h
    rw [htable]
    rfl
  | true =>
    obtain ⟨-, -, -, -, htable⟩ := deriveVehicle_becomingOn h
    rw [htable, acknowledgeAlerts_table]
    rfl

end VehicleMode
end Sys2Proof.Machine

namespace Sys2Proof.Machine

/-! ### A VEHICLE frame of station 13 (R175, R178) -/

section VehicleFrame

/-- R175: the fields a VEHICLE payload gives. -/
theorem take_vehicleOfPayload (v : Vehicle) (payload : List Byte) :
    ((byteAt payload 0).toNat / 64 = 0 → (v.take (vehicleOfPayload payload)).ignition = .off)
      ∧ ((byteAt payload 0).toNat / 64 = 1 → (v.take (vehicleOfPayload payload)).ignition = .acc)
      ∧ ((byteAt payload 0).toNat / 64 = 2 → (v.take (vehicleOfPayload payload)).ignition = .on)
      ∧ ((byteAt payload 0).toNat / 64 = 3 → (v.take (vehicleOfPayload payload)).ignition = v.ignition)
      ∧ ((byteAt payload 1).toNat ≤ 250 → (v.take (vehicleOfPayload payload)).speed = (byteAt payload 1).toNat)
      ∧ (250 < (byteAt payload 1).toNat → (v.take (vehicleOfPayload payload)).speed = v.speed) := by
  refine ⟨fun h => ?_, fun h => ?_, fun h => ?_, fun h => ?_, fun h => ?_, fun h => ?_⟩
  · simp [Vehicle.take, vehicleOfPayload, h]
  · simp [Vehicle.take, vehicleOfPayload, h]
  · simp [Vehicle.take, vehicleOfPayload, h]
  · simp [Vehicle.take, vehicleOfPayload, h]
  · simp [Vehicle.take, vehicleOfPayload, h]
  · simp [Vehicle.take, vehicleOfPayload, Nat.not_le.2 h]

variable (s : State) (f : VehicleFrame)

/-- R178: the changes that the frame makes. -/
def State.frameChanges (s : State) (f : VehicleFrame) : VehicleChange := s.changesOf (s.vehicle.take f)

/-- R178: the state once the frame's values have been taken, before its door report and its acknowledgement. -/
def State.frameDerived (s : State) (f : VehicleFrame) : State := s.deriveVehicle (s.vehicle.take f)

theorem takeVehicle_eq :
    s.takeVehicle f = ((s.frameDerived f).doorReport f.doorOpen).acknowledge f.acknowledge := rfl

theorem frameDerived_keeps :
    (s.frameDerived f).straps = s.straps ∧ (s.frameDerived f).sfe = s.sfe ∧ (s.frameDerived f).diag = s.diag := by
  simp [State.frameDerived]

theorem takeVehicle_vehicle :
    (s.takeVehicle f).vehicle = { s.vehicle.take f with
      trip := if (s.frameChanges f).becameOn then true else if (s.frameChanges f).tripEnded then false
        else s.vehicle.trip } := by
  have htrip : (s.frameChanges f).tripAfter (s.vehicle.take f).trip = _ := tripAfter_eq (after := s.vehicle.take f) rfl
  simp only [takeVehicle_eq, acknowledge_keeps, doorReport_keeps, State.frameDerived, deriveVehicle_vehicle]
  exact congrArg (fun trip => { s.vehicle.take f with trip }) htrip

/-- R113: a door report and a trip end clear the Departure List. -/
theorem takeVehicle_departures :
    (s.takeVehicle f).departures = if f.doorOpen || (s.frameChanges f).tripEnded then [] else s.departures := by
  have hderived : (s.frameDerived f).departures = if (s.frameChanges f).tripEnded then [] else s.departures := by
    simp only [State.frameDerived, State.deriveVehicle, refreshOutputs_keeps, takeVehicleChange_departures]
    rfl
  simp only [takeVehicle_eq, acknowledge_keeps, doorReport_departures, hderived]
  cases f.doorOpen <;> rfl

theorem doorReport_frameDerived_alertAt (p : Pos) :
    ((s.frameDerived f).doorReport f.doorOpen).alertAt p = (s.frameDerived f).alertAt p :=
  alertAt_of_table (by simp) p

/-- R193: an acknowledgement, and an ignition that becomes ON, acknowledge every ACTIVE alert. -/
theorem takeVehicle_alertAt (p : Pos) :
    (s.takeVehicle f).alertAt p
      = (s.alertAt p).map (Alert.acknowledgedIf (f.acknowledge || (s.frameChanges f).becameOn)) := by
  rw [takeVehicle_eq, acknowledge_alertAt, doorReport_frameDerived_alertAt, State.frameDerived, deriveVehicle_alertAt,
    Option.map_map]
  exact congrArg (Option.map · _) (funext fun a => acknowledgedIf_acknowledgedIf _ _ a)

/-- R178: the blocks that a VEHICLE frame may write, and of the position table the seats. -/
theorem takeVehicle_frame {t : State} (ht : t = s.takeVehicle f) :
    t = { s with
      vehicle := t.vehicle, table := { s.table with seats := t.table.seats }, lamps := t.lamps
      departures := t.departures, duty := t.duty, link := t.link, modeCtl := t.modeCtl, sweep := t.sweep
      emission := t.emission, diag := t.diag } := by
  have hrest : t.table = { s.table with seats := t.table.seats } := by
    rw [ht, takeVehicle_eq, acknowledge_table]
    simp only [doorReport_keeps]
    rw [State.frameDerived, deriveVehicle_table]
  obtain ⟨hpending, hpowered, hfree, hstraps, hconfig, hsfe, hclasses⟩ := takeVehicle_keeps s f
  rw [← ht] at hpending hpowered hfree hstraps hconfig hsfe hclasses
  rw [← hrest, ← hpending, ← hpowered, ← hfree, ← hstraps, ← hconfig, ← hsfe, ← hclasses]

/-- R87: with the ignition gone from ON every level is QUIET. -/
theorem takeVehicle_quiet (h : (s.frameChanges f).leftOn = true) {p : Pos} {r : Record}
    (hr : (s.takeVehicle f).recordAt p = some r) : r.level = .quiet ∧ r.chimeTimer = .stopped := by
  obtain ⟨hbefore, hafter⟩ := changesOf_leftOn_iff.1 h
  have hafter' : (s.takeVehicle f).vehicle.ignition ≠ .on := by rwa [takeVehicle_vehicle]
  obtain ⟨-, alert, hrecord⟩ := (takeVehicle_takesVehicleData s f).seatAt p
  rw [hrecord] at hr
  obtain ⟨r₀, -, rfl⟩ := Option.map_eq_some_iff.1 hr
  by_cases htrip : s.vehicle.trip = true ∧ s.vehicle.ignition ≠ .off ∧ (s.takeVehicle f).vehicle.ignition = .off
  · rw [ladderTo_of_tripEnded htrip]
    exact ⟨rfl, rfl⟩
  · rw [ladderTo_of_leftOn hbefore hafter' htrip]
    exact ⟨rfl, rfl⟩

/-- R183, R193: what a VEHICLE frame withdraws of the transmit queue. -/
def State.frameWithdraws (s : State) (f : VehicleFrame) (x : TxEntry) : Bool :=
  (s.frameChanges f).becameOn && x.kind == .sleepPropose
    || (f.acknowledge || (s.frameChanges f).becameOn) && s.alertFrame x

variable {s f} in
theorem frameDerived_alertAt_of_notOn (h : (s.frameChanges f).becameOn = false) (p : Pos) :
    (s.frameDerived f).alertAt p = s.alertAt p := by
  rw [State.frameDerived, deriveVehicle_alertAt, show (s.changesOf _).becameOn = false from h]
  exact Option.map_id'

variable {s f} in
theorem frameWithdraws_of_notOn (h : (s.frameChanges f).becameOn = false) :
    (fun x => f.acknowledge && (s.frameDerived f).alertFrame x) = s.frameWithdraws f := by
  rw [alertFrame_eq_of_alertAt (frameDerived_alertAt_of_notOn h)]
  funext x
  simp [State.frameWithdraws, h]

/-- R184: with no SLEEP_REFUSE offered, a VEHICLE frame only withdraws from the transmit queue. -/
theorem frameDerived_withdrawn :
    ((s.frameDerived f).link.without fun x => f.acknowledge && (s.frameDerived f).alertFrame x)
      = s.link.without (s.frameWithdraws f) := by
  cases hon : (s.frameChanges f).becameOn with
  | false =>
    obtain ⟨-, hlink, -⟩ := deriveVehicle_of_notOn hon
    rw [frameWithdraws_of_notOn hon]
    exact congrArg (Link.without · _) hlink
  | true =>
    obtain ⟨-, -, -, hlink, -⟩ := deriveVehicle_becomingOn hon
    have halert : (s.frameDerived f).alertFrame = fun _ => false :=
      alertFrame_of_acknowledged (s := s) fun p => by
        rw [State.frameDerived, deriveVehicle_alertAt, show (s.changesOf _).becameOn = true from hon]
    have hgone : s.frameWithdraws f = s.ignitionWithdraws := by
      funext x
      simp [State.frameWithdraws, State.ignitionWithdraws, hon, Bool.or_comm]
    simp only [halert, hgone, Bool.and_false, without_false]
    exact hlink

theorem doorReport_alertFrame :
    ((s.frameDerived f).doorReport f.doorOpen).alertFrame = (s.frameDerived f).alertFrame :=
  alertFrame_eq_of_alertAt (doorReport_frameDerived_alertAt s f)

variable {s f}

theorem takeVehicle_of_noRefusal (h : ¬ (s.frameDerived f).DoorRefuses f.doorOpen) :
    (s.takeVehicle f).link = s.link.without (s.frameWithdraws f) ∧ (s.takeVehicle f).diag = s.diag
      ∧ (s.takeVehicle f).modeCtl.window = (s.frameDerived f).modeCtl.window := by
  have hdoor := doorReport_of_noRefusal h
  obtain ⟨-, -, hdiag⟩ := frameDerived_keeps s f
  simp only [takeVehicle_eq, acknowledge_keeps, acknowledge_link, doorReport_alertFrame]
  rw [hdoor]
  exact ⟨frameDerived_withdrawn s f, hdiag, rfl⟩

/-- R182, R183, R185, R190, R191: an ignition that becomes ON leaves nothing to refuse. -/
theorem not_doorRefuses_of_becameOn (h : (s.frameChanges f).becameOn = true) :
    ¬ (s.frameDerived f).DoorRefuses f.doorOpen := by
  obtain ⟨hmode, -⟩ := deriveVehicle_becomingOn h
  rintro ⟨-, hidle, -⟩
  exact hidle (congrArg ModeCtl.idle hmode)

theorem takeVehicle_becomingOn (h : (s.frameChanges f).becameOn = true) :
    (s.takeVehicle f).modeCtl = { s.modeCtl with
        mode := if s.modeCtl.mode = .watch then .active else s.modeCtl.mode
        idle := .stopped, window := none, alone := .stopped, leftBehindMs := 0
        watch := if s.modeCtl.mode = .watch then .stopped else s.modeCtl.watch
        vacantRun := if s.modeCtl.mode = .watch then 0 else s.modeCtl.vacantRun }
      ∧ (s.modeCtl.mode = .watch → (s.takeVehicle f).sweep = { s.sweep with period := .running 0 }
        ∧ (s.takeVehicle f).emission = { s.emission with lastPlaced := none, timer := .running 0 })
      ∧ (s.modeCtl.mode ≠ .watch →
        (s.takeVehicle f).sweep = s.sweep ∧ (s.takeVehicle f).emission = s.emission) := by
  obtain ⟨hmode, hwatch, hother, -, -⟩ := deriveVehicle_becomingOn h
  replace hmode : (s.frameDerived f).modeCtl = _ := hmode
  have hdoor : ((s.frameDerived f).doorMoved f.doorOpen).modeCtl = (s.frameDerived f).modeCtl := by
    have hmoved : ((s.frameDerived f).doorMoved f.doorOpen).modeCtl = { (s.frameDerived f).modeCtl with
      idle := if f.doorOpen then (s.frameDerived f).modeCtl.idle.restart else (s.frameDerived f).modeCtl.idle } := rfl
    rw [hmoved, hmode]
    cases f.doorOpen <;> rfl
  have hreport := congrArg State.modeCtl (doorReport_of_noRefusal (not_doorRefuses_of_becameOn h))
  simp only [takeVehicle_eq, acknowledge_keeps, doorReport_keeps, hreport, hdoor]
  exact ⟨hmode, hwatch, hother⟩

/-- R182, R187: without it, idle timer, alone timer and window alone may move. -/
theorem takeVehicle_of_notOn (h : (s.frameChanges f).becameOn = false) :
    (s.takeVehicle f).modeCtl = { s.modeAfter (s.vehicle.take f) with
        idle := if f.doorOpen then (s.modeAfter (s.vehicle.take f)).idle.restart
          else (s.modeAfter (s.vehicle.take f)).idle
        window := (s.takeVehicle f).modeCtl.window }
      ∧ (s.takeVehicle f).sweep = s.sweep ∧ (s.takeVehicle f).emission = s.emission := by
  obtain ⟨hmode, -, hsweep, hemission, -⟩ := deriveVehicle_of_notOn h
  have hdoor := doorReport_modeCtl (s.frameDerived f) f.doorOpen
  rw [show (s.frameDerived f).modeCtl = _ from hmode] at hdoor
  simp only [takeVehicle_eq, acknowledge_keeps, doorReport_keeps]
  exact ⟨hdoor, hsweep, hemission⟩

theorem modeAfter_eq (after : Vehicle) :
    s.modeAfter after = { s.modeCtl with
      idle := (s.modeAfter after).idle, alone := (s.modeAfter after).alone } := by
  unfold State.modeAfter
  split <;> rfl

theorem frameDerived_modeCtl_of_notOn (h : (s.frameChanges f).becameOn = false) :
    (s.frameDerived f).modeCtl = s.modeAfter (s.vehicle.take f) := by
  obtain ⟨hmode, -⟩ := deriveVehicle_of_notOn h
  exact hmode

theorem frameDerived_window_of_notOn (h : (s.frameChanges f).becameOn = false) :
    (s.frameDerived f).modeCtl.window = s.modeCtl.window := by
  rw [frameDerived_modeCtl_of_notOn h, modeAfter_eq]

/-- R184: the frame's door report is refused an open window, said of the state before the frame and of the idle timer
after it. -/
def State.FrameRefuses (s : State) (f : VehicleFrame) : Prop :=
  ¬ (s.frameChanges f).becameOn = true ∧ f.doorOpen = true ∧ (s.takeVehicle f).modeCtl.idle ≠ .stopped
    ∧ ∃ w, s.modeCtl.window = some w ∧ w.refusedHere = false

theorem frameRefuses_iff : s.FrameRefuses f ↔ (s.frameDerived f).DoorRefuses f.doorOpen := by
  cases h : (s.frameChanges f).becameOn with
  | true => exact iff_of_false (fun hrefuses => hrefuses.1 h) (not_doorRefuses_of_becameOn h)
  | false =>
    obtain ⟨hafter, -⟩ := takeVehicle_of_notOn h
    rw [State.FrameRefuses, State.DoorRefuses, frameDerived_window_of_notOn h, frameDerived_modeCtl_of_notOn h, hafter]
    refine (and_iff_right (Bool.eq_false_iff.1 h)).trans (and_congr_right fun hopen => and_congr_left fun _ => ?_)
    rw [if_pos hopen]
    cases (s.modeAfter (s.vehicle.take f)).idle <;> simp [Timer.restart]

theorem anyAlert_eq_of_alertAt {s t : State} (h : ∀ p, t.alertAt p = s.alertAt p) :
    t.table.anyAlert = s.table.anyAlert := by
  have hany : ∀ u : State, u.table.anyAlert = true ↔ ∃ p a, u.alertAt p = some a ∧ a.isActive = true := fun u => by
    simp [Positions.anyAlert, Four.any_iff, Option.any_eq_true, State.alertAt, State.recordAt]
  rw [Bool.eq_iff_iff, hany, hany]
  simp only [h]

/-- R164, R167: what a frame offered leaves of the link goes by the link and the straps. -/
theorem offerTx_link_of_same {s t : State} (hlink : t.link = s.link) (hstraps : t.straps = s.straps) (e : TxEntry) :
    (t.offerTx e).link = (s.offerTx e).link := by
  have hlinkOf : ∀ u : State, (u.offerTx e).link = { u.link with txq := (u.offerOf e).txq } := fun _ => rfl
  rw [hlinkOf, hlinkOf, State.offerOf, State.offerOf, State.validStraps, State.validStraps, hlink, hstraps]

theorem frameDerived_recentReason (h : (s.frameChanges f).becameOn = false) :
    (s.frameDerived f).recentReason = s.recentReason := by
  have hmode : (s.frameDerived f).modeCtl.mode = s.modeCtl.mode := by
    rw [frameDerived_modeCtl_of_notOn h, modeAfter_eq]
  obtain ⟨-, hsfe, -⟩ := frameDerived_keeps s f
  rw [State.recentReason, State.recentReason, hmode, hsfe,
    anyAlert_eq_of_alertAt (frameDerived_alertAt_of_notOn h)]

/-- R184: what a VEHICLE frame leaves whose door report is refused an open window. -/
theorem takeVehicle_of_refusal {w : Window} (hon : (s.frameChanges f).becameOn = false)
    (h : (s.frameDerived f).DoorRefuses f.doorOpen) (hw : s.modeCtl.window = some w) :
    (s.takeVehicle f).modeCtl.window = some { w with refusedHere := true }
      ∧ (s.takeVehicle f).diag.meas = s.diag.meas ∧ (s.takeVehicle f).diag.link = s.diag.link
      ∧ (s.takeVehicle f).link
        = (s.offerTx (newEntry .sleepRefuse [toByte s.recentReason.code] none)).link.without (s.frameWithdraws f) := by
  obtain ⟨-, hlink, -⟩ := deriveVehicle_of_notOn hon
  obtain ⟨hopen, hidle, w', hw', hmark⟩ := h
  obtain rfl : w = w' := by
    rw [frameDerived_window_of_notOn hon] at hw'
    exact Option.some.inj (hw.symm.trans hw')
  have hdoor := doorReport_of_refusal hidle hw' hmark
  rw [← hopen, frameDerived_recentReason hon] at hdoor
  obtain ⟨hwindow, hoffered, hmeas, hcapture⟩ :=
    placeRefusal_writes ((s.frameDerived f).doorMoved f.doorOpen) w s.recentReason
  obtain ⟨hstraps, -, hdiag⟩ := frameDerived_keeps s f
  replace hdiag : ((s.frameDerived f).doorMoved f.doorOpen).diag = s.diag := hdiag
  replace hlink : ((s.frameDerived f).doorMoved f.doorOpen).link = s.link := hlink
  rw [offerTx_link_of_same hlink hstraps] at hoffered
  simp only [takeVehicle_eq, acknowledge_keeps, acknowledge_link, doorReport_alertFrame, frameWithdraws_of_notOn hon]
  rw [hdoor, hwindow, hmeas, hcapture, hoffered, hdiag]
  exact ⟨rfl, rfl, rfl, rfl⟩

end VehicleFrame

/-- R178: the changes of a frame, by the ignition before and after it. -/
theorem frameChanges_iff (s : State) (f : VehicleFrame) :
    ((s.frameChanges f).becameOn = true ↔ s.vehicle.ignition ≠ .on ∧ (s.takeVehicle f).vehicle.ignition = .on)
      ∧ ((s.frameChanges f).leftOn = true ↔ s.vehicle.ignition = .on ∧ (s.takeVehicle f).vehicle.ignition ≠ .on)
      ∧ ((s.frameChanges f).tripEnded = true
        ↔ s.vehicle.trip = true ∧ s.vehicle.ignition ≠ .off ∧ (s.takeVehicle f).vehicle.ignition = .off) := by
  rw [takeVehicle_vehicle]
  exact ⟨changesOf_becameOn_iff, changesOf_leftOn_iff, changesOf_tripEnded_iff⟩

theorem frameWithdraws_iff (s : State) (f : VehicleFrame) (x : TxEntry) :
    s.frameWithdraws f x = true ↔ ((s.frameChanges f).becameOn = true ∧ x.kind = .sleepPropose)
      ∨ ((f.acknowledge || (s.frameChanges f).becameOn) = true
        ∧ ∃ p r, s.recordAt p = some r ∧ r.alert.isActive = true ∧ x.alertsFor p = true) := by
  rw [State.frameWithdraws, Bool.or_eq_true, Bool.and_eq_true, Bool.and_eq_true, beq_iff_eq, alertFrame_iff]

/-- R193: the record at a position keeps its place, its alert acknowledged where it was ACTIVE. -/
theorem takeVehicle_record (s : State) (f : VehicleFrame) {p : Pos} {r : Record} (hr : s.recordAt p = some r) :
    ∃ r', (s.takeVehicle f).recordAt p = some r'
      ∧ r'.alert = r.alert.acknowledgedIf (f.acknowledge || (s.frameChanges f).becameOn) := by
  have h := takeVehicle_alertAt s f p
  rw [State.alertAt, State.alertAt, hr] at h
  exact Option.map_eq_some_iff.1 h

theorem acknowledgedIf_of_stays {set : Bool} {a : Alert} (h : ¬ set = true ∨ a.isActive = false) :
    a.acknowledgedIf set = a := by
  rw [Alert.acknowledgedIf, if_neg]
  rw [Bool.and_eq_true]
  rintro ⟨hset, hactive⟩
  exact h.elim (fun hn => hn hset) fun hn => Bool.false_ne_true (hn.symm.trans hactive)

theorem acknowledgedIf_of_active {set : Bool} {a : Alert} (hset : set = true) (h : a.isActive = true) :
    a.acknowledgedIf set = .acknowledged := by
  rw [Alert.acknowledgedIf, if_pos]
  rw [hset, h, Bool.true_and]

/-- R175, R178: what a VEHICLE frame leaves of the vehicle data record. -/
theorem takeVehicle_vehicle_writes (s : State) (payload : List Byte) {f : VehicleFrame}
    (hf : f = vehicleOfPayload payload) {v : Vehicle} (hv : v = (s.takeVehicle f).vehicle) :
    v.fresh = true ∧ v.ageMs = 0
      ∧ ((byteAt payload 0).toNat / 64 = 0 → v.ignition = .off) ∧ ((byteAt payload 0).toNat / 64 = 1 → v.ignition = .acc)
      ∧ ((byteAt payload 0).toNat / 64 = 2 → v.ignition = .on)
      ∧ ((byteAt payload 0).toNat / 64 = 3 → v.ignition = s.vehicle.ignition)
      ∧ ((byteAt payload 1).toNat ≤ 250 → v.speed = (byteAt payload 1).toNat)
      ∧ (250 < (byteAt payload 1).toNat → v.speed = s.vehicle.speed)
      ∧ ((s.frameChanges f).becameOn = true → v.trip = true)
      ∧ ((s.frameChanges f).tripEnded = true → v.trip = false)
      ∧ (¬ (s.frameChanges f).becameOn = true → ¬ (s.frameChanges f).tripEnded = true → v.trip = s.vehicle.trip) := by
  obtain ⟨hoff, hacc, hon, hheld, hspeed, hslow⟩ := take_vehicleOfPayload s.vehicle payload
  rw [← hf] at hoff hacc hon hheld hspeed hslow
  rw [takeVehicle_vehicle] at hv
  subst hv
  refine ⟨rfl, rfl, hoff, hacc, hon, hheld, hspeed, hslow, fun h => if_pos h, fun h => ?_,
    fun h h' => (if_neg h).trans (if_neg h')⟩
  have hnotOn : ¬ (s.frameChanges f).becameOn = true := fun hbecame => by
    obtain ⟨-, hafter⟩ := changesOf_becameOn_iff.1 hbecame
    obtain ⟨-, -, hafter'⟩ := changesOf_tripEnded_iff.1 h
    exact absurd (hafter.symm.trans hafter') (by decide)
  exact (if_neg hnotOn).trans (if_pos h)

/-- R182, R187: the timers that an ignition gone from ON starts in ACTIVE, and those a door report restarts. -/
theorem takeVehicle_timers {s : State} {f : VehicleFrame} (h : (s.frameChanges f).becameOn = false) :
    (s.takeVehicle f).modeCtl = { s.modeCtl with
        idle := (s.takeVehicle f).modeCtl.idle, alone := (s.takeVehicle f).modeCtl.alone
        window := (s.takeVehicle f).modeCtl.window }
      ∧ ((s.frameChanges f).leftOn = true → s.modeCtl.mode = .active →
        (s.takeVehicle f).modeCtl.idle = .running 0 ∧ (s.takeVehicle f).modeCtl.alone = .running 0)
      ∧ (¬ (s.frameChanges f).leftOn = true ∨ s.modeCtl.mode ≠ .active →
        (s.takeVehicle f).modeCtl.alone = s.modeCtl.alone
          ∧ (f.doorOpen = true → (s.takeVehicle f).modeCtl.idle = s.modeCtl.idle.restart)
          ∧ (¬ f.doorOpen = true → (s.takeVehicle f).modeCtl.idle = s.modeCtl.idle)) := by
  obtain ⟨hmode, -⟩ := takeVehicle_of_notOn h
  refine ⟨?_, fun hleft hactive => ?_, fun hstays => ?_⟩
  · rw [hmode, modeAfter_eq]
  · have hafter : s.modeAfter (s.vehicle.take f) = { s.modeCtl with idle := .running 0, alone := .running 0 } :=
      if_pos ⟨hleft, hactive⟩
    rw [hmode, hafter]
    exact ⟨ite_self _, rfl⟩
  · have hafter : s.modeAfter (s.vehicle.take f) = s.modeCtl := if_neg (not_and_or.2 hstays)
    rw [hmode, hafter]
    exact ⟨rfl, fun hopen => if_pos hopen, fun hclosed => if_neg hclosed⟩

/-- Settles O42: what a VEHICLE frame of station 13 makes of each block, then the blocks by whether the ignition becomes
ON and by whether the door report is refused an open window. -/
theorem vehicleFrameTaken : Obligations.VehicleFrameTaken := by
  intro s rx h hk
  have hexec : exec .vehicleHandled s = .next ((s.takeFrame rx).vehicleFrom rx.station rx.payload) := by
    show execVehicleHandled s = _
    exact handleFrame_of_handles s h hk _
  rw [hexec]
  refine ⟨fun hother => congrArg _ (if_neg hother), fun h13 => ?_⟩
  have htaken : (s.takeFrame rx).vehicleFrom rx.station rx.payload
      = (s.takeFrame rx).takeVehicle (vehicleOfPayload rx.payload) := if_pos h13
  have hdoor : (vehicleOfPayload rx.payload).doorOpen = true ↔ 0 < (byteAt rx.payload 0).toNat / 4 % 16 :=
    decide_eq_true_iff
  have hack : (vehicleOfPayload rx.payload).acknowledge = true ↔ (byteAt rx.payload 0).toNat / 2 % 2 = 1 := beq_iff_eq
  obtain ⟨hfresh, hage, hoff, hacc, hon, hheld, hspeed, hslow, hbegan, hends, htrip⟩ :=
    takeVehicle_vehicle_writes (s.takeFrame rx) rx.payload rfl rfl
  rw [htaken]
  generalize vehicleOfPayload rx.payload = f at *
  obtain ⟨hbecame, hleft, hended⟩ := frameChanges_iff (s.takeFrame rx) f
  have hlist := takeVehicle_departures (s.takeFrame rx) f
  refine ⟨(s.takeFrame rx).takeVehicle f, ((s.takeFrame rx).frameChanges f).becameOn = true,
    ((s.takeFrame rx).frameChanges f).leftOn = true, ((s.takeFrame rx).frameChanges f).tripEnded = true,
    f.doorOpen = true, (f.acknowledge || ((s.takeFrame rx).frameChanges f).becameOn) = true,
    (s.takeFrame rx).FrameRefuses f, (s.takeFrame rx).frameWithdraws f, rfl, hbecame, hleft, hended, hdoor, ?_, Iff.rfl, frameWithdraws_iff _ f,
    takeVehicle_frame (s.takeFrame rx) f rfl, hfresh, hage, hoff, hacc, hon, hheld, hspeed, hslow, hbegan, hends, htrip,
    fun hclears => ?_, fun hclosed hgoes => ?_, fun hleaves p r hr => takeVehicle_quiet (s.takeFrame rx) f hleaves hr,
    (takeVehicle_takesVehicleData (s.takeFrame rx) f).cls, fun p r hr => ?_,
    fun hbecomes => ?_, fun hbecomes hwatch => ?_, fun hstays => ?_, fun hnot => ?_, fun hnone => ?_, fun hrefusal w reason hw hreason => ?_⟩
  · rw [Bool.or_eq_true, hack]
  · rw [hlist, if_pos (Bool.or_eq_true_iff.2 hclears)]
  · rw [hlist, if_neg (fun hclears => (Bool.or_eq_true_iff.1 hclears).elim hclosed hgoes)]
    rfl
  · obtain ⟨r', hr', halert⟩ := takeVehicle_record (s.takeFrame rx) f hr
    exact ⟨r', hr', fun hset hactive => halert.trans (acknowledgedIf_of_active hset hactive),
      fun hkept => halert.trans (acknowledgedIf_of_stays hkept)⟩
  · obtain ⟨hmode, -⟩ := takeVehicle_becomingOn hbecomes
    exact hmode
  · obtain ⟨-, hwakes, -⟩ := takeVehicle_becomingOn hbecomes
    exact hwakes hwatch
  · cases hbecomes : ((s.takeFrame rx).frameChanges f).becameOn with
    | true =>
      obtain ⟨-, -, hkept⟩ := takeVehicle_becomingOn hbecomes
      exact hkept (hstays.resolve_left (not_not_intro hbecomes))
    | false =>
      obtain ⟨-, hkept⟩ := takeVehicle_of_notOn hbecomes
      exact hkept
  · have hoff := Bool.eq_false_iff.2 hnot
    obtain ⟨hmode, hstarts, hkept⟩ := takeVehicle_timers hoff
    refine ⟨hmode, hstarts, hkept, fun hnone => ?_⟩
    obtain ⟨-, -, hwindow⟩ := takeVehicle_of_noRefusal (mt frameRefuses_iff.2 hnone)
    exact hwindow.trans (frameDerived_window_of_notOn hoff)
  · obtain ⟨hlink, hdiag, -⟩ := takeVehicle_of_noRefusal (mt frameRefuses_iff.2 hnone)
    exact ⟨hlink, hdiag⟩
  · subst hreason
    exact takeVehicle_of_refusal (Bool.eq_false_iff.2 hrefusal.1) (frameRefuses_iff.1 hrefusal) hw

end Sys2Proof.Machine

namespace Sys2Proof.Machine

/-! ### The timers of the mode from a state to a later one (R182, R187, R194) -/

/-- What IdleRuns judges the idle and alone timers by stands: the mode, whether each runs, and the ignition. -/
def State.SameModeTimers (s t : State) : Prop :=
  t.modeCtl.mode = s.modeCtl.mode ∧ t.modeCtl.idle.isRunning = s.modeCtl.idle.isRunning
    ∧ t.modeCtl.alone.isRunning = s.modeCtl.alone.isRunning ∧ (t.vehicle.ignition = .on ↔ s.vehicle.ignition = .on)

@[simp] theorem sameModeTimers_iff (s t : State) :
    s.SameModeTimers t ↔ t.modeCtl.mode = s.modeCtl.mode ∧ t.modeCtl.idle.isRunning = s.modeCtl.idle.isRunning
      ∧ t.modeCtl.alone.isRunning = s.modeCtl.alone.isRunning
      ∧ (t.vehicle.ignition = .on ↔ s.vehicle.ignition = .on) := Iff.rfl

/-- R194: of the sweep, the holds, the window and the timers that stand in STANDBY, none starts from s to t. -/
def State.StartsNothing (s t : State) : Prop :=
  (s.sweep.flight = none → t.sweep.flight = none) ∧ (s.sweep.period = .stopped → t.sweep.period = .stopped)
    ∧ (s.link.fence = .stopped → t.link.fence = .stopped) ∧ (s.link.eventLoss = .stopped → t.link.eventLoss = .stopped)
    ∧ (s.modeCtl.window = none → t.modeCtl.window = none) ∧ (s.modeCtl.watch = .stopped → t.modeCtl.watch = .stopped)
    ∧ (s.emission.timer = .stopped → t.emission.timer = .stopped)
    ∧ (s.emission.restarted = .stopped → t.emission.restarted = .stopped)

@[simp] theorem startsNothing_iff (s t : State) :
    s.StartsNothing t ↔ (s.sweep.flight = none → t.sweep.flight = none)
      ∧ (s.sweep.period = .stopped → t.sweep.period = .stopped)
      ∧ (s.link.fence = .stopped → t.link.fence = .stopped)
      ∧ (s.link.eventLoss = .stopped → t.link.eventLoss = .stopped)
      ∧ (s.modeCtl.window = none → t.modeCtl.window = none) ∧ (s.modeCtl.watch = .stopped → t.modeCtl.watch = .stopped)
      ∧ (s.emission.timer = .stopped → t.emission.timer = .stopped)
      ∧ (s.emission.restarted = .stopped → t.emission.restarted = .stopped) := Iff.rfl

/-- The invariant: the idle and alone timers run in their mode, and STANDBY is quiet. -/
structure State.ModeTimersFit (s : State) : Prop where
  idle : s.IdleRuns
  quiet : s.StandbyQuiet

/-- What is left of the invariant outside STANDBY, where a station handles frames and completes sweeps. -/
structure State.AwakeFit (s : State) : Prop where
  idle : s.IdleRuns
  awake : s.modeCtl.mode ≠ .standby

@[simp] theorem running_isRunning (ms : Nat) : (Timer.running ms).isRunning = true := rfl

@[simp] theorem stopped_isRunning : Timer.stopped.isRunning = false := rfl

theorem tick_isRunning (limit : Nat) (timer : Timer) : (timer.tick limit).isRunning = timer.isRunning := by
  cases timer with
  | stopped => rfl
  | running ms =>
    rw [Timer.tick]
    split <;> rfl

theorem tick_stopped (limit : Nat) : Timer.stopped.tick limit = .stopped := rfl

section Fit

variable {s t : State}

theorem State.AwakeFit.fit (h : s.AwakeFit) : s.ModeTimersFit := ⟨h.idle, fun hm => absurd hm h.awake⟩

theorem State.ModeTimersFit.awakeFit (h : s.ModeTimersFit) (hm : s.modeCtl.mode ≠ .standby) : s.AwakeFit :=
  ⟨h.idle, hm⟩

theorem idleRuns_of_same (h : s.IdleRuns) (hsame : s.SameModeTimers t) : t.IdleRuns := by
  obtain ⟨hmode, hidle, halone, hignition⟩ := hsame
  rwa [State.IdleRuns, hmode, hidle, halone, ne_eq, hignition]

theorem State.AwakeFit.same (h : s.AwakeFit) (hsame : s.SameModeTimers t) : t.AwakeFit :=
  ⟨idleRuns_of_same h.idle hsame, hsame.1 ▸ h.awake⟩

/-- R194: a change that starts nothing leaves STANDBY quiet. -/
theorem State.ModeTimersFit.same (h : s.ModeTimersFit) (hsame : s.SameModeTimers t ∧ s.StartsNothing t) :
    t.ModeTimersFit := by
  obtain ⟨hmodes, hflight, hperiod, hfence, hloss, hwindow, hwatch, htimer, hrestarted⟩ := hsame
  refine ⟨idleRuns_of_same h.idle hmodes, fun hm => ?_⟩
  obtain ⟨hmode, hidle, halone, -⟩ := hmodes
  obtain ⟨qflight, qperiod, qfence, qloss, qwindow, qidle, qalone, qwatch, qtimer, qrestarted⟩ := h.quiet (hmode ▸ hm)
  rw [← isRunning_eq_false_iff] at qidle qalone
  exact ⟨hflight qflight, hperiod qperiod, hfence qfence, hloss qloss, hwindow qwindow,
    (isRunning_eq_false_iff _).1 (hidle.trans qidle), (isRunning_eq_false_iff _).1 (halone.trans qalone),
    hwatch qwatch, htimer qtimer, hrestarted qrestarted⟩

end Fit

/-! #### Changes of mode: whatever went before, the timers fit -/

section Entries

variable (s : State)

theorem enterWatch_awakeFit : s.enterWatch.AwakeFit := by
  constructor <;> simp [State.IdleRuns, enterWatch_writes]

theorem leaveWatch_awakeFit : s.leaveWatch.AwakeFit := by
  obtain ⟨hoff, hon⟩ := leaveWatch_timers s
  have hmode : s.leaveWatch.modeCtl.mode = .active := by rw [(leaveWatch_writes s).1]
  have hignition : s.leaveWatch.vehicle = s.vehicle := by simp
  refine ⟨?_, by rw [hmode]; decide⟩
  rw [State.IdleRuns, hmode, hignition]
  by_cases h : s.vehicle.ignition = .on
  · obtain ⟨hidle, halone⟩ := hon h
    simp [hidle, halone, h]
  · obtain ⟨hidle, halone⟩ := hoff h
    simp [hidle, halone, h]

theorem State.EntersStandby.fit {s t : State} (h : s.EntersStandby t) (htimer : t.emission.timer = .stopped)
    (hrestarted : t.emission.restarted = .stopped) : t.ModeTimersFit := by
  obtain ⟨hmode, hsweep, -, hfence, -, -, hloss, -⟩ := h
  refine ⟨?_, fun _ => ⟨?_, ?_, hfence, hloss, ?_, ?_, ?_, ?_, htimer, hrestarted⟩⟩
  · rw [State.IdleRuns, hmode]
    simp [Timer.isRunning]
  · rw [hsweep]
  · rw [hsweep]
  · rw [hmode]
  · rw [hmode]
  · rw [hmode]
  · rw [hmode]

theorem enterStandby_fit : s.enterStandby.ModeTimersFit :=
  (enterStandby_entersStandby s).fit (by simp [enterStandby_writes]) (by simp [enterStandby_writes])

theorem haltEntry_fit : s.haltEntry.ModeTimersFit :=
  (haltEntry_entersStandby s).fit (by simp [haltEntry_writes, enterStandby_writes])
    (by simp [haltEntry_writes, enterStandby_writes])

/-- R199: after a power-on, a wake and a service exit the ignition is OFF and both timers run. -/
theorem awakeFit_of_fresh {t : State} (hmode : t.modeCtl = freshModeCtl) (hvehicle : t.vehicle = freshVehicle) :
    t.AwakeFit := by
  refine ⟨?_, by rw [hmode]; decide⟩
  rw [State.IdleRuns, hmode, hvehicle]
  decide

theorem wake_awakeFit (pins : BitVec 5) : (s.wake pins).AwakeFit := awakeFit_of_fresh rfl rfl

theorem serviceExit_awakeFit : s.serviceExit.AwakeFit := awakeFit_of_fresh rfl rfl

theorem ownDecision_fit : s.ownDecision.ModeTimersFit := by
  unfold State.ownDecision
  split
  · exact (enterWatch_awakeFit s).fit
  · exact enterStandby_fit s

theorem enterServiceMode_awakeFit : s.enterServiceMode.AwakeFit := by
  constructor <;> simp [State.IdleRuns, State.enterServiceMode, State.serviceBlocks]

end Entries

/-! #### What keeps the idle and alone timers running or stopped (R182, R184, R187) -/

section KeepsRunning

variable (s : State)

/-- R184: a test of the refusal reasons at most restarts the idle timer. -/
@[simp] theorem testReasons_keepsRunning :
    s.testReasons.modeCtl.idle.isRunning = s.modeCtl.idle.isRunning
      ∧ s.testReasons.modeCtl.alone.isRunning = s.modeCtl.alone.isRunning := by
  obtain h | ⟨w, reason, -, h⟩ := testReasons_cases s
  · rw [h]
    exact ⟨rfl, rfl⟩
  · rw [h, (placeRefusal_writes s w reason).1]
    exact ⟨restart_isRunning _, rfl⟩

@[simp] theorem closeWindow_keepsRunning :
    s.closeWindow.modeCtl.idle.isRunning = s.modeCtl.idle.isRunning
      ∧ s.closeWindow.modeCtl.alone.isRunning = s.modeCtl.alone.isRunning := ⟨rfl, rfl⟩

@[simp] theorem restartAlone_keepsRunning :
    s.restartAlone.modeCtl.idle.isRunning = s.modeCtl.idle.isRunning
      ∧ s.restartAlone.modeCtl.alone.isRunning = s.modeCtl.alone.isRunning := ⟨rfl, restart_isRunning _⟩

@[simp] theorem testLeftBehind_keepsRunning :
    s.testLeftBehind.modeCtl.idle.isRunning = s.modeCtl.idle.isRunning
      ∧ s.testLeftBehind.modeCtl.alone.isRunning = s.modeCtl.alone.isRunning := ⟨rfl, rfl⟩

@[simp] theorem restartIdle_keepsRunning :
    s.restartIdle.modeCtl.idle.isRunning = s.modeCtl.idle.isRunning
      ∧ s.restartIdle.modeCtl.alone.isRunning = s.modeCtl.alone.isRunning := by
  unfold State.restartIdle
  split
  · next hruns => simp [hruns]
  · exact ⟨rfl, rfl⟩

@[simp] theorem openWindow_keepsRunning :
    s.openWindow.modeCtl.idle.isRunning = s.modeCtl.idle.isRunning
      ∧ s.openWindow.modeCtl.alone.isRunning = s.modeCtl.alone.isRunning := by
  unfold State.openWindow
  split <;> simp

@[simp] theorem hearProposal_keepsRunning (kind : FrameKind) :
    (s.hearProposal kind).modeCtl.idle.isRunning = s.modeCtl.idle.isRunning
      ∧ (s.hearProposal kind).modeCtl.alone.isRunning = s.modeCtl.alone.isRunning := by
  unfold State.hearProposal
  split <;> simp

@[simp] theorem idleStep_keepsRunning (changed : Bool) :
    (s.idleStep changed).modeCtl.idle.isRunning = s.modeCtl.idle.isRunning
      ∧ (s.idleStep changed).modeCtl.alone.isRunning = s.modeCtl.alone.isRunning := by
  unfold State.idleStep
  split <;> simp

@[simp] theorem latchReason_keepsRunning (event : LatchEvent) :
    (s.latchReason event).modeCtl.idle.isRunning = s.modeCtl.idle.isRunning
      ∧ (s.latchReason event).modeCtl.alone.isRunning = s.modeCtl.alone.isRunning := by
  unfold State.latchReason
  split <;> simp

@[simp] theorem doorReport_keepsRunning (isOpen : Bool) :
    (s.doorReport isOpen).modeCtl.idle.isRunning = s.modeCtl.idle.isRunning
      ∧ (s.doorReport isOpen).modeCtl.alone.isRunning = s.modeCtl.alone.isRunning := by
  unfold State.doorReport
  split <;> simp

@[simp] theorem propose_keepsRunning :
    s.propose.modeCtl.idle.isRunning = s.modeCtl.idle.isRunning
      ∧ s.propose.modeCtl.alone.isRunning = s.modeCtl.alone.isRunning := by
  unfold State.propose
  split <;> simp

@[simp] theorem idleReached_keepsRunning :
    s.idleReached.modeCtl.idle.isRunning = s.modeCtl.idle.isRunning
      ∧ s.idleReached.modeCtl.alone.isRunning = s.modeCtl.alone.isRunning := by
  unfold State.idleReached
  repeat' split
  all_goals simp

end KeepsRunning

/-- R190: an own change in WATCH leaves the timers of ACTIVE, whatever the vacant run did first. -/
theorem State.ModeTimersFit.wakeOthers {s : State} (h : s.ModeTimersFit) (ownChange : Bool) :
    (s.wakeOthers ownChange).ModeTimersFit := by
  unfold State.wakeOthers
  split
  · exact (leaveWatch_awakeFit _).fit
  · exact h

/-! #### Outside STANDBY: frames, vehicle data, completions, the ends of window and timers -/

section Awake

variable {s : State} (h : s.AwakeFit)
include h

theorem State.AwakeFit.hearCells (r : Reading) (echoed : Bool) : (s.hearCells r echoed).AwakeFit := by
  unfold State.hearCells State.takeReading State.wholeFrame
  repeat' split
  all_goals exact h.same (by simp [State.accept, State.stationClash])

theorem State.AwakeFit.cutOff (e : TxEntry) : (s.cutOff e).AwakeFit := by
  unfold State.cutOff State.frameCutOff
  split <;> exact h.same (by simp)

theorem State.AwakeFit.frameSent (e : TxEntry) (echoed : Bool) : (s.frameSent e echoed).AwakeFit := by
  unfold State.frameSent State.sentReport
  split <;> exact h.same (by simp)

/-- R182, R185, R187, R190: the timers stop as the ignition becomes ON, start as it leaves ON in ACTIVE, and else
stand. -/
theorem State.AwakeFit.deriveVehicle (after : Vehicle) : (s.deriveVehicle after).AwakeFit := by
  have hignition : (s.deriveVehicle after).vehicle.ignition = after.ignition := by rw [deriveVehicle_vehicle]
  cases hon : (s.changesOf after).becameOn with
  | true =>
    obtain ⟨hmode, -⟩ := deriveVehicle_becomingOn hon
    obtain ⟨-, hafter⟩ := changesOf_becameOn_iff.1 hon
    refine ⟨by simp [State.IdleRuns, hignition, hafter, hmode], ?_⟩
    rw [hmode]
    dsimp only
    split
    · decide
    · exact h.awake
  | false =>
    obtain ⟨hmode, -⟩ := deriveVehicle_of_notOn hon
    by_cases hstarts : (s.changesOf after).leftOn = true ∧ s.modeCtl.mode = .active
    · obtain ⟨hleft, hactive⟩ := hstarts
      obtain ⟨-, hafter⟩ := changesOf_leftOn_iff.1 hleft
      constructor <;> simp [State.IdleRuns, hignition, hafter, hmode, State.modeAfter, hleft, hactive]
    · rw [State.modeAfter, if_neg hstarts] at hmode
      refine ⟨?_, hmode ▸ h.awake⟩
      have hidle := h.idle
      rw [changesOf_leftOn_iff] at hstarts
      have hnotOn := mt changesOf_becameOn_iff.2 (Bool.eq_false_iff.1 hon)
      rw [State.IdleRuns, hmode, hignition]
      unfold State.IdleRuns at hidle
      tauto

theorem State.AwakeFit.vehicleFrom (n : StationNo) (payload : List Byte) : (s.vehicleFrom n payload).AwakeFit := by
  unfold State.vehicleFrom
  split
  · exact (h.deriveVehicle (s.vehicle.take (vehicleOfPayload payload))).same (by simp [State.takeVehicle])
  · exact h.same (by simp)

theorem State.AwakeFit.vacantStep : s.vacantStep.ModeTimersFit := by
  unfold State.vacantStep
  repeat' split
  · exact (h.same (by simp)).fit
  · exact enterStandby_fit s
  · exact (h.same (by simp)).fit
  · exact h.fit

theorem State.AwakeFit.wakeOthers (ownChange : Bool) : (s.wakeOthers ownChange).AwakeFit := by
  unfold State.wakeOthers
  split
  · exact leaveWatch_awakeFit _
  · exact h

theorem State.AwakeFit.watchStep (ownChange : Bool) : (s.watchStep ownChange).ModeTimersFit := by
  unfold State.watchStep
  split
  · exact h.vacantStep.wakeOthers ownChange
  · exact (h.wakeOthers ownChange).vacantStep

theorem State.AwakeFit.completeSweep (number : Word16) (test : Bool) (tagAt : Option Pos) (r : SweepReadings) :
    (s.completeSweep number test tagAt r).ModeTimersFit := by
  obtain ⟨hmode, -⟩ := beforeStepSix_lowered s number test tagAt r
  have hbefore : (s.beforeStepSix number test tagAt r).AwakeFit :=
    h.same (by rw [State.SameModeTimers, hmode]; simp [State.beforeStepSix, State.classifiedBy])
  have hstep : ((s.beforeStepSix number test tagAt r).modeStep (s.changesBy number test tagAt r)).ModeTimersFit :=
    State.AwakeFit.watchStep (hbefore.same (by simp)) _
  rw [completeSweep_eq_modeStep]
  exact hstep.same (by simp [State.endFlight])

theorem State.AwakeFit.endWindow (w : Window) : (s.endWindow w).ModeTimersFit := by
  unfold State.endWindow State.activeWindowEnd
  repeat' split
  · exact (h.same (by simp)).fit
  · exact ownDecision_fit _
  · exact (h.same (by simp)).fit

theorem State.AwakeFit.aloneReached (hruns : s.modeCtl.alone.isRunning = true) : s.aloneReached.ModeTimersFit := by
  unfold State.aloneReached
  split
  · exact (h.same (by simp [hruns])).fit
  · exact ownDecision_fit s

theorem State.AwakeFit.serviceEntry (arg : Nat) : (s.serviceEntry arg).AwakeFit := by
  unfold State.serviceEntry
  repeat' split
  · exact h.same (by simp)
  · exact h.same (by simp)
  · exact h.same (by simp)
  · exact (enterServiceMode_awakeFit s).same (by simp)

theorem State.AwakeFit.serviceLeave (arg : Nat) : (s.serviceLeave arg).AwakeFit := by
  unfold State.serviceLeave
  repeat' split
  · exact h.same (by simp)
  · exact h.same (by simp)
  · exact h.same (by simp)
  · exact (serviceExit_awakeFit s).same (by simp)

end Awake

theorem leftBehind_awakeFit (s : State) : s.leftBehind.AwakeFit :=
  (leaveWatch_awakeFit s.requestWake).same (by simp [State.leftBehind, positionsInOrder])

/-! #### In every mode: pulses, the standby watch, time -/

section AnyMode

variable {s : State} (h : s.ModeTimersFit)
include h

theorem State.ModeTimersFit.heardWake (pins : BitVec 5) : (s.heardWake pins).ModeTimersFit := by
  unfold State.heardWake
  split
  · next hm => exact ((h.awakeFit (by simp [hm])).same (by simp)).fit
  · exact (leaveWatch_awakeFit s).fit
  · exact (wake_awakeFit s pins).fit
  · exact h

theorem State.ModeTimersFit.heardHalt : s.heardHalt.ModeTimersFit := by
  unfold State.heardHalt
  repeat' split
  · exact haltEntry_fit s
  · exact haltEntry_fit s
  · exact h.same (by simp [State.haltInStandby])
  · exact h.same (by simp)
  · exact haltEntry_fit _

theorem State.ModeTimersFit.wakeOnCause (pins : BitVec 5) : (s.wakeOnCause pins).ModeTimersFit := by
  unfold State.wakeOnCause
  split
  · exact (wake_awakeFit s pins).fit
  · exact h

theorem State.ModeTimersFit.edge : s.edge.ModeTimersFit := h.same (by simp [State.edge])

theorem State.ModeTimersFit.stuckLine : s.stuckLine.ModeTimersFit := h.same (by simp [State.stuckLine])

theorem State.ModeTimersFit.hearPulse (c : PulseClass) (pins : BitVec 5) : (s.hearPulse c pins).ModeTimersFit := by
  unfold State.hearPulse
  split
  · exact h.same (by simp)
  · exact h.heardWake pins
  · exact h.heardHalt
  · exact h
  · exact h

theorem State.ModeTimersFit.hearAtRelease (length : Nat) (pins : BitVec 5) :
    (s.hearAtRelease length pins).ModeTimersFit := by
  unfold State.hearAtRelease
  split
  · exact h.stuckLine.edge.wakeOnCause pins
  · exact h.edge.heardHalt
  · exact (h.edge.hearPulse .form pins).wakeOnCause pins
  · exact h.edge.heardWake pins
  · exact h

theorem State.ModeTimersFit.takeSample (sampled : StandbyWatch × Bool) (pins : BitVec 5) :
    (s.takeSample sampled pins).ModeTimersFit := by
  unfold State.takeSample State.localWakeCause
  repeat' split
  · exact h.same (by simp [State.requestWake])
  · exact (wake_awakeFit _ pins).fit
  · exact h.same (by simp)

theorem State.ModeTimersFit.hearCells (r : Reading) (echoed : Bool) : (s.hearCells r echoed).ModeTimersFit := by
  by_cases hm : s.modeCtl.mode = .standby
  · rw [hearCells_inStandby hm]
    exact h.edge
  · exact ((h.awakeFit hm).hearCells r echoed).fit

theorem State.ModeTimersFit.startFrame : s.startFrame.ModeTimersFit := by
  unfold State.startFrame
  split
  · exact h.same (by simp)
  · exact h

/-- Log entry 7: a stopped timer stays stopped, a running one runs on, and nothing starts. -/
theorem State.ModeTimersFit.tick : s.tick.ModeTimersFit := by
  have hvehicle : (s.vehicle.tick s.modeCtl.mode).ignition = s.vehicle.ignition := by
    unfold Vehicle.tick
    split <;> rfl
  unfold State.tick
  split
  · refine h.same ⟨⟨rfl, tick_isRunning _ _, tick_isRunning _ _, by simp [State.millisecond, hvehicle]⟩, ?_⟩
    simp +contextual [State.millisecond, SweepCtl.tick, Link.tick, ModeCtl.tick, Emission.tick, tick_stopped]
  · exact h

end AnyMode

/-! #### Every command and every step keeps the invariant -/

/-- What a meaning answers meets the invariant. -/
def AnswersModeTimers (o : Out) : Prop := ∀ t, o = .next t → t.ModeTimersFit

section Answers

variable {s : State}

theorem answersModeTimers_next {t : State} (h : t.ModeTimersFit) : AnswersModeTimers (.next t) := by
  rintro _ ⟨⟩
  exact h

theorem answersModeTimers_onlyIf {c : Bool} {after : State} (h : s.ModeTimersFit)
    (hafter : c = true → after.ModeTimersFit) : AnswersModeTimers (onlyIf c after s) := by
  refine answersModeTimers_next ?_
  split
  · next hc => exact hafter hc
  · exact h

/-- R31, R163: in STANDBY the handler takes no frame. -/
theorem awake_of_handlerRuns (h : s.handlerRuns = true) : s.modeCtl.mode ≠ .standby := by
  rw [State.handlerRuns, Bool.and_eq_true, bne_iff_ne] at h
  exact h.2

theorem awake_of_nextFrame {kind : FrameKind} {f : RxFrame} (h : s.nextFrame kind = some f) :
    s.modeCtl.mode ≠ .standby := by
  unfold State.nextFrame at h
  split at h
  · next hruns => exact awake_of_handlerRuns hruns
  · contradiction

theorem awake_of_nextOwnClaim {c : SelfClaim} (h : s.nextOwnClaim = some c) : s.modeCtl.mode ≠ .standby := by
  unfold State.nextOwnClaim at h
  split at h
  · next hruns => exact awake_of_handlerRuns hruns
  · contradiction

/-- R149 to R151, log entry 12: in STANDBY nothing is being sent. -/
theorem awake_of_onLine {e : TxEntry} (h : s.onLine = some e) : s.modeCtl.mode ≠ .standby := fun hm => by
  rw [State.onLine, if_neg (by simp [hm])] at h
  contradiction

theorem State.ModeTimersFit.awake_of_flight (h : s.ModeTimersFit) {flight : Flight}
    (hf : s.sweep.flight = some flight) : s.modeCtl.mode ≠ .standby := fun hm => by
  obtain ⟨hnone, -⟩ := h.quiet hm
  rw [hnone] at hf
  contradiction

theorem answersModeTimers_expire (h : s.ModeTimersFit) {p : Pos} {timer : Record → Timer} {limit : Nat}
    {f : Record → Record} : AnswersModeTimers (s.expire p timer limit f) :=
  answersModeTimers_onlyIf h fun _ => h.same (by simp)

theorem answersModeTimers_handleFrame (h : s.ModeTimersFit) {kind : FrameKind} {owner : RxFrame → State → State}
    (howner : ∀ f t, t.AwakeFit → (owner f t).AwakeFit) : AnswersModeTimers (s.handleFrame kind owner) := by
  refine answersModeTimers_next ?_
  split
  · next f hnext => exact (howner f _ ((h.awakeFit (awake_of_nextFrame hnext)).same (by simp))).fit
  · exact h

theorem answersModeTimers_handleQuery (h : s.ModeTimersFit) {item : Nat} {answer : Nat → State → State}
    (hanswer : ∀ arg t, t.AwakeFit → (answer arg t).AwakeFit) : AnswersModeTimers (s.handleQuery item answer) := by
  refine answersModeTimers_next ?_
  split
  · next f hnext =>
    obtain ⟨hframe, -⟩ := Option.filter_eq_some_iff.1 hnext
    exact (hanswer _ _ ((h.awakeFit (awake_of_nextFrame hframe)).same (by simp))).fit
  · exact h

end Answers

/-- Every command keeps the invariant. -/
theorem exec_answersModeTimers {s : State} (h : s.ModeTimersFit) (i : Instr) : AnswersModeTimers (exec i s) := by
  cases i with
  | powerOn pins => exact answersModeTimers_next (awakeFit_of_fresh rfl rfl).fit
  | sweepStart =>
    refine answersModeTimers_onlyIf h fun hc => ?_
    have hawake : s.modeCtl.mode ≠ .standby := fun hm => by
      obtain ⟨-, hperiod, -⟩ := h.quiet hm
      simp [State.canStartSweep, hperiod, isAt_stopped] at hc
    exact ((h.awakeFit hawake).same (by simp)).fit
  | sweepCompletion r =>
    refine answersModeTimers_next ?_
    split
    · next hflight => exact (h.awakeFit (h.awake_of_flight hflight)).completeSweep _ _ _ r
    · exact h
  | oneShotCompletion r =>
    refine answersModeTimers_next ?_
    split
    · next hflight => exact ((h.awakeFit (h.awake_of_flight hflight)).same (by simp)).fit
    · exact h
  | graceTimerExpiry p | escalationTimerExpiry p | chimeSecond p | slowTimerExpiry p | buckledRunExpiry p =>
    exact answersModeTimers_expire h
  | seatedTimeSecond | lampFlashToggle | tellTaleFlashToggle | departureEntryExpiry | rosterSilent | rosterLost
  | restartedHoldExpiry | eventLossHoldExpiry | fenceEnd | stuckHoldEnd | wakePulseSendStart =>
    exact answersModeTimers_onlyIf h fun _ => h.same (by simp)
  | vehicleDataLost =>
    refine answersModeTimers_onlyIf h fun hc => ?_
    have hawake : s.modeCtl.mode ≠ .standby := fun hm => by simp [hm] at hc
    exact ((h.awakeFit hawake).deriveVehicle _).fit
  | emissionTimerExpiry =>
    refine answersModeTimers_onlyIf h fun hc => ?_
    have hawake : s.modeCtl.mode ≠ .standby := fun hm => by
      obtain ⟨-, -, -, -, -, -, -, -, htimer, -⟩ := h.quiet hm
      simp [htimer, isAt_stopped] at hc
    exact ((h.awakeFit hawake).same (by simp)).fit
  | lineStuck => exact answersModeTimers_onlyIf h fun _ => h.stuckLine
  | pulseEnd length pins => exact answersModeTimers_onlyIf h fun _ => h.edge.hearPulse _ pins
  | frameTxStart => exact answersModeTimers_onlyIf h fun _ => h.startFrame
  | arbitrationLost => exact answersModeTimers_onlyIf h fun _ => h.same (by simp)
  | bitMismatch =>
    refine answersModeTimers_next ?_
    split
    · next hline => exact ((h.awakeFit (awake_of_onLine hline)).cutOff _).fit
    · exact h
  | frameSent echoed =>
    refine answersModeTimers_next ?_
    split
    · next hline => exact ((h.awakeFit (awake_of_onLine hline)).frameSent _ echoed).fit
    · exact h
  | wakePulseRelease heard pins =>
    have hreleased : s.pulseReleased.ModeTimersFit := h.same (by simp [State.pulseReleased])
    refine answersModeTimers_onlyIf h fun _ => ?_
    split
    · exact hreleased.wakeOnCause pins
    · exact hreleased.hearAtRelease _ pins
  | frameReceptionEnd cells echoed => exact answersModeTimers_onlyIf h fun _ => h.hearCells _ echoed
  | ownClaimHandled =>
    refine answersModeTimers_next ?_
    split
    · next hnext => exact ((h.awakeFit (awake_of_nextOwnClaim hnext)).same (by simp)).fit
    · exact h
  | claimHandled | departHandled | stateHandled =>
    simp only [exec, execClaimHandled, execDepartHandled, execStateHandled]
    refine answersModeTimers_handleFrame h fun _ _ ht => ?_
    split <;> exact ht.same (by simp)
  | vehicleHandled => exact answersModeTimers_handleFrame h fun _ _ ht => ht.vehicleFrom _ _
  | sleepRefuseHandled | rowReleaseHandled | alertHandled | sleepProposeHandled | configWrite =>
    simp only [exec, execSleepRefuseHandled, execRowReleaseHandled, execAlertHandled, execSleepProposeHandled,
      execConfigWrite]
    exact answersModeTimers_handleFrame h fun _ _ ht => ht.same (by simp)
  | readCapture | clearCapture | readCounters | readPosition | measure | readRoster | readConfig | storeConfig =>
    simp only [exec, execReadCapture, execClearCapture, execReadCounters, execReadPosition, execMeasure,
      execReadRoster, execReadConfig, execStoreConfig]
    exact answersModeTimers_handleQuery h fun _ _ ht => ht.same (by simp)
  | enterService => exact answersModeTimers_handleQuery h fun arg _ ht => ht.serviceEntry arg
  | leaveService => exact answersModeTimers_handleQuery h fun arg _ ht => ht.serviceLeave arg
  | commitCompletion =>
    refine answersModeTimers_onlyIf h fun _ => ?_
    split
    · exact haltEntry_fit _
    · exact h.same (by simp [State.commitDone, State.reply, State.place, State.offerTx])
  | serviceTimerExpiry => exact answersModeTimers_onlyIf h fun _ => (serviceExit_awakeFit s).fit
  | idleTimerExpiry =>
    refine answersModeTimers_onlyIf h fun hc => ?_
    have hawake : s.modeCtl.mode ≠ .standby := fun hm => by simp [hm] at hc
    exact ((h.awakeFit hawake).same (by simp)).fit
  | windowEnd =>
    refine answersModeTimers_next ?_
    split
    · next w _ hwindow =>
      have hawake : s.modeCtl.mode ≠ .standby := fun hm => by
        obtain ⟨-, -, -, -, hnone, -⟩ := h.quiet hm
        rw [hnone] at hwindow
        contradiction
      split
      · exact (h.awakeFit hawake).endWindow w
      · exact h
    · exact h
  | aloneTimerExpiry =>
    refine answersModeTimers_onlyIf h fun hc => ?_
    have hawake : s.modeCtl.mode ≠ .standby := fun hm => by simp [hm] at hc
    have hruns : s.modeCtl.alone.isRunning = true := by
      rw [timer_isRunning_iff]
      intro hstopped
      simp [hstopped, isAt_stopped] at hc
    exact (h.awakeFit hawake).aloneReached hruns
  | watchTimerExpiry => exact answersModeTimers_onlyIf h fun _ => enterStandby_fit s
  | leftBehindExpiry => exact answersModeTimers_onlyIf h fun _ => (leftBehind_awakeFit s).fit
  | alertPeriodExpiry p =>
    refine answersModeTimers_onlyIf h fun hc => ?_
    have hawake : s.modeCtl.mode ≠ .standby := fun hm => by simp [hm] at hc
    exact ((h.awakeFit hawake).same (by simp)).fit
  | standbyWatchSample ratios latchOpen pins =>
    refine answersModeTimers_next ?_
    split
    · exact h.takeSample _ pins
    · exact h
  | lossOfSupply => exact answersModeTimers_onlyIf h fun _ => h.same (by simp [State.unpowered])
  | diagQueryItemNotDefined =>
    refine answersModeTimers_next ?_
    split
    · next hnext =>
      obtain ⟨hframe, -⟩ := Option.filter_eq_some_iff.1 hnext
      exact ((h.awakeFit (awake_of_nextFrame hframe)).same (by simp)).fit
    · exact h

/-- A step passes a millisecond, or takes the front command on the rest of the queue. -/
theorem step_modeTimersFit {s t : State} (h : s.ModeTimersFit) (hstep : step s = .next t) : t.ModeTimersFit := by
  unfold step at hstep
  split at hstep
  · exact answersModeTimers_next h.tick t hstep
  · exact exec_answersModeTimers (h.same (by simp)) _ t hstep

/-- Settles O60, by the invariant `State.ModeTimersFit`: every command and every tick keeps it. -/
theorem modeTimersStayInMode : Obligations.ModeTimersStayInMode := fun _ _ ⟨hidle, hquiet⟩ hstep => by
  obtain ⟨hidle', hquiet'⟩ := step_modeTimersFit ⟨hidle, hquiet⟩ hstep
  exact ⟨hidle', hquiet'⟩

end Sys2Proof.Machine

namespace Sys2Proof.Machine

/-! ### The blocks after power-on (R196, R201) -/

section FreshBlocks

variable (c : Conf) (p : Pos)

/-- R24: no fault, nothing counted, and a belt where a buckle is read. -/
theorem freshSfe_position :
    (freshSfe c).positions.get p
      = { matRange := ⟨false, 0⟩, matDisagree := ⟨false, 0⟩, matOpen := ⟨false, 0⟩, presenceRange := ⟨false, 0⟩
          belt := if buckleRead c p then .unbuckled else .notFitted
          beltRun := none, tagView := .none, tagRun := none } :=
  Four.get_ofFn _ p

theorem freshSfe_channel : (freshSfe c).channels.get p = { held := none, reference := none } := Four.get_const _ p

/-- R61: the baselines at the zeros of the configuration. -/
theorem freshClasses_get :
    (freshClasses c).get p
      = { b16 := (c.zero.get p : Int) * 16, pb16 := (c.pzero.get p : Int) * 16, lf := 0, shift := 0
          presence := false, candidate := none, dwell := 0 } := by
  rw [freshClasses, Four.get_ofFn]
  push_cast
  rfl

/-- R82: every position UNSCANNED, every other number ABSENT. -/
theorem freshSeats_of_position (h : isPosition c p = true) : (freshSeats c).get p = ⟨.unscanned, none, none⟩ := by
  rw [freshSeats, Four.get_ofFn, if_pos h]

theorem freshSeats_of_noPosition (h : isPosition c p = false) : (freshSeats c).get p = ⟨.absent, none, none⟩ := by
  rw [freshSeats, Four.get_ofFn, if_neg (by simp [h])]

end FreshBlocks

/-- R201: a good store, spelled out: its sum, the ranges of its items, its joins. -/
theorem store_good_iff (store : Store) :
    store.good = true ↔ store.sum = store.contents.sum
      ∧ (∀ i ∈ Item.all, i.range.1 ≤ store.contents.value i ∧ store.contents.value i ≤ i.range.2)
      ∧ joinsGood store.contents.fittedMask store.contents.joinMap = true := by
  simp [Store.good, Conf.inRange, and_assoc]

/-- Settles O3: the power-on state is written field by field from the store, whatever the state before; then the store
by whether it is good. -/
theorem powerOnStartsEveryBlock : Obligations.PowerOnStartsEveryBlock := by
  refine ⟨fun pins s => ⟨powerOnState s.pending s.cutCommit.freeCount s.cutCommit.config.store pins, rfl, rfl, rfl, rfl,
    rfl, rfl, rfl, rfl, rfl, rfl, rfl, freshClasses_get _, freshSfe_channel _, freshSfe_position _, rfl, rfl, rfl, rfl,
    rfl, rfl, rfl, rfl, freshSeats_of_position _, freshSeats_of_noPosition _, rfl, rfl, rfl, rfl, rfl, rfl, rfl, rfl,
    rfl, rfl, rfl, rfl, rfl, rfl, rfl, rfl, rfl⟩,
    fun pins s hcommit => ⟨_, powerOn_of_noCommit hcommit pins, rfl, fun hgood => ?_, fun hbad => ?_⟩⟩
  · rw [← store_good_iff] at hgood
    have hboot : bootConf s.config.store = s.config.store.contents := if_pos hgood
    exact ⟨hboot, hboot, congrArg not hgood⟩
  · rw [← store_good_iff] at hbad
    have hboot : bootConf s.config.store = Conf.default := if_neg hbad
    exact ⟨hboot, hboot, congrArg not (Bool.eq_false_iff.2 hbad)⟩

end Sys2Proof.Machine

namespace Sys2Proof.Machine

/-! ### The frames of the sleep agreement, handled (R182 to R185) -/

section RestartIdle

variable {s : State}

/-- R184: a restart of the idle timer makes the station refuse an open window, which it has not done yet. -/
def State.RestartRefuses (s : State) : Prop :=
  s.modeCtl.idle ≠ .stopped ∧ ∃ w, s.modeCtl.window = some w ∧ w.refusedHere = false

theorem restartIdle_of_refusal {w : Window} (hi : s.modeCtl.idle ≠ .stopped) (hw : s.modeCtl.window = some w)
    (hmark : w.refusedHere = false) : s.restartIdle = (s.idleMoved true).placeRefusal w s.recentReason := by
  rw [restartIdle_eq, if_pos ((timer_isRunning_iff _).2 hi)]
  exact testReasons_of_reason (s.idleMoved true) hw hmark (doorMoved_reason hi)

theorem restartIdle_of_noRefusal (h : ¬ s.RestartRefuses) : s.restartIdle = s.idleMoved true := by
  rw [restartIdle_eq]
  split
  · next hruns =>
    cases hw : s.modeCtl.window with
    | none => exact testReasons_of_noWindow (s.idleMoved true) hw
    | some w =>
      refine testReasons_of_refused (s.idleMoved true) hw (Bool.not_eq_false _ ▸ fun hmark => h ?_)
      exact ⟨(timer_isRunning_iff _).1 hruns, w, hw, hmark⟩
  · rfl

/-- R182, R184: what a restart of the idle timer leaves but for a refusal. -/
theorem restartIdle_frame (s : State) :
    s.restartIdle = { s with modeCtl := s.restartIdle.modeCtl, link := s.restartIdle.link, diag := s.restartIdle.diag }
      ∧ s.restartIdle.modeCtl
        = { s.modeCtl with idle := s.modeCtl.idle.restart, window := s.restartIdle.modeCtl.window }
      ∧ s.restartIdle.link.rxq = s.link.rxq := by
  have hidle := restartIdle_idle s
  obtain ⟨txq, window, idle, overflow, refusals, heq⟩ := restartIdle_refusalWrites s
  rw [heq] at hidle ⊢
  subst hidle
  exact ⟨rfl, rfl, rfl⟩

/-- R165, R167: an EVENT frame is taken where the straps are valid and the queue has room or can displace. -/
theorem offerOf_taken_iff {e : TxEntry} (hk : e.kind ≠ .state) (hk' : e.kind ≠ .diagReply) :
    (s.offerOf e).taken = true ↔ s.validStraps = true ∧ (s.link.txq.length < 6
      ∨ ∃ x ∈ s.link.txq, x.sending = false ∧ (x.kind = .state ∨ x.kind = .diagReply)) := by
  cases hv : s.validStraps with
  | false => simp [State.offerOf, hv]
  | true =>
    rw [offerOf_of_validStraps hv]
    by_cases hroom : s.link.txq.length < 6
    · simp [offerEntry_joins (.inl hk) hroom, hroom]
    by_cases hwaits : ∃ x ∈ s.link.txq, x.sending = false ∧ (x.kind = .state ∨ x.kind = .diagReply)
    · obtain ⟨rest, hrest⟩ := displace_isSome hwaits
      simp [offerEntry_displaces hk hk' (not_lt.1 hroom) hrest, hwaits]
    · have hnone : displace s.link.txq = none := by
        refine displace_eq_none (fun y hy => ?_) fun y hy => ?_
        all_goals
          by_contra hboth
          simp only [not_or, not_not, Bool.not_eq_true] at hboth
          exact hwaits ⟨y, hy, hboth.2, by simp [hboth.1]⟩
      simp [offerEntry_findsNoPlace hk (not_lt.1 hroom) hnone, hroom, hwaits]

theorem offerTx_refusalsSent (s : State) (e : TxEntry) :
    (s.offerTx e).diag.counters.refusalsSent = s.diag.counters.refusalsSent := by
  unfold State.offerTx
  split <;> rfl

/-- R184: REFUSALS_SENT counts a SLEEP_REFUSE that the queue takes. -/
theorem placeRefusal_diag (s : State) (w : Window) (reason : Reason) {e : TxEntry}
    (he : e = newEntry .sleepRefuse [toByte reason.code] none) :
    (¬ (s.offerOf e).taken = true → (s.placeRefusal w reason).diag = (s.offerTx e).diag)
      ∧ ((s.offerOf e).taken = true → (s.placeRefusal w reason).diag = { (s.offerTx e).diag with
          counters := { (s.offerTx e).diag.counters with
            refusalsSent :=
              if s.diag.counters.refusalsSent < 65535 then s.diag.counters.refusalsSent + 1 else 65535 } }) := by
  have hcounted : (s.placeRefusal w reason).diag = ((s.offerTx e).count fun k =>
      if (s.offerOf e).taken then { k with refusalsSent := saturatingSucc k.refusalsSent } else k).diag := by
    rw [he]
    rfl
  rw [hcounted]
  refine ⟨fun hrefused => ?_, fun htaken => ?_⟩
  · simp only [if_neg hrefused]
    rfl
  · simp only [if_pos htaken, State.count, setDiag_diag, offerTx_refusalsSent]
    rfl

end RestartIdle

/-- R161, R182: a handled ALERT restarts the idle timer once its place is free. -/
theorem alertHandled_of_handles {s : State} {f : RxFrame} (h : s.Handles f) (hk : f.kind = .alert) :
    exec .alertHandled s = .next (s.takeFrame f).restartIdle := by
  show execAlertHandled s = _
  exact handleFrame_of_handles s h hk _

/-- Settles O44: SLEEP_REFUSE and SLEEP_PROPOSE as they are handled, and the restart at an ALERT by whether it is
refused an open window. -/
theorem sleepFramesHandled : Obligations.SleepFramesHandled := by
  refine fun s f h => ⟨fun hk => ?_, fun hk => ?_, fun hk => ?_⟩
  · show execSleepRefuseHandled s = _
    exact (handleFrame_of_handles s h hk _).trans (congrArg _ (closeWindow_restartIdle _))
  · obtain ⟨hframe, hmode, hrxq⟩ := restartIdle_frame (s.takeFrame f)
    refine ⟨_, (s.takeFrame f).RestartRefuses, alertHandled_of_handles h hk, Iff.rfl, hframe, hmode, hrxq,
      fun hstays => restartIdle_of_noRefusal hstays, ?_⟩
    rintro ⟨hi, w', hw', hmark⟩ w reason e offered taken hw hreason he hoffered htaken
    obtain rfl : w' = w := Option.some.inj (hw'.symm.trans hw)
    replace hreason : reason = (s.takeFrame f).recentReason := hreason
    obtain ⟨hwindow, hlink, -⟩ := placeRefusal_writes ((s.takeFrame f).idleMoved true) w' reason
    obtain ⟨hrefused, hcounted⟩ := placeRefusal_diag ((s.takeFrame f).idleMoved true) w' reason he
    have hqueue : (((s.takeFrame f).idleMoved true).offerOf e).taken = true ↔ taken := by
      rw [htaken, offerOf_taken_iff (by simp [he, newEntry]) (by simp [he, newEntry])]
      rfl
    rw [restartIdle_of_refusal hi hw' hmark, ← hreason, hwindow, hlink]
    rw [hqueue] at hrefused hcounted
    subst he hoffered
    exact ⟨rfl, rfl, hrefused, hcounted⟩
  · show execSleepProposeHandled s = _
    exact handleFrame_of_handles s h hk _

end Sys2Proof.Machine

namespace Sys2Proof.Machine

/-! ### The left-behind alert (R191, R192) -/

theorem qualifies_iff (r : Record) :
    r.qualifies = true ↔ (r.cls = .small ∨ r.cls = .csOccupied) ∧ r.alert = .none := by
  simp [Record.qualifies, or_comm]

/-- R192: a qualifying record once its alert is raised; another record stands. -/
def Record.alerted (r : Record) : Record := if r.qualifies then { r with alert := .active 1 (.running 0) } else r

/-- R192: what the record that s holds at p offers to the transmit queue as its alert is raised: its first ALERT. -/
def State.offersFirst (s u : State) (p : Pos) : State :=
  match s.recordAt p with
  | some r => if r.qualifies then u.place .alert (alertPayload p r.cls 1) else u
  | none => u

section LeftBehind

variable {s u v : State} {p : Pos} {done : List Pos}

theorem offersFirst_of_qualifies {r : Record} (hr : s.recordAt p = some r) (hq : r.qualifies = true) :
    s.offersFirst u p = u.place .alert (alertPayload p r.cls 1) := by
  simp [State.offersFirst, hr, hq]

theorem offersFirst_of_others (h : ∀ r, s.recordAt p = some r → ¬ r.qualifies = true) : s.offersFirst u p = u := by
  unfold State.offersFirst
  split
  · next r hr => exact if_neg (h r hr)
  · rfl

/-- R165: what a frame offered leaves of the diagnosis goes by diagnosis, link and straps. -/
theorem offerTx_diag_of_same (hlink : v.link = u.link) (hstraps : v.straps = u.straps) (hdiag : v.diag = u.diag)
    (e : TxEntry) : (v.offerTx e).diag = (u.offerTx e).diag := by
  have hoffer : v.offerOf e = u.offerOf e := by
    rw [State.offerOf, State.offerOf, State.validStraps, State.validStraps, hlink, hstraps]
  simp only [State.offerTx, setDiag_diag, hoffer, hdiag]

/-- R192: the alerts of the positions done have been raised from the records of s, and u is what their ALERTs make of
link and diagnosis. -/
structure State.RaisesFirst (s : State) (done : List Pos) (v u : State) : Prop where
  link : v.link = u.link
  diag : v.diag = u.diag
  straps : v.straps = u.straps
  records : ∀ q, v.recordAt q = if q ∈ done then (s.recordAt q).map Record.alerted else s.recordAt q

theorem State.RaisesFirst.raise (h : s.RaisesFirst done v u) (hp : p ∉ done) :
    s.RaisesFirst (p :: done) (v.raiseAlert p) (s.offersFirst u p) := by
  have hr : v.recordAt p = s.recordAt p := (h.records p).trans (if_neg hp)
  by_cases hq : ∃ r, s.recordAt p = some r ∧ r.qualifies = true
  · obtain ⟨r, hs, hq⟩ := hq
    have hsent : v.raiseAlert p = v.sendAlert p r.cls 1 := by simp [State.raiseAlert, hr, hs, hq]
    rw [hsent, offersFirst_of_qualifies hs hq]
    refine ⟨offerTx_link_of_same h.link h.straps _, offerTx_diag_of_same h.link h.straps h.diag _, h.straps,
      fun q => ?_⟩
    refine (updateRecord_recordAt v p q _).trans ?_
    rw [hr, hs, h.records q]
    by_cases hqp : q = p
    · simp [hqp, hs, Record.alerted, hq]
    · simp [hqp]
  · have hnone : ∀ r, s.recordAt p = some r → ¬ r.qualifies = true := fun r hs hq' => hq ⟨r, hs, hq'⟩
    have hstays : v.raiseAlert p = v := by
      unfold State.raiseAlert
      split
      · next r hv => exact if_neg (hnone r (hr.symm.trans hv))
      · rfl
    rw [hstays, offersFirst_of_others hnone]
    refine ⟨h.link, h.diag, h.straps, fun q => ?_⟩
    rw [h.records q]
    by_cases hqp : q = p
    · subst hqp
      rw [if_neg hp, if_pos List.mem_cons_self]
      cases hs : s.recordAt q with
      | none => rfl
      | some r => simp [Record.alerted, hnone r hs]
    · simp [hqp]

/-- R192: with room at first for four ALERTs, each first ALERT of the positions done stands in the queue. -/
structure State.AlertsPlaced (s : State) (done : List Pos) (u : State) : Prop where
  valid : u.validStraps = true
  room : u.link.txq.length ≤ 2 + done.length
  placed : ∀ q ∈ done, ∀ r, s.recordAt q = some r → r.qualifies = true →
    newEntry .alert (alertPayload q r.cls 1) none ∈ u.link.txq

theorem State.AlertsPlaced.place (h : s.AlertsPlaced done u) (hroom : done.length < 4) :
    s.AlertsPlaced (p :: done) (s.offersFirst u p) := by
  have hlength := h.room
  by_cases hq : ∃ r, s.recordAt p = some r ∧ r.qualifies = true
  · obtain ⟨r, hs, hq⟩ := hq
    have hplaced : u.place .alert (alertPayload p r.cls 1) = { u with
        link := { u.link with txq := u.link.txq ++ [newEntry .alert (alertPayload p r.cls 1) none] } } :=
      offerTx_of_fits h.valid (offerEntry_joins (.inl (by simp [newEntry])) (by omega))
    rw [offersFirst_of_qualifies hs hq, hplaced]
    have hlonger : (u.link.txq ++ [newEntry .alert (alertPayload p r.cls 1) none]).length
        ≤ 2 + (p :: done).length := by
      simp only [List.length_append, List.length_cons, List.length_nil]
      omega
    refine ⟨h.valid, hlonger, fun q hmem r' hr' hq' => List.mem_append.2 ?_⟩
    rcases List.mem_cons.1 hmem with rfl | hdone
    · obtain rfl : r = r' := Option.some.inj (hs.symm.trans hr')
      exact .inr List.mem_cons_self
    · exact .inl (h.placed q hdone r' hr' hq')
  · have hnone : ∀ r, s.recordAt p = some r → ¬ r.qualifies = true := fun r hs hq' => hq ⟨r, hs, hq'⟩
    rw [offersFirst_of_others hnone]
    refine ⟨h.valid, hlength.trans (by simp), fun q hmem r' hr' hq' => ?_⟩
    rcases List.mem_cons.1 hmem with rfl | hdone
    · exact absurd hq' (hnone r' hr')
    · exact h.placed q hdone r' hr' hq'

/-- R192: the link and the diagnosis once every first ALERT has been offered, in position order. -/
def State.firstAlerts (s : State) : State :=
  s.offersFirst (s.offersFirst (s.offersFirst (s.offersFirst s.requestWake 0) 1) 2) 3

theorem leftBehind_raisesFirst (s : State) : s.RaisesFirst [3, 2, 1, 0] s.leftBehind s.firstAlerts := by
  have hstart : s.RaisesFirst []
      (s.requestWake.leaveWatch.setModeCtl { s.requestWake.leaveWatch.modeCtl with leftBehindMs := 0 }) s.requestWake :=
    ⟨by simp, by simp, by simp, fun q => by simp [State.recordAt]⟩
  exact (((hstart.raise (p := 0) (by decide)).raise (p := 1) (by decide)).raise (p := 2) (by decide)).raise (p := 3)
    (by decide)

theorem firstAlerts_placed (hv : s.validStraps = true) (hroom : s.link.txq.length ≤ 2) :
    s.AlertsPlaced [3, 2, 1, 0] s.firstAlerts := by
  have hstart : s.AlertsPlaced [] s.requestWake := ⟨hv, hroom, by simp⟩
  exact (((hstart.place (p := 0) (by decide)).place (p := 1) (by decide)).place (p := 2) (by decide)).place (p := 3)
    (by decide)

theorem leftBehind_modeCtl (s : State) :
    s.leftBehind.modeCtl.mode = .active ∧ s.leftBehind.modeCtl.leftBehindMs = 0 := by
  simp [State.leftBehind, positionsInOrder, leaveWatch_writes]

end LeftBehind

/-- R189: the watch timer at 3600 s ends WATCH in STANDBY. -/
theorem watchTimerExpiry_of_reached {s : State} (hp : s.powered = true) (hm : s.modeCtl.mode = .watch)
    (h : s.modeCtl.watch.Reached 3600000) : exec .watchTimerExpiry s = .next s.enterStandby := by
  have hat : s.modeCtl.watch.isAt watchLimitMs = true := (reached_iff_isAt _ _).1 h
  show execWatchTimerExpiry s = _
  rw [execWatchTimerExpiry, hp, hm, hat]
  rfl

theorem watchTimerExpiry_of_not_reached {s : State} (h : ¬ s.modeCtl.watch.Reached 3600000) :
    exec .watchTimerExpiry s = .next s := by
  have hat : ¬ s.modeCtl.watch.isAt watchLimitMs = true := mt (reached_iff_isAt _ _).2 h
  show execWatchTimerExpiry s = _
  rw [execWatchTimerExpiry, onlyIf_next, if_neg (by simp [hat])]

/-- R191: below T_left nothing happens. -/
theorem leftBehindExpiry_of_below {s : State} (h : s.modeCtl.leftBehindMs < 1000 * s.config.running.tLeft) :
    exec .leftBehindExpiry s = .next s := by
  show execLeftBehindExpiry s = _
  rw [execLeftBehindExpiry, onlyIf_next, if_neg (by simp [seconds, not_le.2 h])]

theorem leftBehindExpiry_of_reached {s : State} (hp : s.powered = true) (hm : s.modeCtl.mode = .watch)
    (hq : ∃ p r, s.recordAt p = some r ∧ r.qualifies = true)
    (h : 1000 * s.config.running.tLeft ≤ s.modeCtl.leftBehindMs) :
    exec .leftBehindExpiry s = .next s.leftBehind := by
  have hany : s.table.anyQualifies = true := Bool.not_eq_false _ ▸ fun hnone => by
    obtain ⟨p, r, hr, hr'⟩ := hq
    exact absurd ((anyQualifies_eq_false s).1 hnone p r hr) (by simp [hr'])
  show execLeftBehindExpiry s = _
  rw [execLeftBehindExpiry, onlyIf_next, if_pos (by simp [State.leftBehindRuns, hp, hm, hany, seconds, h])]

/-- R192: the blocks that the left-behind alert leaves. -/
theorem leftBehind_frame (s : State) :
    s.leftBehind = { s with
      modeCtl := s.leftBehind.modeCtl, sweep := s.leftBehind.sweep, emission := s.leftBehind.emission
      lamps := s.leftBehind.lamps, duty := s.leftBehind.duty, link := s.leftBehind.link
      table := s.leftBehind.table, diag := s.leftBehind.diag } := by
  obtain ⟨hpending, hpowered, hfree, hstraps, hconfig, hsfe, hclasses, hdepartures, hvehicle⟩ := leftBehind_keeps s
  rw [← hpending, ← hpowered, ← hfree, ← hstraps, ← hconfig, ← hsfe, ← hclasses, ← hdepartures, ← hvehicle]

/-! ### The alert period (R192, R193) -/

section AlertPeriod

variable {s : State} {p : Pos} {r : Record} {n : Nat} {timer : Timer}

theorem alertPeriodExpiry_of_active (hp : s.powered = true) (hm : s.modeCtl.mode = .active) (hr : s.recordAt p = some r)
    (ha : r.alert = .active n timer) :
    exec (.alertPeriodExpiry p) s = .next (if timer.isAt 2000 = true then
      (if n < 60 then s.sendAlert p r.cls (n + 1) else s.endAlert p .expired) else s) := by
  show execAlertPeriodExpiry p s = _
  rw [execAlertPeriodExpiry, onlyIf_next, if_pos (by simp [hp, hm])]
  simp only [State.alertPeriod, hr, ha]
  rfl

/-- R192: the alert with its next count, and its ALERT offered. -/
theorem sendAlert_of_record (hr : s.recordAt p = some r) (count : Nat) :
    s.sendAlert p r.cls count = (s.putRecord p { r with alert := .active count (.running 0) }).place .alert
      [toByte (p.val * 64 + r.cls.code * 4), toByte count] := by
  rw [State.sendAlert, updateRecord_of_some s hr]
  rfl

theorem endAlert_of_active (hr : s.recordAt p = some r) (ha : r.alert = .active n timer) (after : Alert) :
    s.endAlert p after = (s.putRecord p { r with alert := after }).withdrawAlerts p := by
  have hactive : r.alert.isActive = true := by rw [ha]; rfl
  simp only [State.endAlert, hr, hactive, if_true, updateRecord_of_some s hr]

end AlertPeriod

end Sys2Proof.Machine

namespace Sys2Proof.Machine

/-! ### A WAKE pulse that is pending stays pending through a completion (R159) -/

section KeepsWakePending

variable (s : State)

@[simp] theorem offerTx_wakePending (e : TxEntry) : (s.offerTx e).link.wakePending = s.link.wakePending := rfl

@[simp] theorem place_wakePending (kind : FrameKind) (payload : List Byte) :
    (s.place kind payload).link.wakePending = s.link.wakePending := rfl

@[simp] theorem withdrawAlerts_wakePending (p : Pos) : (s.withdrawAlerts p).link.wakePending = s.link.wakePending := rfl

@[simp] theorem placeState_wakePending : s.placeState.link.wakePending = s.link.wakePending := rfl

@[simp] theorem endClaimOf_wakePending (r : Record) : (s.endClaimOf r).link.wakePending = s.link.wakePending := by
  unfold State.endClaimOf
  split <;> rfl

@[simp] theorem withdrawAlertsOf_wakePending (p : Pos) (r : Record) :
    (s.withdrawAlertsOf p r).link.wakePending = s.link.wakePending := by
  unfold State.withdrawAlertsOf
  split <;> simp

@[simp] theorem searchOrSettle_wakePending (p : Pos) : (s.searchOrSettle p).link.wakePending = s.link.wakePending := by
  unfold State.searchOrSettle State.takeMatch
  repeat' split
  all_goals simp

@[simp] theorem arrive_wakePending (p : Pos) (fromUnscanned : Bool) :
    (s.arrive p fromUnscanned).link.wakePending = s.link.wakePending := by
  unfold State.arrive
  split <;> simp

@[simp] theorem depart_wakePending (p : Pos) : (s.depart p).link.wakePending = s.link.wakePending := by
  unfold State.depart State.handOn
  dsimp only
  repeat' split
  all_goals simp

@[simp] theorem takeSeatChange_wakePending (p : Pos) (change : SeatChange) :
    (s.takeSeatChange p change).link.wakePending = s.link.wakePending := by
  unfold State.takeSeatChange
  split <;> simp

@[simp] theorem takeClasses_wakePending (before : Four Cls) (test : Bool) :
    (s.takeClasses before test).link.wakePending = s.link.wakePending := by
  simp [State.takeClasses, positionsInOrder]

@[simp] theorem latchOpened_wakePending : s.latchOpened.link.wakePending = s.link.wakePending := by
  unfold State.latchOpened
  split <;> simp

@[simp] theorem takeLatch_wakePending (event : LatchEvent) :
    (s.takeLatch event).link.wakePending = s.link.wakePending := by
  unfold State.takeLatch
  split <;> simp

@[simp] theorem sendPendingRelease_wakePending : s.sendPendingRelease.link.wakePending = s.link.wakePending := by
  unfold State.sendPendingRelease
  split <;> simp

@[simp] theorem tableStep_wakePending (before : Four Cls) (test : Bool) (o : SensingOutcome) :
    (s.tableStep before test o).link.wakePending = s.link.wakePending := by
  simp [State.tableStep]

@[simp] theorem reportStep_wakePending : s.reportStep.link.wakePending = s.link.wakePending := by
  have hplaced : s.rebuildReport.placeIfCalled.link.wakePending = s.link.wakePending := by
    unfold State.placeIfCalled
    split <;> simp
  simpa [State.reportStep] using hplaced

theorem beforeStepSix_wakePending (number : Word16) (test : Bool) (tagAt : Option Pos) (r : SweepReadings) :
    (s.beforeStepSix number test tagAt r).link.wakePending = s.link.wakePending := by
  simp [State.beforeStepSix, State.classifiedBy]

theorem afterReasons_wakePending (c : OwnChanges) : (s.afterReasons c).link.wakePending = s.link.wakePending := by
  obtain h | ⟨w, reason, -, h⟩ := afterReasons_cases s c
  all_goals
    rw [h]
    rfl

theorem afterReasons_straps (c : OwnChanges) : (s.afterReasons c).straps = s.straps := by
  have hbefore : (s.beforeReasons c).straps = s.straps := rfl
  obtain h | ⟨w, reason, -, h⟩ := afterReasons_cases s c
  · rw [h, hbefore]
  · rw [h]
    simpa using hbefore

end KeepsWakePending

/-! ### Step 6 in WATCH (R189, R190) -/

/-- R29: step 6 up to what it does in WATCH alone. -/
def State.beforeWatchStep (s : State) (c : OwnChanges) : State := (s.afterReasons c).testLeftBehind

theorem modeStep_eq_watchStep (s : State) (c : OwnChanges) :
    s.modeStep c = (s.beforeWatchStep c).watchStep (c.belt || c.latch.isChange) := by
  have hreasons : (s.endAlertsByClass.idleStep (c.cls || c.belt)).latchReason c.latch = s.afterReasons c := by
    rw [endAlertsByClass_eq, latchReason_idleStep]
    rfl
  rw [State.modeStep, hreasons]
  rfl

/-- R190: what an own change in WATCH leaves: ACTIVE, with a WAKE pulse asked for. -/
theorem requestWake_leaveWatch_writes (u : State) :
    u.requestWake.leaveWatch.modeCtl.mode = .active ∧ u.requestWake.leaveWatch.modeCtl.vacantRun = 0
      ∧ u.requestWake.leaveWatch.modeCtl.watch = .stopped
      ∧ u.requestWake.leaveWatch.link.wakePending = (u.link.wakePending || u.validStraps)
      ∧ u.requestWake.leaveWatch.emission.lastPlaced = none := by
  simp [leaveWatch_writes, State.requestWake]

section Watch

variable {w : State} (hm : w.modeCtl.mode = .watch)
include hm

theorem vacantStep_of_occupied (h : w.table.anyOccupant = true) :
    w.vacantStep = w.setModeCtl { w.modeCtl with vacantRun := 0 } := by
  rw [State.vacantStep, if_pos hm, if_pos h]

theorem vacantStep_of_below (h : ¬ w.table.anyOccupant = true) (hrun : w.modeCtl.vacantRun + 1 < 30) :
    w.vacantStep = w.setModeCtl { w.modeCtl with vacantRun := w.modeCtl.vacantRun + 1 } := by
  rw [State.vacantStep, if_pos hm, if_neg h, if_neg (show ¬ vacantLimit ≤ _ from not_le.2 hrun)]

theorem vacantStep_of_end (h : ¬ w.table.anyOccupant = true) (hrun : 30 ≤ w.modeCtl.vacantRun + 1) :
    w.vacantStep = w.enterStandby := by
  rw [State.vacantStep, if_pos hm, if_neg h, if_pos (show vacantLimit ≤ _ from hrun)]

omit hm in
/-- With no own change the order of the two is of no account. -/
theorem watchStep_of_noChange : w.watchStep false = w.vacantStep := by
  have hstays : ∀ u : State, u.wakeOthers false = u := fun u => if_neg (by simp)
  rw [State.watchStep, hstays, hstays, ite_self]

theorem wakeOthers_of_change : w.wakeOthers true = w.requestWake.leaveWatch := if_pos ⟨hm, rfl⟩

/-- R190: what an own change leaves of a station that is still in WATCH, whichever comes first. -/
theorem watchStep_of_change (h : w.table.anyOccupant = true ∨ w.modeCtl.vacantRun + 1 < 30) :
    (w.watchStep true).modeCtl.mode = .active ∧ (w.watchStep true).modeCtl.vacantRun = 0
      ∧ (w.watchStep true).modeCtl.watch = .stopped
      ∧ (w.watchStep true).link.wakePending = (w.link.wakePending || w.validStraps)
      ∧ (w.watchStep true).emission.lastPlaced = none := by
  unfold State.watchStep
  split
  · obtain ⟨run, hvacant⟩ : ∃ run, w.vacantStep = w.setModeCtl { w.modeCtl with vacantRun := run } := by
      by_cases hoccupied : w.table.anyOccupant = true
      · exact ⟨0, vacantStep_of_occupied hm hoccupied⟩
      · exact ⟨_, vacantStep_of_below hm hoccupied (h.resolve_left hoccupied)⟩
    rw [hvacant, wakeOthers_of_change (by exact hm)]
    exact requestWake_leaveWatch_writes _
  · obtain ⟨hactive, hwrites⟩ := requestWake_leaveWatch_writes w
    have hstays : w.requestWake.leaveWatch.vacantStep = w.requestWake.leaveWatch := if_neg (by simp [hactive])
    rw [wakeOthers_of_change hm, hstays]
    exact ⟨hactive, hwrites⟩

/-- R189, R190, log entry 6: where both fall together, the station ends in STANDBY or in ACTIVE. -/
theorem watchStep_of_changeAtEnd (h : ¬ w.table.anyOccupant = true) (hrun : 30 ≤ w.modeCtl.vacantRun + 1) :
    (w.watchStep true).modeCtl.mode = .standby ∨ (w.watchStep true).modeCtl.mode = .active := by
  unfold State.watchStep
  split
  · left
    rw [vacantStep_of_end hm h hrun]
    have hstandby : w.enterStandby.modeCtl.mode = .standby := by simp [enterStandby_writes]
    rw [State.wakeOthers, if_neg (by simp [hstandby]), hstandby]
  · right
    have hactive : w.requestWake.leaveWatch.modeCtl.mode = .active := by simp [leaveWatch_writes]
    rw [wakeOthers_of_change hm, State.vacantStep, if_neg (by simp [hactive]), hactive]

end Watch

/-- R21, R190: a latch event is a change exactly where a latch state held before has moved. -/
theorem latchStep_isChange_iff (latch : Option Latch) (run : Nat) (reading : Latch) :
    (latchStep latch run reading).2.2.isChange = true ↔ latch ≠ none ∧ (latchStep latch run reading).1 ≠ latch := by
  cases latch with
  | none => simp [latchStep, LatchEvent.isChange]
  | some level =>
    by_cases hsame : level = reading
    · subst hsame
      simp [latchStep_same, LatchEvent.isChange]
    · rw [latchStep_opposite hsame]
      split <;> simp [LatchEvent.isChange, Ne.symm hsame]

theorem anyOccupant_of_cls {a b : Positions} (h : a.seats.map Seat.cls = b.seats.map Seat.cls) :
    a.anyOccupant = b.anyOccupant := by
  have hcls : ∀ p, (a.seats.get p).cls = (b.seats.get p).cls := fun p => by
    simpa using congrArg (Four.get · p) h
  rw [Bool.eq_iff_iff, Positions.anyOccupant, Positions.anyOccupant, Four.any_iff, Four.any_iff]
  simp only [hcls]

section Completion

variable (s : State) (number : Word16) (test : Bool) (tagAt : Option Pos) (r : SweepReadings)

/-- R29: the completion up to what its step 6 does in WATCH alone. -/
def State.beforeWatch : State := (s.beforeStepSix number test tagAt r).beforeWatchStep (s.changesBy number test tagAt r)

/-- R190: an own belt or latch change of the completion. -/
def State.ownChangeBy : Bool :=
  (s.changesBy number test tagAt r).belt || (s.changesBy number test tagAt r).latch.isChange

theorem completeSweep_eq_watchStep :
    s.completeSweep number test tagAt r
      = ((s.beforeWatch number test tagAt r).watchStep (s.ownChangeBy number test tagAt r)).endFlight := by
  rw [completeSweep_eq_modeStep, modeStep_eq_watchStep]
  rfl

/-- R29: of mode, vacant run, pending pulse and straps the steps before leave all. -/
theorem beforeWatch_keeps :
    (s.beforeWatch number test tagAt r).modeCtl.mode = s.modeCtl.mode
      ∧ (s.beforeWatch number test tagAt r).modeCtl.vacantRun = s.modeCtl.vacantRun
      ∧ (s.beforeWatch number test tagAt r).link.wakePending = s.link.wakePending
      ∧ (s.beforeWatch number test tagAt r).validStraps = s.validStraps := by
  obtain ⟨hlowered, -⟩ := beforeStepSix_lowered s number test tagAt r
  have hreasons := afterReasons_modeCtl (s.beforeStepSix number test tagAt r) (s.changesBy number test tagAt r)
  rw [hlowered] at hreasons
  have hmode := congrArg ModeCtl.mode hreasons
  have hrun := congrArg ModeCtl.vacantRun hreasons
  have hstraps : (s.beforeStepSix number test tagAt r).straps = s.straps := by
    simp [State.beforeStepSix, State.classifiedBy]
  exact ⟨hmode, hrun, (afterReasons_wakePending _ _).trans (beforeStepSix_wakePending s number test tagAt r),
    congrArg strapsValid ((afterReasons_straps _ _).trans hstraps)⟩

theorem beforeWatch_anyOccupant :
    (s.beforeWatch number test tagAt r).table.anyOccupant
      = (s.completeSweep number test tagAt r).table.anyOccupant := by
  rw [completeSweep_eq_watchStep]
  exact anyOccupant_of_cls (by simp)

theorem ownChangeBy_iff :
    s.ownChangeBy number test tagAt r = true
      ↔ (∃ p, ((s.completeSweep number test tagAt r).sfe.positions.get p).belt ≠ (s.sfe.positions.get p).belt)
        ∨ (s.sfe.latch ≠ none ∧ (s.completeSweep number test tagAt r).sfe.latch ≠ s.sfe.latch) := by
  obtain ⟨-, hbelt, hlatch⟩ := ownChanges_iff (s.table.seats.map Seat.cls)
    ((s.classifiedBy number test tagAt r).table.seats.map Seat.cls) (sense s.config.running number test tagAt r s.sfe)
  rw [State.ownChangeBy, Bool.or_eq_true, State.changesBy, hbelt, hlatch, (completeSweep_latch s r number test tagAt).1]
  refine or_congr (exists_congr fun p => ?_) ?_
  · rw [completeSweep_positions_get]
    simp [sense]
  · exact latchStep_isChange_iff _ _ _

end Completion

/-- R189, R190: what a completion in WATCH makes of the mode, by its own changes, its occupants and the vacant run. -/
theorem completeSweep_inWatch (s : State) (number : Word16) (test : Bool) (tagAt : Option Pos) (r : SweepReadings)
    {t : State} (ht : t = s.completeSweep number test tagAt r) (hm : s.modeCtl.mode = .watch) :
    (s.ownChangeBy number test tagAt r = false →
        (t.table.anyOccupant = true → t.modeCtl.mode = .watch ∧ t.modeCtl.vacantRun = 0)
        ∧ (¬ t.table.anyOccupant = true → s.modeCtl.vacantRun + 1 < 30 →
          t.modeCtl.mode = .watch ∧ t.modeCtl.vacantRun = s.modeCtl.vacantRun + 1)
        ∧ (¬ t.table.anyOccupant = true → 30 ≤ s.modeCtl.vacantRun + 1 → t.modeCtl.mode = .standby))
      ∧ (s.ownChangeBy number test tagAt r = true →
        (t.table.anyOccupant = true ∨ s.modeCtl.vacantRun + 1 < 30 →
          t.modeCtl.mode = .active ∧ t.modeCtl.vacantRun = 0 ∧ t.modeCtl.watch = .stopped
            ∧ t.link.wakePending = (s.link.wakePending || s.validStraps) ∧ t.emission.lastPlaced = none)
        ∧ (¬ t.table.anyOccupant = true → 30 ≤ s.modeCtl.vacantRun + 1 →
          t.modeCtl.mode = .standby ∨ t.modeCtl.mode = .active)) := by
  obtain ⟨hmode, hrun, hwake, hstraps⟩ := beforeWatch_keeps s number test tagAt r
  have hoccupied := beforeWatch_anyOccupant s number test tagAt r
  rw [← ht] at hoccupied
  rw [hm] at hmode
  rw [completeSweep_eq_watchStep] at ht
  rw [← hoccupied, ← hrun, ← hwake, ← hstraps]
  generalize s.beforeWatch number test tagAt r = w at *
  refine ⟨fun hown => ?_, fun hown => ?_⟩
  · rw [hown, watchStep_of_noChange] at ht
    subst ht
    refine ⟨fun h => ?_, fun h hlt => ?_, fun h hle => ?_⟩
    · rw [vacantStep_of_occupied hmode h]
      exact ⟨hmode, rfl⟩
    · rw [vacantStep_of_below hmode h hlt]
      exact ⟨hmode, rfl⟩
    · rw [vacantStep_of_end hmode h hle]
      simp [enterStandby_writes]
  · rw [hown] at ht
    subst ht
    exact ⟨watchStep_of_change hmode, watchStep_of_changeAtEnd hmode⟩

/-- R192: the left-behind alert, by what each position offers first. -/
theorem leftBehind_alerts (s : State) {first : State → Pos → State} (hfirst : first = s.offersFirst) {t u : State}
    (ht : t = s.leftBehind)
    (hu : u = first (first (first (first
      { s with link := { s.link with wakePending := s.link.wakePending || s.validStraps } } 0) 1) 2) 3) :
    t.link = u.link ∧ t.diag = u.diag
      ∧ (s.validStraps = true → s.link.txq.length ≤ 2 → ∀ p r, s.recordAt p = some r →
          (r.cls = .small ∨ r.cls = .csOccupied) → r.alert = .none →
          newEntry .alert [toByte (p.val * 64 + r.cls.code * 4), 1] none ∈ t.link.txq)
      ∧ ∀ p r, s.recordAt p = some r →
          (((r.cls = .small ∨ r.cls = .csOccupied) ∧ r.alert = .none) →
            t.recordAt p = some { r with alert := .active 1 (.running 0) })
          ∧ (¬ ((r.cls = .small ∨ r.cls = .csOccupied) ∧ r.alert = .none) → t.recordAt p = some r) := by
  have hall : ∀ p : Pos, p ∈ ([3, 2, 1, 0] : List Pos) := by decide
  obtain rfl : u = s.firstAlerts := by
    rw [hu, hfirst]
    rfl
  obtain ⟨hlink, hdiag, -, hrecords⟩ := leftBehind_raisesFirst s
  subst ht
  refine ⟨hlink, hdiag, fun hv hroom p r hr hcls halert => ?_, fun p r hr => ?_⟩
  · rw [hlink]
    exact (firstAlerts_placed hv hroom).placed p (hall p) r hr ((qualifies_iff r).2 ⟨hcls, halert⟩)
  · rw [hrecords p, if_pos (hall p), hr, ← qualifies_iff]
    exact ⟨fun hq => congrArg some (if_pos hq), fun hq => congrArg some (if_neg hq)⟩

/-- Settles O46: the timers of WATCH and of an alert at and below their limits, then a completion in WATCH by its
step 6. -/
theorem watchLimitsAndAlerts : Obligations.WatchLimitsAndAlerts := by
  refine ⟨fun s first hp hfirst => ⟨fun hm h => ?_, watchTimerExpiry_of_not_reached, leftBehindExpiry_of_below,
    fun hm hq h => ?_, fun p r n timer hm hr ha => ?_⟩, fun s r number test tagAt ms hp hf hm => ?_⟩
  · exact ⟨_, watchTimerExpiry_of_reached hp hm h, enterStandby_entersStandby s, enterStandby_rxq s⟩
  · have hoffers : first = s.offersFirst := by
      funext u p
      obtain ⟨hplaces, hstays⟩ := hfirst u p
      by_cases hqualifies : ∃ r, s.recordAt p = some r ∧ r.qualifies = true
      · obtain ⟨r, hr, hq⟩ := hqualifies
        obtain ⟨hcls, halert⟩ := (qualifies_iff r).1 hq
        exact (hplaces r hr hcls halert).trans (offersFirst_of_qualifies hr hq).symm
      · have hnone : ∀ r, s.recordAt p = some r → ¬ r.qualifies = true := fun r hr hq => hqualifies ⟨r, hr, hq⟩
        exact (hstays fun r hr => mt (qualifies_iff r).2 (hnone r hr)).trans (offersFirst_of_others hnone).symm
    obtain ⟨hmode, hms⟩ := leftBehind_modeCtl s
    exact ⟨_, _, leftBehindExpiry_of_reached hp hm hq h, hmode, hms, leftBehind_frame s, rfl,
      leftBehind_alerts s hoffers rfl rfl⟩
  · rw [alertPeriodExpiry_of_active hp hm hr ha, reached_iff_isAt]
    refine ⟨fun h => by rw [if_neg h], fun hn h => ?_, fun hn h => ?_⟩
    · rw [if_pos h, if_pos hn, sendAlert_of_record hr]
    · rw [if_pos h, if_neg (not_lt.2 hn), endAlert_of_active hr ha]
  · obtain ⟨hstays, hchanges⟩ := completeSweep_inWatch s number test tagAt r rfl hm
    refine ⟨_, (s.completeSweep number test tagAt r).table.anyOccupant = true, s.ownChangeBy number test tagAt r = true,
      sweepCompletion_of_periodic hp hf, anyOccupant_iff _, ownChangeBy_iff s number test tagAt r, fun hown => ?_,
      fun hown => ?_, fun hown => ?_, fun hown => ?_, fun hown => ?_⟩
    · exact (hstays (Bool.eq_false_iff.2 hown)).1
    · exact (hstays (Bool.eq_false_iff.2 hown)).2.1
    · exact (hstays (Bool.eq_false_iff.2 hown)).2.2
    · exact (hchanges hown).1
    · exact (hchanges hown).2

end Sys2Proof.Machine

namespace Sys2Proof.Machine

/-! ### Loss of supply (R208) -/

/-- R208: the store of a cut-off commit never carries the sum of its contents. -/
theorem cutOffStore_sum_ne (free : Nat) : (cutOffStore free).sum ≠ (cutOffStore free).contents.sum := by
  unfold cutOffStore
  dsimp only
  split
  · next heq =>
    rw [heq]
    bv_omega
  · assumption

theorem cutCommit_of_stopped {s : State} (h : s.diag.commit = .stopped) : s.cutCommit = s :=
  if_neg (by simp [h, Timer.isRunning])

theorem cutCommit_store {s : State} (h : s.diag.commit ≠ .stopped) :
    s.cutCommit.config.store = cutOffStore s.freeCount := by
  rw [State.cutCommit, if_pos ((timer_isRunning_iff _).2 h)]
  rfl

/-- Settles O4: the store of a cut-off commit where one runs, the state itself where none does; then the supply goes. -/
theorem lossOfSupplyCutsCommit : Obligations.LossOfSupplyCutsCommit := by
  intro s hp
  refine ⟨s.cutCommit.unpowered, ?_, rfl, fun hruns => ?_, fun hidle => ?_, rfl, rfl, rfl, rfl⟩
  · show execLossOfSupply s = _
    rw [execLossOfSupply, onlyIf_next, if_pos hp]
  · show s.cutCommit.config.store.sum ≠ s.cutCommit.config.store.contents.sum
    rw [cutCommit_store hruns]
    exact cutOffStore_sum_ne s.freeCount
  · show s.cutCommit.config = s.config
    rw [cutCommit_of_stopped hidle]

end Sys2Proof.Machine

namespace Sys2Proof.Machine

/-! ### The answer to a query (R204) -/

section Queries

variable {s : State} {f : RxFrame} {item arg : Nat}

/-- R204: the reply carries four data bytes, 0 where fewer are given. -/
theorem reply_noData (s : State) (item : Nat) (result : Result) :
    s.reply item result [] = s.reply item result [0, 0, 0, 0] := rfl

theorem reply_threeBytes (s : State) (item : Nat) (result : Result) (a b c : Byte) :
    s.reply item result [a, b, c] = s.reply item result [a, b, c, 0] := rfl

/-- R204: this command is the read query of this item, with these data. -/
def ReadQuery (i : Instr) (item : Nat) (data : Nat → State → Option (List Byte)) : Prop :=
  ∀ s, exec i s = s.handleQuery item fun arg s => s.answerRead item (data arg s)

variable {i : Instr} {data : Nat → State → Option (List Byte)}

/-- R204: a read query whose argument is allowed is answered OK with its data. -/
theorem ReadQuery.ok_of_asked (hread : ReadQuery i item data) (h : s.Asked f item arg) {bytes : List Byte}
    (hdata : data arg (s.took f) = some bytes) : exec i s = .next ((s.took f).reply item .ok bytes) := by
  rw [hread, handleQuery_of_asked s h, hdata]
  rfl

/-- R204: a read query whose argument lies outside the item is answered BAD_ITEM. -/
theorem ReadQuery.badItem_of_asked (hread : ReadQuery i item data) (h : s.Asked f item arg)
    (hdata : data arg (s.took f) = none) : exec i s = .next ((s.took f).reply item .badItem []) := by
  rw [hread, handleQuery_of_asked s h, hdata]
  rfl

theorem readCapture_readQuery : ReadQuery .readCapture 1 fun arg s => s.diag.capturePart arg := fun _ => rfl

theorem readPosition_readQuery : ReadQuery .readPosition 4 fun arg s => s.positionData arg := fun _ => rfl

theorem readRoster_readQuery : ReadQuery .readRoster 6 fun arg s => s.rosterData arg := fun _ => rfl

theorem readConfig_readQuery : ReadQuery .readConfig 7 fun arg s => s.config.itemData arg := fun _ => rfl

end Queries

/-! ### READ_CAPTURE (R202, R205) -/

section Captures

/-- R205: the state byte and the report of a capture that is not EMPTY. -/
theorem capture_held {ρ : Type} {c : Capture ρ} {r : ρ} {code : Byte}
    (h : (c = .softHeld r ∧ code = 1) ∨ (c = .locked r false ∧ code = 2) ∨ (c = .locked r true ∧ code = 130)) :
    c.report = some r ∧ toByte c.stateCode = code := by
  rcases h with ⟨rfl, rfl⟩ | ⟨rfl, rfl⟩ | ⟨rfl, rfl⟩
  all_goals exact ⟨rfl, rfl⟩

variable {s : State} {f : RxFrame} {arg part : Nat}

/-- R205: without bit 4 the argument names a part of the measurement capture. -/
theorem readCapture_meas (h : s.Asked f 1 arg) (hbit : arg.testBit 4 = false) (hpart : arg % 4 = part) :
    (measPart s.diag.meas part = none → exec .readCapture s = .next ((s.took f).reply 1 .badItem []))
      ∧ ∀ bytes, measPart s.diag.meas part = some bytes →
        exec .readCapture s = .next ((s.took f).reply 1 .ok bytes) := by
  have hnames : (s.took f).diag.capturePart arg = measPart s.diag.meas part := by
    rw [Diag.capturePart, namesLink, if_neg (by simp [hbit]), hpart]
    rfl
  exact ⟨fun hnone => readCapture_readQuery.badItem_of_asked h (hnames.trans hnone),
    fun _ hsome => readCapture_readQuery.ok_of_asked h (hnames.trans hsome)⟩

/-- R205: with bit 4 it names a part of the link capture. -/
theorem readCapture_link (h : s.Asked f 1 arg) (hbit : arg.testBit 4 = true) (hpart : arg % 4 = part) :
    (linkPart s.diag.link part = none → exec .readCapture s = .next ((s.took f).reply 1 .badItem []))
      ∧ ∀ bytes, linkPart s.diag.link part = some bytes →
        exec .readCapture s = .next ((s.took f).reply 1 .ok bytes) := by
  have hnames : (s.took f).diag.capturePart arg = linkPart s.diag.link part := by
    rw [Diag.capturePart, namesLink, if_pos hbit, hpart]
    rfl
  exact ⟨fun hnone => readCapture_readQuery.badItem_of_asked h (hnames.trans hnone),
    fun _ hsome => readCapture_readQuery.ok_of_asked h (hnames.trans hsome)⟩

/-- R205: an EMPTY measurement capture reads as 0 in its three parts. -/
theorem readCapture_meas_of_empty (h : s.Asked f 1 arg) (hbit : arg.testBit 4 = false) (hpart : arg % 4 < 3)
    (hempty : s.diag.meas = .empty) : exec .readCapture s = .next ((s.took f).reply 1 .ok [0, 0, 0, 0]) := by
  obtain ⟨-, hok⟩ := readCapture_meas h hbit rfl
  rw [hempty] at hok
  obtain hp | hp | hp : arg % 4 = 0 ∨ arg % 4 = 1 ∨ arg % 4 = 2 := by omega
  · exact hok _ (by rw [hp]; rfl)
  · exact hok [] (by rw [hp]; rfl)
  · exact hok [] (by rw [hp]; rfl)

theorem readCapture_link_of_empty (h : s.Asked f 1 arg) (hbit : arg.testBit 4 = true) (hpart : arg % 4 < 2)
    (hempty : s.diag.link = .empty) : exec .readCapture s = .next ((s.took f).reply 1 .ok [0, 0, 0, 0]) := by
  obtain ⟨-, hok⟩ := readCapture_link h hbit rfl
  rw [hempty] at hok
  obtain hp | hp : arg % 4 = 0 ∨ arg % 4 = 1 := by omega
  · exact hok _ (by rw [hp]; rfl)
  · exact hok [] (by rw [hp]; rfl)

/-- R205: the link capture has two parts. -/
theorem linkPart_of_two_le (c : Capture LinkReport) (h : 2 ≤ part) : linkPart c part = none := by
  match part, h with
  | _ + 2, _ => rfl

/-- R205: the three parts of a measurement capture that holds a report. -/
theorem measPart_of_report {c : Capture MeasReport} {r : MeasReport} (h : c.report = some r) :
    measPart c 0 = some [toByte c.stateCode, toByte r.pos.val, toByte r.kind.code, toByte r.severity.code]
      ∧ measPart c 1 = some (twoBytes r.main ++ twoBytes r.check)
      ∧ measPart c 2 = some (twoBytes r.stamp.toNat) := by
  simp only [measPart, h, and_self]

/-- R205: the two parts of a link capture that holds a report. -/
theorem linkPart_of_report {c : Capture LinkReport} {r : LinkReport} (h : c.report = some r) :
    linkPart c 0 = some [toByte c.stateCode, toByte r.kind.code, toByte r.severity.code, r.header]
      ∧ linkPart c 1 = some [r.first, r.second, toByte (r.stamp.toNat / 256), toByte (r.stamp.toNat % 256)] := by
  simp only [linkPart, h, true_and]
  rfl

end Captures

/-! ### READ_POSITION (R205) -/

section Position

variable {s : State} {f : RxFrame} {arg : Nat} {p : Pos}

theorem posOfArg_eq (h : arg % 4 = p.val) : posOfArg arg = p := Fin.ext h

theorem readPosition_of_absent (h : s.Asked f 4 arg) (hp : arg % 4 = p.val)
    (habsent : (s.table.seats.get p).cls = .absent) :
    exec .readPosition s = .next ((s.took f).reply 4 .badItem []) :=
  readPosition_readQuery.badItem_of_asked h (if_pos (by rw [posOfArg_eq hp]; exact habsent))

theorem readPosition_of_present (h : s.Asked f 4 arg) (hp : arg % 4 = p.val)
    (hpresent : (s.table.seats.get p).cls ≠ .absent) {part : Nat} (hpart : arg / 4 % 4 = part) :
    exec .readPosition s = .next ((s.took f).reply 4 .ok (s.positionPart p part)) :=
  readPosition_readQuery.ok_of_asked h <| by
    rw [← posOfArg_eq hp, ← hpart]
    exact if_neg (by rw [posOfArg_eq hp]; exact hpresent)

/-- R205: parts 2 and 3 of a position that holds a record. -/
theorem positionPart_of_record {r : Record} (h : s.recordAt p = some r) :
    s.positionPart p 2 = toByte r.origin.code :: (twoBytes r.seated ++ [toByte r.alert.code])
      ∧ s.positionPart p 3 = originTag r := by
  simp only [State.positionPart, h, and_self]

/-- R205: parts 2 and 3 read as 0 without a record. -/
theorem positionPart_of_noRecord (h : s.recordAt p = none) {part : Nat} (hpart : 2 ≤ part) :
    s.positionPart p part = [] := by
  match part, hpart with
  | 2, _ => simp only [State.positionPart, h]
  | _ + 3, _ => simp only [State.positionPart, h]

/-- R205: the departure tag that is a record's origin, pending or settled. -/
theorem originTag_of_tag {r : Record} {tag : DepTag}
    (h : r.origin = .moved tag ∨ ∃ e, r.origin = .claiming e ∧ e.tag = tag) : originTag r = tagBytes tag := by
  obtain ho | ⟨e, ho, rfl⟩ := h
  all_goals simp only [originTag, ho]

theorem originTag_of_none {r : Record} (h : r.origin = .boarded ∨ r.origin = .restored ∨ r.origin = .untraced) :
    originTag r = [] := by
  rcases h with ho | ho | ho
  all_goals simp only [originTag, ho]

/-- R205: part 0 is the load and the signed shift. -/
theorem positionPart_load (s : State) (p : Pos) :
    s.positionPart p 0
      = twoBytes ((s.classes.get p).lf / 4) ++ twoBytes ((s.classes.get p).shift % 65536).toNat := rfl

/-- R205: part 1 is the tag view, its serial where PRESENT. -/
theorem positionPart_tagView (s : State) (p : Pos) :
    ((s.sfe.positions.get p).tagView = .none → s.positionPart p 1 = [0, 0, 0])
      ∧ ((s.sfe.positions.get p).tagView = .unclear → s.positionPart p 1 = [0, 0, 2])
      ∧ ∀ g, (s.sfe.positions.get p).tagView = .present g → s.positionPart p 1 = twoBytes g.serial.toNat ++ [1] := by
  have hpart : s.positionPart p 1
      = twoBytes (s.sfe.positions.get p).tagView.serial ++ [toByte (s.sfe.positions.get p).tagView.code] := rfl
  rw [hpart]
  exact ⟨fun h => by rw [h]; rfl, fun h => by rw [h]; rfl, fun g h => by rw [h]; rfl⟩

end Position

/-! ### READ_ROSTER, READ_CONFIG, items not defined (R204) -/

section RosterAndConfig

variable {s : State} {f : RxFrame} {arg : Nat}

/-- R200: the straps give the numbers 1 to 12, or none. -/
theorem stationOf_le : ∀ pins : BitVec 5, (stationOf pins).toNat ≤ 12 := by
  decide

theorem ofNat_eq_station_iff (h : arg ≤ 13) : BitVec.ofNat 4 arg = s.station ↔ arg = s.station.toNat := by
  rw [← BitVec.toNat_inj, BitVec.toNat_ofNat, Nat.mod_eq_of_lt (by omega)]

theorem readRoster_of_other (h : s.Asked f 6 arg) (hlow : 1 ≤ arg) (hhigh : arg ≤ 13) (hother : arg ≠ s.station.toNat) :
    exec .readRoster s = .next ((s.took f).reply 6 .ok
      (toByte (s.duty.slot (BitVec.ofNat 4 arg)).state.code
        :: twoBytes (s.duty.slot (BitVec.ofNat 4 arg)).ms)) := by
  have hne : BitVec.ofNat 4 arg ≠ (s.took f).station := fun heq => hother ((ofNat_eq_station_iff hhigh).1 heq)
  refine readRoster_readQuery.ok_of_asked h ?_
  rw [State.rosterData, if_pos ⟨hlow, hhigh⟩]
  simp only [if_neg hne]
  rfl

theorem readRoster_of_own (h : s.Asked f 6 arg) (hlow : 1 ≤ arg) (hown : arg = s.station.toNat) :
    exec .readRoster s = .next ((s.took f).reply 6 .ok [0, 0, 0]) := by
  have hhigh : arg ≤ 13 := hown ▸ (stationOf_le s.straps).trans (by decide)
  have heq : BitVec.ofNat 4 arg = (s.took f).station := (ofNat_eq_station_iff hhigh).2 hown
  refine readRoster_readQuery.ok_of_asked h ?_
  rw [State.rosterData, if_pos ⟨hlow, hhigh⟩]
  simp only [if_pos heq]
  rfl

theorem readRoster_of_noStation (h : s.Asked f 6 arg) (hout : arg = 0 ∨ 13 < arg) :
    exec .readRoster s = .next ((s.took f).reply 6 .badItem []) :=
  readRoster_readQuery.badItem_of_asked h (if_neg (by omega))

theorem item_mem_all (i : Item) : i ∈ Item.all := by
  cases i with
  | gain p | zero p | pzero p => fin_cases p <;> decide
  | _ => decide

theorem item_code_ne_zero (i : Item) : i.code ≠ 0 := by
  cases i <;> simp [Item.code]

/-- R207: no two items share a code. -/
theorem ofCode_code_of_mem : ∀ i ∈ Item.all, Item.ofCode i.code = some i := by
  decide

theorem ofCode_code (i : Item) : Item.ofCode i.code = some i := ofCode_code_of_mem i (item_mem_all i)

theorem itemOfCode_eq_none {code : Nat} (h : ∀ i : Item, code ≠ i.code) : Item.ofCode code = none :=
  List.find?_eq_none.2 fun i _ heq => h i (beq_iff_eq.1 heq).symm

theorem readConfig_of_item (h : s.Asked f 7 arg) (i : Item) (hi : arg = i.code) :
    exec .readConfig s = .next ((s.took f).reply 7 .ok (twoBytes (s.config.working.value i))) := by
  refine readConfig_readQuery.ok_of_asked h ?_
  subst hi
  rw [Configuration.itemData, if_neg (item_code_ne_zero i), ofCode_code]
  rfl

theorem readConfig_of_noItem (h : s.Asked f 7 arg) (hzero : arg ≠ 0) (hnone : ∀ i : Item, arg ≠ i.code) :
    exec .readConfig s = .next ((s.took f).reply 7 .badItem []) := by
  refine readConfig_readQuery.badItem_of_asked h ?_
  rw [Configuration.itemData, if_neg hzero, itemOfCode_eq_none hnone]
  rfl

/-- R204: the item codes are 1 to 10. -/
theorem itemNotDefined_of_asked {item : Nat} (h : s.Asked f item arg) (hout : item = 0 ∨ 10 < item) :
    exec .diagQueryItemNotDefined s = .next ((s.took f).reply item .badItem []) := by
  obtain ⟨hhandles, hkind, hitem, -⟩ := h
  have hnext : s.nextFrame .diagQuery = some f := hkind ▸ nextFrame_of_handles s hhandles
  show execDiagQueryItemNotDefined s = _
  have hundefined : (decide (item < 1) || decide (10 < item)) = true := by simpa [Nat.lt_one_iff] using hout
  simp only [execDiagQueryItemNotDefined, hnext, Option.filter_some, hitem, hundefined, if_true]
  rfl

end RosterAndConfig

/-- Settles O48: the five read queries, each by the part its argument names. -/
theorem readQueriesAnswer : Obligations.ReadQueriesAnswer := by
  intro s f arg
  refine ⟨fun h => ⟨fun hbit hpart => ?_, fun hbit hpart => ?_, readCapture_meas_of_empty h,
      readCapture_link_of_empty h, fun r code hbit hheld => ?_, fun r code hbit hheld => ?_⟩,
    fun p h hp => ⟨readPosition_of_absent h hp, fun hcls => ?_, fun hcls hpart => ?_, fun r hcls hpart hr => ?_,
      fun r hcls hpart hr => ?_, fun hcls hpart hr => ?_⟩,
    fun h => ⟨readRoster_of_other h, readRoster_of_own h, readRoster_of_noStation h⟩,
    fun h => ⟨fun hzero => readConfig_readQuery.ok_of_asked h (if_pos hzero), readConfig_of_item h,
      readConfig_of_noItem h⟩,
    fun item h => itemNotDefined_of_asked h⟩
  · exact (readCapture_meas h hbit hpart).1 rfl
  · exact (readCapture_link h hbit rfl).1 (linkPart_of_two_le _ hpart)
  · obtain ⟨hreport, rfl⟩ := capture_held hheld
    obtain ⟨h0, h1, h2⟩ := measPart_of_report hreport
    exact ⟨fun hp => (readCapture_meas h hbit hp).2 _ h0, fun hp => (readCapture_meas h hbit hp).2 _ h1,
      fun hp => (readCapture_meas h hbit hp).2 _ h2⟩
  · obtain ⟨hreport, rfl⟩ := capture_held hheld
    obtain ⟨h0, h1⟩ := linkPart_of_report hreport
    exact ⟨fun hp => (readCapture_link h hbit hp).2 _ h0, fun hp => (readCapture_link h hbit hp).2 _ h1⟩
  · intro hpart
    rw [readPosition_of_present h hp hcls hpart, positionPart_load]
  · obtain ⟨hnone, hunclear, hpresent⟩ := positionPart_tagView s p
    rw [readPosition_of_present h hp hcls hpart, ← reply_threeBytes, ← reply_threeBytes]
    exact ⟨fun hview => by rw [hnone hview], fun hview => by rw [hunclear hview],
      fun g hview => by rw [hpresent g hview]⟩
  · rw [readPosition_of_present h hp hcls hpart, (positionPart_of_record hr).2]
    exact ⟨fun tag htag => by rw [originTag_of_tag htag], fun hnone => by rw [originTag_of_none hnone, reply_noData]⟩
  · rw [readPosition_of_present h hp hcls hpart, (positionPart_of_record hr).1]
  · rw [readPosition_of_present h hp hcls rfl, positionPart_of_noRecord hr hpart, reply_noData]

end Sys2Proof.Machine

namespace Sys2Proof.Machine

/-! ### CLEAR_CAPTURE and READ_COUNTERS (R202, R203) -/

section Groups

variable (k : Counters) {g : Nat}

theorem group_of_lt (h : g < 9) : ∃ a b, k.group g = some (a, b) := by
  interval_cases g
  all_goals exact ⟨_, _, rfl⟩

theorem group_of_ge (h : 9 ≤ g) : k.group g = none := by
  match g, h with
  | _ + 9, _ => rfl

theorem clearGroup_of_ge (h : 9 ≤ g) : k.clearGroup g = k := by
  match g, h with
  | _ + 9, _ => rfl

/-- R203: clearing a group sets its two counters to 0 … -/
theorem clearGroup_group_self (h : g < 9) : (k.clearGroup g).group g = some (0, 0) := by
  interval_cases g
  all_goals rfl

/-- … and no counter of another group. -/
theorem clearGroup_group_other {g' : Nat} (h : g' ≠ g) : (k.clearGroup g).group g' = k.group g' := by
  by_cases hg : g < 9
  · by_cases hg' : g' < 9
    · interval_cases g
      all_goals
        interval_cases g'
        all_goals simp_all [Counters.clearGroup, Counters.group]
    · rw [group_of_ge _ (not_lt.1 hg'), group_of_ge _ (not_lt.1 hg')]
  · rw [clearGroup_of_ge _ (not_lt.1 hg)]

end Groups

section CapturesAndCounters

variable {s : State} {f : RxFrame} {arg : Nat}

theorem clearCapture_of_asked (h : s.Asked f 2 arg) {d : Diag} (hd : (s.took f).diag.clearCapture arg = d) :
    exec .clearCapture s = .next ({ s.took f with diag := d }.reply 2 .ok []) := by
  show execClearCapture s = _
  rw [execClearCapture, handleQuery_of_asked s h, hd]
  rfl

theorem readCounters_of_asked (h : s.Asked f 3 arg) :
    exec .readCounters s
      = .next (((s.took f).afterReading (arg % 16) (arg.testBit 7)).answerRead 3
          ((s.took f).groupData (arg % 16))) := by
  show execReadCounters s = _
  rw [execReadCounters, handleQuery_of_asked s h]

/-- R203: a group of two counters is read as they stand. -/
theorem took_groupData (f : RxFrame) {g a b : Nat} (hg : g < 9) (h : s.diag.counters.group g = some (a, b)) :
    (s.took f).groupData g = some (twoBytes a ++ twoBytes b) := by
  have hk : (s.took f).diag.counters.group g = some (a, b) := h
  rw [State.groupData, if_neg (by omega), hk]
  rfl

theorem readCounters_of_read (h : s.Asked f 3 arg) {a b : Nat} (hg : arg % 16 < 9)
    (hk : s.diag.counters.group (arg % 16) = some (a, b)) (hkeep : arg.testBit 7 = false) :
    exec .readCounters s = .next ((s.took f).reply 3 .ok (twoBytes a ++ twoBytes b)) := by
  rw [readCounters_of_asked h, took_groupData f hg hk, State.afterReading, if_neg (by omega), hkeep]
  rfl

/-- R203, log entry 19: with clear the group is 0 before the reply is offered. -/
theorem readCounters_of_clear (h : s.Asked f 3 arg) {a b : Nat} (hg : arg % 16 < 9)
    (hk : s.diag.counters.group (arg % 16) = some (a, b)) (hclear : arg.testBit 7 = true) :
    exec .readCounters s
      = .next ({ s.took f with
          diag := { (s.took f).diag with counters := s.diag.counters.clearGroup (arg % 16) } }.reply 3 .ok
            (twoBytes a ++ twoBytes b)) := by
  rw [readCounters_of_asked h, took_groupData f hg hk, State.afterReading, if_neg (by omega), hclear]
  rfl

theorem readCounters_of_highWater (h : s.Asked f 3 arg) (hg : arg % 16 = 9) :
    exec .readCounters s
      = .next ({ s.took f with link := { (s.took f).link with highWater := (s.took f).link.held } }.reply 3 .ok
          (twoBytes s.link.highWater ++ twoBytes (s.took f).link.held)) := by
  rw [readCounters_of_asked h, State.groupData, State.afterReading, if_pos hg, if_pos hg]
  rfl

theorem readCounters_of_noGroup (h : s.Asked f 3 arg) (hg : 9 < arg % 16) :
    exec .readCounters s = .next ((s.took f).reply 3 .badItem []) := by
  have hnone : (s.took f).groupData (arg % 16) = none := by
    rw [State.groupData, if_neg (by omega), group_of_ge _ hg.le]
    rfl
  have hsame : (s.took f).afterReading (arg % 16) (arg.testBit 7) = s.took f := by
    rw [State.afterReading, if_neg (by omega), State.count, clearGroup_of_ge _ hg.le]
    exact ite_self _
  rw [readCounters_of_asked h, hnone, hsame]
  rfl

end CapturesAndCounters

/-- Settles O49: the capture by bit 4 of the argument, the counters by the group and by bit 7. -/
theorem countersAndCapturesClear : Obligations.CountersAndCapturesClear := by
  refine fun s f arg => ⟨fun h => ⟨fun hmeas => ?_, fun hlink => ?_⟩, fun h => ⟨fun a b hk hg => ?_,
    fun a b hk hg => ?_, group_of_lt _, readCounters_of_highWater h, readCounters_of_noGroup h⟩⟩
  · exact clearCapture_of_asked h (if_neg (by simp [namesLink, hmeas]))
  · exact clearCapture_of_asked h (if_pos hlink)
  · exact readCounters_of_read h hg hk
  · exact fun hclear => ⟨_, clearGroup_group_self _ hg, fun g hne => clearGroup_group_other _ hne,
      readCounters_of_clear h hg hk hclear⟩

end Sys2Proof.Machine

namespace Sys2Proof.Machine

/-! ### What a CONFIG write comes to (R57, R207) -/

section Writes

variable (c : Conf) {i on off : Item} {value : Nat}

@[simp] theorem value_put (v : Nat) (i : Item) : (c.put v i).value i = v := by
  cases i with
  | gain p | zero p | pzero p => exact Four.get_set_self _ p v
  | _ => rfl

/-- R57: with both items of a pair written, each has the value. -/
theorem value_put_pair (h : i.offOf = some off) (v : Nat) : ((c.put v i).put v off).value i = v := by
  cases i <;> cases h <;> rfl

theorem clampNat_eq {lo hi : Nat} (h : lo ≤ hi) (x : Nat) : clampNat lo hi x = max lo (min hi x) := by
  unfold clampNat
  split
  · omega
  · split <;> omega

theorem range_ordered (i : Item) : i.range.1 ≤ i.range.2 := by
  cases i <;> simp [Item.range]

/-- R207: CLAMPED exactly where the value was adjusted. -/
theorem clampedIf_eq {adjusted : Bool} {P : Prop} [Decidable P] (h : adjusted = true ↔ ¬ P) :
    clampedIf adjusted = if P then .ok else .clamped := by
  cases adjusted with
  | true => exact (if_neg (h.1 rfl)).symm
  | false => exact (if_pos (by simpa using h)).symm

theorem ok_or_clamped (P : Prop) [Decidable P] :
    (if P then Result.ok else .clamped) = .ok ∨ (if P then Result.ok else .clamped) = .clamped := by
  split
  · exact .inl rfl
  · exact .inr rfl

theorem writeItem_joins_of_bad (h : 8 ≤ value ∨ joinsGood c.fittedMask value = false) :
    writeItem c .joins value = ⟨c, .badJoin⟩ :=
  if_neg (by rcases h with h | h <;> simp [h])

theorem writeItem_joins_of_good (h : value < 8) (hjoins : joinsGood c.fittedMask value = true) :
    writeItem c .joins value = ⟨c.put value .joins, .ok⟩ :=
  if_pos (by simp [h, hjoins])

/-- R207: a mask loses its high bits. -/
theorem writeMask_eq (i : Item) (value : Nat) :
    writeMask c i value = ⟨c.put (value % 16) i, if value < 16 then .ok else .clamped⟩ := by
  rw [writeMask, clampedIf_eq (P := value < 16) (by simp)]

theorem writeItem_fitted_of_bad (h : joinsGood value c.joinMap = false) :
    writeItem c .fitted value = ⟨c, .badJoin⟩ :=
  if_neg (by simp [h])

theorem writeItem_fitted_of_good (h : joinsGood value c.joinMap = true) :
    writeItem c .fitted value = ⟨c.put (value % 16) .fitted, if value < 16 then .ok else .clamped⟩ :=
  (if_pos h).trans (writeMask_eq c _ _)

theorem writeItem_mask (h : i = .buckles ∨ i = .tags) :
    writeItem c i value = ⟨c.put (value % 16) i, if value < 16 then .ok else .clamped⟩ := by
  obtain rfl | rfl := h
  all_goals exact writeMask_eq c _ _

/-- R207: an item that is no mask and no join map is clamped into its range. -/
theorem writeItem_value (hj : i ≠ .joins) (hf : i ≠ .fitted) (hb : i ≠ .buckles) (ht : i ≠ .tags) :
    writeItem c i value
      = writePair c i (clampNat i.range.1 i.range.2 value) (value < i.range.1 || i.range.2 < value) := by
  unfold writeItem
  split
  · exact absurd rfl hj
  · exact absurd rfl hf
  · exact absurd rfl hb
  · exact absurd rfl ht
  · rfl

theorem writeItem_unpaired (hj : i ≠ .joins) (hf : i ≠ .fitted) (hb : i ≠ .buckles) (ht : i ≠ .tags)
    (hon : i.onOf = none) (hoff : i.offOf = none) :
    writeItem c i value = ⟨c.put (max i.range.1 (min i.range.2 value)) i,
      if i.range.1 ≤ value ∧ value ≤ i.range.2 then .ok else .clamped⟩ := by
  rw [writeItem_value c hj hf hb ht, clampNat_eq (range_ordered i), writePair, hon, hoff]
  rw [clampedIf_eq (P := i.range.1 ≤ value ∧ value ≤ i.range.2) (by simp; omega)]

/-- R56, R57: an item of a pair has the range 0 to 2000. -/
theorem writeItem_paired (h : i.onOf = some on ∨ i.offOf = some on) :
    writeItem c i value = writePair c i (min 2000 value) (decide (2000 < value)) := by
  have hrange : i.range = (0, 2000) ∧ i ≠ .joins ∧ i ≠ .fitted ∧ i ≠ .buckles ∧ i ≠ .tags := by
    cases i
    all_goals simp_all [Item.onOf, Item.offOf, Item.range]
  obtain ⟨hrange, hj, hf, hb, ht⟩ := hrange
  rw [writeItem_value c hj hf hb ht, hrange, clampNat_eq (Nat.zero_le _)]
  simp

/-- R57: an _off item is held at its _on item. -/
theorem writeItem_off (h : i.onOf = some on) :
    writeItem c i value = ⟨c.put (min (min 2000 value) (c.value on)) i,
      if value ≤ 2000 ∧ value ≤ c.value on then .ok else .clamped⟩ := by
  rw [writeItem_paired c (.inl h)]
  simp only [writePair, h]
  split
  · next hbelow => rw [min_eq_right hbelow.le, if_neg (by omega)]
  · next habove =>
    rw [min_eq_left (not_lt.1 habove), clampedIf_eq (P := value ≤ 2000 ∧ value ≤ c.value on)]
    simp only [decide_eq_true_eq]
    omega

/-- R57: an _on item at or above its _off item is written alone … -/
theorem writeItem_on (h : i.offOf = some off) (habove : c.value off ≤ min 2000 value) :
    writeItem c i value = ⟨c.put (min 2000 value) i, if value ≤ 2000 then .ok else .clamped⟩ := by
  have hon : i.onOf = none := by cases i <;> cases h <;> rfl
  rw [writeItem_paired c (.inr h)]
  simp only [writePair, hon, h]
  rw [if_neg (not_lt.2 habove), clampedIf_eq (P := value ≤ 2000) (by simp)]

/-- … and takes its _off item down with it below. -/
theorem writeItem_on_below (h : i.offOf = some off) (hbelow : min 2000 value < c.value off) :
    writeItem c i value = ⟨(c.put (min 2000 value) i).put (min 2000 value) off, .clamped⟩ := by
  have hon : i.onOf = none := by cases i <;> cases h <;> rfl
  rw [writeItem_paired c (.inr h)]
  simp only [writePair, hon, h]
  rw [if_pos hbelow]

end Writes

/-! ### What SERVICE alone allows, and no commit (R204) -/

section IdleService

/-- R204: the refusals that come before an answer which needs SERVICE with no commit running. -/
def State.inIdleService (s : State) (item : Nat) (answer : State) : State :=
  if s.modeCtl.mode ≠ .service then s.refuse item .notService
  else if s.diag.commit.isRunning then s.refuse item .busy
  else answer

variable {s : State} (item : Nat) (answer : State)

theorem inIdleService_of_notService (hm : s.modeCtl.mode ≠ .service) :
    s.inIdleService item answer = s.reply item .notService [] := if_pos hm

theorem inIdleService_of_busy (hm : s.modeCtl.mode = .service) (hc : s.diag.commit ≠ .stopped) :
    s.inIdleService item answer = s.reply item .busy [] := by
  rw [State.inIdleService, if_neg (not_not_intro hm), if_pos ((timer_isRunning_iff _).2 hc)]
  rfl

theorem inIdleService_of_idle (hm : s.modeCtl.mode = .service) (hc : s.diag.commit = .stopped) :
    s.inIdleService item answer = answer := by
  rw [State.inIdleService, if_neg (not_not_intro hm), if_neg (by simp [hc])]

end IdleService

/-! ### A CONFIG frame is answered by the first result that applies (R207) -/

section ConfigFrame

variable {s : State} {f : RxFrame}

theorem configWrite_of_handles (h : s.Handles f) (hk : f.kind = .config) :
    exec .configWrite s = .next ((s.took f).configFrame (itemOf f.payload) (valueOf f.payload)) := by
  show execConfigWrite s = _
  exact handleFrame_of_handles s h hk _

theorem configFrame_eq (s : State) (item value : Nat) :
    s.configFrame item value
      = s.inIdleService (item ||| 128) (match Item.ofCode item with
        | none => s.reply (item ||| 128) .badItem []
        | some i => s.answerWrite item i (writeItem s.config.working i value)) := rfl

theorem configFrame_of_noItem (hm : s.modeCtl.mode = .service) (hc : s.diag.commit = .stopped) {item : Nat}
    (hnone : ∀ i : Item, item ≠ i.code) (value : Nat) :
    s.configFrame item value = s.reply (item ||| 128) .badItem [] := by
  rw [configFrame_eq, inIdleService_of_idle _ _ hm hc, itemOfCode_eq_none hnone]

theorem configFrame_of_item (hm : s.modeCtl.mode = .service) (hc : s.diag.commit = .stopped) (i : Item) (value : Nat) :
    s.configFrame i.code value = s.answerWrite i.code i (writeItem s.config.working i value) := by
  rw [configFrame_eq, inIdleService_of_idle _ _ hm hc, ofCode_code]

/-- R207: a write that was made carries the value written. -/
theorem answerWrite_of_written (s : State) (item : Nat) (i : Item) {c : Conf} {result : Result}
    (h : result = .ok ∨ result = .clamped) :
    s.answerWrite item i ⟨c, result⟩
      = { s with config := { s.config with working := c } }.reply (item ||| 128) result (twoBytes (c.value i)) := by
  obtain rfl | rfl := h
  all_goals rfl

theorem answerWrite_of_badJoin (s : State) (item : Nat) (i : Item) :
    s.answerWrite item i ⟨s.config.working, .badJoin⟩ = s.reply (item ||| 128) .badJoin [] := rfl

end ConfigFrame

/-- Settles O52: the results in their order, then the write of the item by the pair it belongs to. -/
theorem configWritesWorkingCopy : Obligations.ConfigWritesWorkingCopy := by
  intro s f value h hk hvalue
  obtain rfl : value = valueOf f.payload := hvalue
  rw [configWrite_of_handles h hk]
  refine ⟨fun hm => congrArg _ (inIdleService_of_notService (s := s.took f) _ _ hm),
    fun hm hc => congrArg _ (inIdleService_of_busy (s := s.took f) _ _ hm hc),
    fun hm hc => ⟨fun hnone => ?_, fun i hi => ?_⟩⟩
  · exact congrArg _ (configFrame_of_noItem (s := s.took f) hm hc hnone _)
  have hitem : itemOf f.payload = i.code := hi
  rw [hitem, configFrame_of_item (s := s.took f) hm hc]
  have hwritten : ∀ (c : Conf) (written : Nat) (result : Result),
      writeItem s.config.working i (valueOf f.payload) = ⟨c, result⟩ → result = .ok ∨ result = .clamped →
      c.value i = written →
      (s.took f).answerWrite i.code i (writeItem (s.took f).config.working i (valueOf f.payload))
        = { s.took f with config := { s.config with working := c } }.reply (i.code ||| 128) result
            (twoBytes written) := by
    rintro c written result hwrite hresult rfl
    exact (congrArg _ hwrite).trans (answerWrite_of_written _ _ _ hresult)
  refine ⟨?_, ?_, fun written result hcase => congrArg _ ?_, fun off hoff hbelow => congrArg _ ?_⟩
  · rintro rfl hbad
    exact congrArg _ ((congrArg _ (writeItem_joins_of_bad _ hbad)).trans (answerWrite_of_badJoin _ _ _))
  · rintro rfl hbad
    exact congrArg _ ((congrArg _ (writeItem_fitted_of_bad _ hbad)).trans (answerWrite_of_badJoin _ _ _))
  · refine hwritten _ _ _ ?_ ?_ (value_put _ _ _)
    · rcases hcase with ⟨rfl, hlt, hjoins, rfl, rfl⟩ | ⟨rfl, hjoins, rfl, rfl⟩ | ⟨hmask, rfl, rfl⟩
        | ⟨hj, hf, hb, ht, hon, hoff, rfl, rfl⟩ | ⟨on, hon, rfl, rfl⟩ | ⟨off, hoff, habove, rfl, rfl⟩
      · exact writeItem_joins_of_good _ hlt hjoins
      · exact writeItem_fitted_of_good _ hjoins
      · exact writeItem_mask _ hmask
      · exact writeItem_unpaired _ hj hf hb ht hon hoff
      · exact writeItem_off _ hon
      · exact writeItem_on _ hoff habove
    · rcases hcase with ⟨-, -, -, -, rfl⟩ | ⟨-, -, -, rfl⟩ | ⟨-, -, rfl⟩ | ⟨-, -, -, -, -, -, -, rfl⟩ | ⟨-, -, -, rfl⟩
        | ⟨-, -, -, -, rfl⟩
      · exact .inl rfl
      all_goals exact ok_or_clamped _
  · exact hwritten _ _ _ (writeItem_on_below _ hoff hbelow) (.inr rfl) (value_put_pair _ hoff _)

end Sys2Proof.Machine

namespace Sys2Proof.Machine

/-! ### MEASURE and STORE (R34, R204, R208) -/

section MeasureAndStore

variable {s : State} {f : RxFrame} {arg : Nat} {p : Pos}

theorem measure_of_asked (h : s.Asked f 5 arg) : exec .measure s = .next ((s.took f).measure arg) := by
  show execMeasure s = _
  exact handleQuery_of_asked s h _

theorem partOfArg_of_three (h : arg / 4 % 4 = 3) : partOfArg arg = none := by
  rw [partOfArg, h]
  rfl

/-- R34: bits 3 and 2 of the argument name the part. -/
theorem partOfArg_of_other (h : arg / 4 % 4 ≠ 3) :
    ∃ part, partOfArg arg = some part ∧ (part = .mat ↔ arg / 4 % 4 = 0) ∧ (part = .presence ↔ arg / 4 % 4 = 1)
      ∧ (part = .tag ↔ arg / 4 % 4 = 2) := by
  obtain hpart | hpart | hpart : arg / 4 % 4 = 0 ∨ arg / 4 % 4 = 1 ∨ arg / 4 % 4 = 2 := by omega
  all_goals
    rw [partOfArg, hpart]
    exact ⟨_, rfl, by decide, by decide, by decide⟩

theorem measure_badItem (hp : arg % 4 = p.val) (h : arg / 4 % 4 = 3 ∨ (s.table.seats.get p).cls = .absent) :
    s.measure arg = s.reply 5 .badItem [] := by
  unfold State.measure
  split
  · rfl
  · next part hpart =>
    have habsent : (s.table.seats.get (posOfArg arg)).cls = .absent := by
      rw [posOfArg_eq hp]
      exact h.resolve_left fun hthree => by simp [partOfArg_of_three hthree] at hpart
    rw [if_pos habsent]
    rfl

theorem measure_of_part (hp : arg % 4 = p.val) (hpresent : (s.table.seats.get p).cls ≠ .absent) {part : MeasurePart}
    (hpart : partOfArg arg = some part) : s.measure arg = s.inIdleService 5 (s.startOneShot p part) := by
  simp only [State.measure, hpart, posOfArg_eq hp]
  rw [if_neg hpresent]
  rfl

theorem storeConfig_of_asked (h : s.Asked f 10 arg) : exec .storeConfig s = .next ((s.took f).storeQuery arg) := by
  show execStoreConfig s = _
  exact handleQuery_of_asked s h _

theorem storeQuery_zero (s : State) :
    s.storeQuery 0 = s.inIdleService 10 (s.setDiag { s.diag with commit := .running 0 }) := rfl

theorem storeQuery_badItem (s : State) (h : arg ≠ 0) : s.storeQuery arg = s.reply 10 .badItem [] := if_pos h

end MeasureAndStore

/-! ### The end of a commit (R208) -/

section Commit

variable {s : State}

theorem commitCompletion_of_running (hp : s.powered = true) (hc : s.diag.commit ≠ .stopped) :
    exec .commitCompletion s
      = .next (if s.diag.haltWaiting then s.commitDone.haltFromService else s.commitDone) := by
  have hruns : (s.powered && s.diag.commit.isRunning) = true := by simp [hp, timer_isRunning_iff, hc]
  show execCommitCompletion s = _
  rw [execCommitCompletion, onlyIf_next, if_pos hruns]

/-- R208: the stored configuration once the commit is done. -/
theorem commitDone_config (s : State) :
    s.commitDone.config
      = { s.config with
          store := { contents := s.config.working, sum := s.config.working.sum }, defaulted := false } := by
  simp [State.commitDone]

/-- R197: a HALT in SERVICE leaves a station in STANDBY whose working copy runs, with its queues emptied and no
commit. -/
theorem haltFromService_writes (s : State) :
    s.haltFromService.modeCtl.mode = .standby
      ∧ s.haltFromService.config = { s.config with running := s.config.working }
      ∧ s.haltFromService.link.txq = [] ∧ s.haltFromService.link.rxq = []
      ∧ s.haltFromService.diag.commit = .stopped ∧ s.haltFromService.diag.haltWaiting = false := by
  obtain ⟨hmode, -⟩ := haltEntry_entersStandby s.serviceExit
  obtain ⟨hrxq, htxq, -⟩ := haltEntry_emptied s.serviceExit
  have hdiag : s.haltFromService.diag = s.serviceExit.diag := by simp [State.haltFromService]
  refine ⟨?_, (haltEntry_conf s.serviceExit).1, htxq, hrxq, ?_, ?_⟩
  · rw [State.haltFromService, hmode]
  · rw [hdiag]
    rfl
  · rw [hdiag]
    rfl

end Commit

/-- Settles O51: MEASURE by its position and part, STORE by its argument, each then by what SERVICE alone allows; the
commit's end by whether a HALT waits. -/
theorem measureAndStore : Obligations.MeasureAndStore := by
  refine ⟨fun s f arg => ⟨fun p h hp => ?_, fun h => ?_⟩, fun s stored hp hc hstored => ?_⟩
  · rw [measure_of_asked h]
    refine ⟨fun hbad => congrArg _ (measure_badItem (s := s.took f) hp hbad), fun hpart hpresent => ?_⟩
    obtain ⟨part, hsome, hpart⟩ := partOfArg_of_other hpart
    rw [measure_of_part (s := s.took f) hp hpresent hsome]
    exact ⟨fun hm => congrArg _ (inIdleService_of_notService (s := s.took f) _ _ hm),
      fun hm hc => congrArg _ (inIdleService_of_busy (s := s.took f) _ _ hm hc),
      fun hm hc => ⟨part, congrArg _ (inIdleService_of_idle (s := s.took f) _ _ hm hc), hpart⟩⟩
  · rw [storeConfig_of_asked h]
    refine ⟨fun harg => congrArg _ (storeQuery_badItem _ harg), ?_, ?_, ?_⟩
    · rintro rfl hm
      rw [storeQuery_zero]
      exact congrArg _ (inIdleService_of_notService (s := s.took f) _ _ hm)
    · rintro rfl hm hc
      rw [storeQuery_zero]
      exact congrArg _ (inIdleService_of_busy (s := s.took f) _ _ hm hc)
    · rintro rfl hm hc
      rw [storeQuery_zero]
      exact congrArg _ (inIdleService_of_idle (s := s.took f) _ _ hm hc)
  · rw [commitCompletion_of_running hp hc]
    subst hstored
    refine ⟨fun hhalt => ?_, fun hhalt => ?_⟩
    · rw [hhalt]
      rfl
    · obtain ⟨hmode, hconfig, hqueues⟩ := haltFromService_writes s.commitDone
      refine ⟨_, by rw [if_pos hhalt], hmode, ?_, hqueues⟩
      rw [hconfig, commitDone_config]

end Sys2Proof.Machine

namespace Sys2Proof.Machine

/-! ### Claims and alerts that end together (R83, R121, R193) -/

section LinkWork

/-- R121: ending CLAIMs once and again ends those named either time, where the second naming does not go by the void
mark. -/
theorem claimsEnded_claimsEnded (l : Link) (c d : ClaimRef → Bool) (hd : ∀ k, d { k with voided := true } = d k) :
    (l.claimsEnded c).claimsEnded d = l.claimsEnded fun k => c k || d k := by
  have hvoid : ∀ k : ClaimRef,
      (if d (if c k then { k with voided := true } else k) then
          { (if c k then { k with voided := true } else k) with voided := true }
        else if c k then { k with voided := true } else k)
        = if (c k || d k) then { k with voided := true } else k := by
    intro k
    cases hc : c k <;> simp [hd]
  have hnamed : ∀ k : ClaimRef, d (if c k then { k with voided := true } else k) = d k := by
    intro k
    split
    · exact hd k
    · rfl
  have htxq : ((l.claimsEnded c).claimsEnded d).txq = (l.claimsEnded fun k => c k || d k).txq := by
    simp only [Link.claimsEnded, List.filter_map, List.map_map, List.filter_filter]
    refine congrArg₂ List.map (funext fun x => ?_) (List.filter_congr fun x _ => ?_)
    · cases hx : x.claim with
      | none => simp [hx]
      | some k => simp [hx, hvoid k]
    · cases hx : x.claim with
      | none => simp [hx]
      | some k =>
        simp only [Function.comp_apply, hx, Option.map_some, Option.any_some, hnamed k, Bool.not_or,
          ← Bool.or_and_distrib_left, Bool.and_comm]
  have hself : ((l.claimsEnded c).claimsEnded d).selfSlot = (l.claimsEnded fun k => c k || d k).selfSlot := by
    cases hx : l.selfSlot with
    | none => simp [Link.claimsEnded, hx]
    | some x =>
      simp only [Link.claimsEnded, hx, Option.map_some]
      cases hc : c x.claim <;> cases hdx : d x.claim <;> simp [hd, hdx]
  show { l with
    txq := ((l.claimsEnded c).claimsEnded d).txq, selfSlot := ((l.claimsEnded c).claimsEnded d).selfSlot } = _
  rw [htxq, hself]
  rfl

/-- R121, R164: withdrawing entries by anything but their claims may come before or after. -/
theorem without_claimsEnded (l : Link) (c : ClaimRef → Bool) (gone : TxEntry → Bool)
    (hgone : ∀ (x : TxEntry) k, gone { x with claim := k } = gone x) :
    (l.without gone).claimsEnded c = (l.claimsEnded c).without gone := by
  simp only [Link.claimsEnded, Link.without, List.filter_map, List.filter_filter]
  congr 2
  refine List.filter_congr fun x _ => ?_
  simp only [Function.comp_apply, hgone, Bool.and_comm]

end LinkWork

/-! ### The work of the records ends at a service entry (R83, R206) -/

section RecordWork

variable (s : State)

/-- R121: some record at these positions is waiting for this CLAIM. -/
def State.ownsClaimAt (ps : List Pos) (c : ClaimRef) : Bool := ps.any fun p => (s.recordAt p).any fun r => r.owns c

/-- R193: this is an ALERT of a record at these positions whose alert is ACTIVE. -/
def State.alertFrameAt (ps : List Pos) (x : TxEntry) : Bool := ps.any fun p => s.endsAlertFor (fun _ => true) p x

/-- R83: the link once the claims and alerts of the records at these positions have ended. -/
def State.workEnded (ps : List Pos) : Link := (s.link.claimsEnded (s.ownsClaimAt ps)).without (s.alertFrameAt ps)

theorem ownsClaimAt_iff (c : ClaimRef) :
    s.ownsClaimAt positionsInOrder c = true ↔ ∃ p r, s.recordAt p = some r ∧ r.owns c = true := by
  simp only [State.ownsClaimAt, List.any_eq_true, mem_positionsInOrder, true_and, Option.any_eq_true]

theorem workEnded_nil : s.workEnded [] = s.link := (without_false _).trans (claimsEnded_false _)

/-- R83: at one position, the work of its record. -/
theorem workEnded_singleton (p : Pos) :
    (∀ r, s.recordAt p = some r → s.workEnded [p] = s.link.recordEnded p r)
      ∧ (s.recordAt p = none → s.workEnded [p] = s.link) := by
  refine ⟨fun r hr => ?_, fun hr => ?_⟩
  · have howns : s.ownsClaimAt [p] = r.owns := funext fun c => by simp [State.ownsClaimAt, hr]
    have halerts : s.alertFrameAt [p] = fun x => r.alert.isActive && x.alertsFor p :=
      funext fun x => by simp [State.alertFrameAt, State.endsAlertFor, hr]
    rw [State.workEnded, howns, halerts, Link.recordEnded]
  · have howns : s.ownsClaimAt [p] = fun _ => false := funext fun c => by simp [State.ownsClaimAt, hr]
    have halerts : s.alertFrameAt [p] = fun _ => false :=
      funext fun x => by simp [State.alertFrameAt, State.endsAlertFor, hr]
    rw [State.workEnded, howns, halerts, claimsEnded_false, without_false]

/-- R83: the work at one position ended, and then that at others. -/
theorem workEnded_workEnded (p : Pos) (ps : List Pos) :
    (s.setLink (s.workEnded [p])).workEnded ps = s.workEnded (p :: ps) := by
  have hvoid : ∀ k : ClaimRef, s.ownsClaimAt ps { k with voided := true } = s.ownsClaimAt ps k := fun _ => rfl
  have hclaim : ∀ (x : TxEntry) k, s.alertFrameAt [p] { x with claim := k } = s.alertFrameAt [p] x := fun _ _ => rfl
  have hlink : (s.setLink (s.workEnded [p])).workEnded ps
      = (((s.link.claimsEnded (s.ownsClaimAt [p])).without (s.alertFrameAt [p])).claimsEnded (s.ownsClaimAt ps)).without
          (s.alertFrameAt ps) := rfl
  rw [hlink, without_claimsEnded _ _ _ hclaim, claimsEnded_claimsEnded _ _ _ hvoid, without_without]
  simp only [State.workEnded, State.ownsClaimAt, State.alertFrameAt, List.any_cons, List.any_nil, Bool.or_false]
  rfl

/-- R83: ending the work at one position after another ends it at all of them. -/
theorem foldl_workEnded {step : State → Pos → State} (hstep : ∀ t p, step t p = t.setLink (t.workEnded [p]))
    (ps : List Pos) : ps.foldl step s = s.setLink (s.workEnded ps) := by
  induction ps generalizing s with
  | nil =>
    rw [workEnded_nil]
    rfl
  | cons p ps ih =>
    rw [List.foldl_cons, hstep, ih, workEnded_workEnded]
    rfl

theorem endRecordWork_eq : s.endRecordWork = s.setLink (s.workEnded positionsInOrder) := by
  refine foldl_workEnded s (fun t p => ?_) _
  obtain ⟨hsome, hnone⟩ := workEnded_singleton t p
  split
  · next r hr => rw [hsome r hr, claimAndAlertEnded_eq]
  · next hr =>
    rw [hnone hr]
    rfl

end RecordWork

/-! ### Service entry (R83, R121, R206) -/

section ServiceEntry

variable (s : State)

/-- R206: the waiting entries that leave the transmit queue at a service entry: own proposals, ALERTs of ACTIVE
alerts. -/
def State.entryWithdraws (x : TxEntry) : Bool := s.alertFrame x || x.kind == .sleepPropose

theorem entryWithdraws_iff (x : TxEntry) :
    s.entryWithdraws x = true ↔ x.kind = .sleepPropose
      ∨ ∃ p r, s.recordAt p = some r ∧ r.alert.isActive = true ∧ x.alertsFor p = true := by
  rw [State.entryWithdraws, Bool.or_eq_true, alertFrame_iff, beq_iff_eq, or_comm]

/-- R206: the link before the STATE is placed. -/
theorem serviceBlocks_link :
    s.serviceBlocks.link = (s.link.claimsEnded (s.ownsClaimAt positionsInOrder)).without s.entryWithdraws := by
  have hlink : s.serviceBlocks.link = s.endRecordWork.link.without fun x => x.kind == .sleepPropose := by
    simp [State.serviceBlocks, withdrawProposals_link, Link.without]
  rw [hlink, endRecordWork_eq]
  exact without_without _ _ _

theorem serviceBlocks_writes :
    s.serviceBlocks.modeCtl = { s.modeCtl with
        mode := .service, idle := .stopped, window := none, alone := .stopped, watch := .stopped, vacantRun := 0
        leftBehindMs := 0 }
      ∧ s.serviceBlocks.table
        = { s.table with seats := freshSeats s.config.running, unlatched := false, releasePending := false }
      ∧ s.serviceBlocks.departures = [] ∧ s.serviceBlocks.sweep = { s.sweep with period := .stopped }
      ∧ s.serviceBlocks.config = { s.config with working := s.config.running } := by
  simp [State.serviceBlocks]

theorem serviceBlocks_off :
    s.serviceBlocks.lamps = Four.const .off ∧ s.serviceBlocks.duty.pattern = .off
      ∧ s.serviceBlocks.duty.chime = false := by
  unfold State.serviceBlocks
  exact refreshOutputs_off _ (by simp)

/-- R206: a service entry is its blocks, with the service timer at 0 and a STATE with the report of then placed. -/
theorem enterServiceMode_eq :
    s.enterServiceMode
      = (s.serviceBlocks.setDiag { s.serviceBlocks.diag with service := .running 0 }).statePlaced
          (s.serviceBlocks.setDiag { s.serviceBlocks.diag with service := .running 0 }).buildReport :=
  rebuildReport_placeState_eq _

/-- R165: the service timer takes no part in placing a frame. -/
theorem place_setService (t : State) (service : Timer) (kind : FrameKind) (payload : List Byte) :
    ((t.setDiag { t.diag with service := service }).place kind payload).link = (t.place kind payload).link
      ∧ ((t.setDiag { t.diag with service := service }).place kind payload).diag
        = { (t.place kind payload).diag with service := service } := ⟨rfl, rfl⟩

/-- R165, R206: what the STATE of a service entry makes of the link and of the counters. -/
theorem enterServiceMode_placed {v : State}
    (hv : v = { s with
      link := (s.link.claimsEnded (s.ownsClaimAt positionsInOrder)).without s.entryWithdraws }) :
    s.enterServiceMode.link = (v.place .state s.enterServiceMode.emission.report).link
      ∧ s.enterServiceMode.diag
        = { (v.place .state s.enterServiceMode.emission.report).diag with service := .running 0 } := by
  have hstraps : s.serviceBlocks.straps = v.straps := by simp [hv]
  have hlink : s.serviceBlocks.link = v.link := by rw [serviceBlocks_link, hv]
  have hdiag : s.serviceBlocks.diag = v.diag := by simp [hv]
  rw [enterServiceMode_eq]
  generalize (s.serviceBlocks.setDiag { s.serviceBlocks.diag with service := .running 0 }).buildReport = report
  obtain ⟨hplaced, hcounted⟩ := place_congr v hstraps hlink hdiag .state report
  obtain ⟨hplaced', hcounted'⟩ := place_setService s.serviceBlocks (.running 0) .state report
  refine ⟨hplaced'.trans hplaced, hcounted'.trans ?_⟩
  rw [hcounted]
  rfl

/-- R171: the flags byte of a report that is built in SERVICE says so. -/
theorem buildReport_service {t : State} (h : t.modeCtl.mode = .service) :
    (byteAt t.buildReport 5).getLsbD 0 = true := by
  have hflags : byteAt t.buildReport 5 = t.flagsByte := rfl
  obtain ⟨-, -, -, -, -, -, -, h0⟩ := flagByte_getLsbD t.emission.restarted.isRunning t.link.eventLoss.isRunning
    t.vehicle.lostFlag t.table.unlatched t.holdsDuty (t.link.stationClash || t.duty.yielded) t.faultHeld
    (decide (t.modeCtl.mode = .service))
  rw [hflags, flagsByte_eq, h0, h]
  rfl

end ServiceEntry

end Sys2Proof.Machine

namespace Sys2Proof.Machine

/-! ### ENTER_SERVICE (R204, R206) -/

section EnterService

variable {s : State} {f : RxFrame} {arg : Nat}

theorem enterService_of_asked (h : s.Asked f 8 arg) : exec .enterService s = .next ((s.took f).serviceEntry arg) := by
  show execEnterService s = _
  exact handleQuery_of_asked s h _

theorem moving_iff (s : State) : s.moving = true ↔ s.vehicle.ignition = .on ∨ 0 < s.effSpeed := by
  simp [State.moving, State.ignitionOn, Vehicle.effIgnition]

theorem serviceEntry_badItem (s : State) (h : arg ≠ 0) : s.serviceEntry arg = s.reply 8 .badItem [] := if_pos h

theorem serviceEntry_of_moving (h : s.vehicle.ignition = .on ∨ 0 < s.effSpeed) :
    s.serviceEntry 0 = s.reply 8 .moving [] := by
  rw [State.serviceEntry, if_neg (not_not_intro rfl), if_pos ((moving_iff s).2 h)]
  rfl

theorem serviceEntry_of_standing (hon : s.vehicle.ignition ≠ .on) (hspeed : s.effSpeed = 0) :
    s.serviceEntry 0
      = if s.modeCtl.mode = .service then s.reply 8 .ok [] else s.enterServiceMode.reply 8 .ok [] := by
  have hstands : ¬ s.moving = true := by
    rw [moving_iff, hspeed]
    exact not_or.2 ⟨hon, lt_irrefl 0⟩
  rw [State.serviceEntry, if_neg (not_not_intro rfl), if_neg hstands]

/-- R83, R198, R206: the blocks of a service entry that placing the STATE leaves. -/
theorem enterServiceMode_blocks (s : State) :
    s.enterServiceMode.modeCtl = s.serviceBlocks.modeCtl ∧ s.enterServiceMode.table = s.serviceBlocks.table
      ∧ s.enterServiceMode.departures = s.serviceBlocks.departures
      ∧ s.enterServiceMode.sweep = s.serviceBlocks.sweep ∧ s.enterServiceMode.config = s.serviceBlocks.config
      ∧ s.enterServiceMode.lamps = s.serviceBlocks.lamps ∧ s.enterServiceMode.duty = s.serviceBlocks.duty
      ∧ s.enterServiceMode.classes = s.classes ∧ s.enterServiceMode.sfe = s.sfe
      ∧ s.enterServiceMode.vehicle = s.vehicle ∧ s.enterServiceMode.straps = s.straps := by
  simp [State.enterServiceMode]

/-- R172, R206: the STATE emission after a service entry. -/
theorem enterServiceMode_emission (s : State) :
    s.enterServiceMode.emission.placedMark = true ∧ s.enterServiceMode.emission.timer = .running 0
      ∧ (byteAt s.enterServiceMode.emission.report 5).getLsbD 0 = true := by
  obtain ⟨hmode, -⟩ := serviceBlocks_writes s
  rw [enterServiceMode_eq]
  refine ⟨rfl, rfl, buildReport_service ?_⟩
  rw [setDiag_modeCtl, hmode]

theorem place_rxq (s : State) (kind : FrameKind) (payload : List Byte) :
    (s.place kind payload).link.rxq = s.link.rxq := rfl

theorem place_service (s : State) (kind : FrameKind) (payload : List Byte) :
    (s.place kind payload).diag.service = s.diag.service := rfl

end EnterService

/-! ### The service exit (R209) -/

section ServiceExit

variable {s t : State} {f : RxFrame} {arg : Nat}

theorem leaveService_of_asked (h : s.Asked f 9 arg) : exec .leaveService s = .next ((s.took f).serviceLeave arg) := by
  show execLeaveService s = _
  exact handleQuery_of_asked s h _

theorem serviceLeave_badItem (s : State) (h : arg ≠ 0) : s.serviceLeave arg = s.reply 9 .badItem [] := if_pos h

theorem serviceLeave_zero (s : State) :
    s.serviceLeave 0 = s.inIdleService 9 (s.serviceExit.reply 9 .ok []) := rfl

theorem serviceExit_canStartSweep (s : State) : s.serviceExit.canStartSweep = s.powered := by
  have hready : s.serviceExit.canStartSweep = (s.powered && true && true) := rfl
  rw [hready, Bool.and_true, Bool.and_true]

/-- R209: what the service exit leaves, by the working copy. -/
theorem serviceExit_leftService (s : State) : s.serviceExit.LeftService s := by
  refine ⟨s.config.working, rfl, rfl, freshSeats_of_position _, freshSeats_of_noPosition _, rfl, fun p => ?_,
    fun p => ?_, rfl, rfl, rfl, rfl, rfl, rfl, rfl, rfl, serviceExit_canStartSweep s, rfl, rfl, rfl, rfl, rfl, rfl, rfl,
    rfl, rfl, rfl, rfl, rfl, rfl, rfl, rfl⟩
  · show ((freshClasses s.config.working).get p).b16 = _ ∧ ((freshClasses s.config.working).get p).pb16 = _
      ∧ ((freshClasses s.config.working).get p).lf = _
    rw [freshClasses_get]
    exact ⟨rfl, rfl, rfl⟩
  · show ((freshSfe s.config.working).positions.get p).belt = _
    rw [freshSfe_position]

/-- R161, R204: what the handler changes in taking a query is nothing that stays over a service exit. -/
theorem State.LeftService.of_took (h : t.LeftService (s.took f)) : t.LeftService s := h

theorem serviceTimerExpiry_eq (hp : s.powered = true) (hm : s.modeCtl.mode = .service)
    (hc : s.diag.commit = .stopped) :
    exec .serviceTimerExpiry s = .next (if s.diag.service.isAt 300000 = true then s.serviceExit else s) := by
  show execServiceTimerExpiry s = _
  simp [execServiceTimerExpiry, onlyIf_next, hp, hm, hc, serviceMs]

end ServiceExit

/-- Settles O50: ENTER_SERVICE by its results in order, the entry by its blocks and the placed STATE; LEAVE_SERVICE and
the service timer by the one service exit. -/
theorem serviceEntryAndExit : Obligations.ServiceEntryAndExit := by
  refine ⟨fun s f arg => ⟨fun h => ?_, fun h => ?_⟩, fun s hp hm hc => ?_⟩
  · rw [enterService_of_asked h]
    refine ⟨fun harg => congrArg _ (serviceEntry_badItem _ harg), ?_, ?_, ?_⟩
    · rintro rfl hmoves
      exact congrArg _ (serviceEntry_of_moving (s := s.took f) hmoves)
    · rintro rfl hon hspeed hm
      exact congrArg _ ((serviceEntry_of_standing (s := s.took f) hon hspeed).trans (if_pos hm))
    · rintro rfl hon hspeed hm
      have henters := (serviceEntry_of_standing (s := s.took f) hon hspeed).trans (if_neg hm)
      obtain ⟨hlink, hdiag⟩ := enterServiceMode_placed (s.took f) rfl
      obtain ⟨hmark, htimer, hflag⟩ := enterServiceMode_emission (s.took f)
      obtain ⟨hmode, htable, hlist, hsweep, hconfig, hlamps, hduty, hclasses, hsfe, hvehicle, hstraps⟩ :=
        enterServiceMode_blocks (s.took f)
      obtain ⟨hmode', htable', hlist', hsweep', hconfig'⟩ := serviceBlocks_writes (s.took f)
      obtain ⟨hoff, hpattern, hchime⟩ := serviceBlocks_off (s.took f)
      refine ⟨_, (s.took f).enterServiceMode, _, s.ownsClaimAt positionsInOrder, s.entryWithdraws, congrArg _ henters,
        rfl, ownsClaimAt_iff s, entryWithdraws_iff s, rfl, hlink, hdiag, hmark, ?_⟩
      simp only [reply_keeps]
      rw [hmode, htable, hlist, hsweep, hconfig, hlamps, hduty, hmode', htable', hlist', hsweep', hconfig']
      refine ⟨trivial, rfl, rfl, rfl, rfl, rfl, fun p => ?_, rfl, rfl, hoff, hchime, hpattern, ?_, rfl, hclasses, hsfe,
        hvehicle, hstraps, ?_, rfl, htimer, hflag⟩
      · exact Four.get_ofFn _ p
      · rw [State.reply, place_service, hdiag]
      · rw [State.reply, place_rxq, hlink]
        rfl
  · rw [leaveService_of_asked h]
    refine ⟨fun harg => congrArg _ (serviceLeave_badItem _ harg), ?_, ?_, ?_⟩
    · rintro rfl hm
      rw [serviceLeave_zero]
      exact congrArg _ (inIdleService_of_notService (s := s.took f) _ _ hm)
    · rintro rfl hm hc
      rw [serviceLeave_zero]
      exact congrArg _ (inIdleService_of_busy (s := s.took f) _ _ hm hc)
    · rintro rfl hm hc
      rw [serviceLeave_zero]
      exact ⟨_, (s.took f).serviceExit, congrArg _ (inIdleService_of_idle (s := s.took f) _ _ hm hc), rfl,
        (serviceExit_leftService (s.took f)).of_took⟩
  · rw [serviceTimerExpiry_eq hp hm hc, reached_iff_isAt]
    exact ⟨fun h => ⟨_, congrArg _ (if_pos h), serviceExit_leftService s⟩, fun h => congrArg _ (if_neg h)⟩

end Sys2Proof.Machine

namespace Sys2Proof.Machine

/-! ### The front command of a step -/

/-- Settles O1. -/
theorem stepRunsFrontCommand : Obligations.StepRunsFrontCommand := by
  intro c rest s hpending
  rw [step, hpending]
  rfl

/-! ### Times and timers one millisecond later (log entry 7) -/

theorem laterMs_tickNat (limit n : Nat) : LaterMs limit n (tickNat limit n) :=
  ⟨fun h => if_pos h, fun h => if_neg (Nat.not_lt.2 h)⟩

theorem later_tick (limit : Nat) (timer : Timer) : timer.Later limit (timer.tick limit) := by
  refine ⟨?_, ?_⟩
  · rintro rfl
    exact tick_stopped limit
  · rintro ms rfl
    exact ⟨tickNat limit ms, (apply_ite Timer.running _ _ _).symm, laterMs_tickNat limit ms⟩

/-! ### Sensing and sweeps one millisecond later -/

section Sensing

/-- R22: the time since the last sample of the standby watch. -/
theorem sfe_tick_some {sfe : Sfe} {w : StandbyWatch} (h : sfe.watch = some w) :
    ∃ ms, sfe.tick = { sfe with watch := some { w with ms } } ∧ LaterMs 250 w.ms ms :=
  ⟨tickNat 250 w.ms, by rw [Sfe.tick, h]; rfl, laterMs_tickNat 250 w.ms⟩

theorem sfe_tick_none {sfe : Sfe} (h : sfe.watch = none) : sfe.tick = sfe := by
  rw [Sfe.tick, h, Option.map_none, ← h]

variable {k : SweepCtl} (c : Conf) (m : Mode)

theorem sweep_tick_period : k.period.Later (if m = .watch then 1000 else 50) (k.tick c m).period :=
  later_tick (periodMs m) k.period

theorem sweep_tick_none (h : k.flight = none) : (k.tick c m).flight = none := by
  rw [SweepCtl.tick, h, Option.map_none]

/-- R1: a periodic sweep takes 14 ms where it reads a tag. -/
theorem sweepMs_isSome (tagAt : Option Pos) : sweepMs tagAt.isSome = if tagAt = none then 10 else 14 := by
  cases tagAt <;> rfl

theorem sweep_tick_periodic {number : Word16} {test : Bool} {tagAt : Option Pos} {ms : Nat}
    (h : k.flight = some (.periodic number test tagAt ms)) :
    ∃ ms', (k.tick c m).flight = some (.periodic number test tagAt ms')
      ∧ LaterMs (if tagAt = none then 10 else 14) ms ms' := by
  rw [← sweepMs_isSome]
  exact ⟨_, by rw [SweepCtl.tick, h, Option.map_some, Flight.tick], laterMs_tickNat _ ms⟩

theorem sweep_tick_oneShot {p : Pos} {part : MeasurePart} {ms : Nat} (h : k.flight = some (.oneShot p part ms)) :
    ∃ ms', (k.tick c m).flight = some (.oneShot p part ms')
      ∧ LaterMs (if tagFitted c p = true then 14 else 10) ms ms' :=
  ⟨_, by rw [SweepCtl.tick, h, Option.map_some, Flight.tick], laterMs_tickNat (sweepMs (tagFitted c p)) ms⟩

end Sensing

/-! ### Records, Departure List and lamps one millisecond later -/

section Table

theorem alert_tick_active (n : Nat) (timer : Timer) :
    ∃ timer', Alert.tick (.active n timer) = .active n timer' ∧ timer.Later 2000 timer' :=
  ⟨_, rfl, later_tick 2000 timer⟩

theorem alert_tick_idle {alert : Alert} (h : ∀ n timer, alert ≠ .active n timer) : alert.tick = alert := by
  cases alert with
  | active n timer => exact absurd rfl (h n timer)
  | none => rfl
  | acknowledged => rfl
  | expired => rfl

variable (c : Conf)

theorem record_tick_later (r : Record) : r.Later c (r.tick c) := by
  refine ⟨rfl, later_tick _ _, later_tick _ _, later_tick _ _, later_tick _ _, later_tick _ _, laterMs_tickNat _ _,
    fun n timer h => ?_, alert_tick_idle⟩
  have halert := alert_tick_active n timer
  rwa [← h] at halert

theorem seat_tick (seat : Seat) :
    ∃ record, seat.tick c = { seat with record := record } ∧ (seat.record = none → record = none)
      ∧ ∀ r, seat.record = some r → ∃ r', record = some r' ∧ r.Later c r' := by
  refine ⟨seat.record.map (Record.tick c), rfl, fun h => ?_, fun r h => ⟨r.tick c, ?_, record_tick_later c r⟩⟩
  · rw [h, Option.map_none]
  · rw [h, Option.map_some]

theorem departures_tick {list : List DepEntry} {k : Nat} {d : DepEntry} (h : list[k]? = some d) :
    ∃ age, (list.map (DepEntry.tick c))[k]? = some { d with ageMs := age } ∧ LaterMs (1000 * c.tMove) d.ageMs age :=
  ⟨_, by rw [List.getElem?_map, h, Option.map_some, DepEntry.tick]; rfl, laterMs_tickNat _ d.ageMs⟩

/-- R102: a flashing lamp's phase runs, and any other lamp stands. -/
theorem lamp_tick (lamp : Lamp) :
    (∀ on ms, lamp = .flashing on ms → ∃ ms', lamp.tick = .flashing on ms' ∧ LaterMs 250 ms ms')
      ∧ ((∀ on ms, lamp ≠ .flashing on ms) → lamp.tick = lamp) := by
  cases lamp with
  | flashing on ms =>
    refine ⟨?_, fun h => absurd rfl (h on ms)⟩
    rintro _ _ ⟨⟩
    exact ⟨_, rfl, laterMs_tickNat 250 ms⟩
  | off => exact ⟨nofun, fun _ => rfl⟩
  | steady => exact ⟨nofun, fun _ => rfl⟩

end Table

/-! ### Roster, link, vehicle data and sleep window one millisecond later -/

section Blocks

theorem slot_tick_absent {slot : RosterSlot} (h : slot.state = .absent) : slot.tick = slot := if_pos h

theorem slot_tick_heard {slot : RosterSlot} (h : slot.state ≠ .absent) :
    slot.tick = { slot with ms := tickNat 65535 slot.ms } := if_neg h

/-- R129: outside STANDBY the time of every slot but an ABSENT one runs. -/
theorem roster_tick {d : Duty} {m : Mode} (hm : m ≠ .standby) {k : Nat} {slot : RosterSlot}
    (h : d.roster[k]? = some slot) :
    (slot.state = .absent → (d.tick m).roster[k]? = some slot)
      ∧ (slot.state ≠ .absent →
        ∃ ms, (d.tick m).roster[k]? = some { slot with ms } ∧ LaterMs 65535 slot.ms ms) := by
  have hslot : (d.tick m).roster[k]? = some slot.tick := by
    rw [Duty.tick, if_neg hm, List.getElem?_map, h, Option.map_some]
  rw [hslot]
  exact ⟨fun ha => congrArg some (slot_tick_absent ha),
    fun ha => ⟨_, congrArg some (slot_tick_heard ha), laterMs_tickNat 65535 slot.ms⟩⟩

theorem roster_tick_length (d : Duty) (m : Mode) : (d.tick m).roster.length = d.roster.length := by
  unfold Duty.tick
  split
  · rfl
  · exact List.length_map _

/-- R139: the tell-tale's phase runs to the half period of its pattern. -/
theorem duty_tick_phase {d : Duty} (m : Mode) {half : Nat} (h : d.pattern.halfMs = half) :
    LaterMs half d.ttMs (d.tick m).ttMs :=
  h ▸ laterMs_tickNat d.pattern.halfMs d.ttMs

/-- R158: the recessive time of a stuck hold runs where the line is not held. -/
theorem link_tick_stuck {l : Link} (h : l.lineHeld = false) : l.stuck.Later 50 l.tick.stuck := by
  have hstuck : l.tick.stuck = l.stuck.tick 50 := if_neg (by simp [h])
  rw [hstuck]
  exact later_tick 50 l.stuck

/-- R147: the echo cell is over within the millisecond. -/
theorem drive_tick (drive : Drive) : drive.tick = if drive = .echo then .released else drive := by
  cases drive <;> rfl

theorem vehicle_tick_keeps (m : Mode) (v : Vehicle) : v.tick m = { v with ageMs := (v.tick m).ageMs } := by
  unfold Vehicle.tick
  split <;> rfl

theorem vehicle_tick_standby {m : Mode} (v : Vehicle) (hm : m = .standby) : (v.tick m).ageMs = v.ageMs := by
  rw [Vehicle.tick, if_pos hm]

theorem vehicle_tick_awake {m : Mode} (v : Vehicle) (hm : m ≠ .standby) : LaterMs 2000 v.ageMs (v.tick m).ageMs := by
  rw [Vehicle.tick, if_neg hm]
  exact laterMs_tickNat 2000 v.ageMs

variable {k : ModeCtl} (c : Conf) (runs : Bool)

theorem window_tick_none (h : k.window = none) : (k.tick c runs).window = none := by
  rw [ModeCtl.tick, h, Option.map_none]

theorem window_tick_some {w : Window} (h : k.window = some w) :
    ∃ ms, (k.tick c runs).window = some { w with ms } ∧ LaterMs 200 w.ms ms :=
  ⟨_, by rw [ModeCtl.tick, h]; rfl, laterMs_tickNat 200 w.ms⟩

end Blocks

/-! ### The state one millisecond later -/

section Millisecond

variable {s : State}

/-- R191: the left-behind timer runs in WATCH where some record qualifies. -/
theorem leftBehindRuns_iff (s : State) :
    s.leftBehindRuns = true ↔ s.modeCtl.mode = .watch ∧ ∃ p r, s.recordAt p = some r ∧ r.qualifies = true := by
  simp only [State.leftBehindRuns, Positions.anyQualifies, Bool.and_eq_true, beq_iff_eq, Four.any_iff,
    Option.any_eq_true, State.recordAt]

theorem millisecond_leftBehind_runs (h : s.leftBehindRuns = true) :
    LaterMs (1000 * s.config.running.tLeft) s.modeCtl.leftBehindMs s.millisecond.modeCtl.leftBehindMs := by
  have hms : s.millisecond.modeCtl.leftBehindMs = tickNat (1000 * s.config.running.tLeft) s.modeCtl.leftBehindMs :=
    if_pos h
  rw [hms]
  exact laterMs_tickNat _ _

theorem millisecond_leftBehind_stands (h : ¬ s.leftBehindRuns = true) :
    s.millisecond.modeCtl.leftBehindMs = s.modeCtl.leftBehindMs := if_neg h

theorem keepsRecords_eq_false (hm : s.modeCtl.mode = .standby ∨ s.modeCtl.mode = .service) :
    ¬ s.modeCtl.mode.keepsRecords = true := by
  rcases hm with hm | hm <;> simp [hm, Mode.keepsRecords]

theorem millisecond_table_keeps : s.millisecond.table = { s.table with seats := s.millisecond.table.seats } := by
  unfold State.millisecond
  dsimp only
  split <;> rfl

theorem millisecond_records_stand (hm : s.modeCtl.mode = .standby ∨ s.modeCtl.mode = .service) :
    s.millisecond.table = s.table ∧ s.millisecond.departures = s.departures :=
  ⟨if_neg (keepsRecords_eq_false hm), if_neg (keepsRecords_eq_false hm)⟩

theorem millisecond_seats (hm : s.modeCtl.mode = .active ∨ s.modeCtl.mode = .watch) (p : Pos) :
    ∃ record, s.millisecond.table.seats.get p = { s.table.seats.get p with record := record }
      ∧ (s.recordAt p = none → record = none)
      ∧ ∀ r, s.recordAt p = some r → ∃ r', record = some r' ∧ r.Later s.config.running r' := by
  have htable : s.millisecond.table = { s.table with seats := s.table.seats.map (Seat.tick s.config.running) } :=
    if_pos ((keepsRecords_iff _).2 hm)
  rw [htable, Four.get_map]
  exact seat_tick s.config.running (s.table.seats.get p)

theorem millisecond_departures (hm : s.modeCtl.mode = .active ∨ s.modeCtl.mode = .watch) :
    s.millisecond.departures = s.departures.map (DepEntry.tick s.config.running) :=
  if_pos ((keepsRecords_iff _).2 hm)

theorem millisecond_lamp (p : Pos) :
    (∀ on ms, s.lamps.get p = .flashing on ms →
        ∃ ms', s.millisecond.lamps.get p = .flashing on ms' ∧ LaterMs 250 ms ms')
      ∧ ((∀ on ms, s.lamps.get p ≠ .flashing on ms) → s.millisecond.lamps.get p = s.lamps.get p) := by
  have hlamp : s.millisecond.lamps.get p = (s.lamps.get p).tick := Four.get_map _ _ _
  rw [hlamp]
  exact lamp_tick (s.lamps.get p)

theorem step_of_idle (h : s.pending = []) : step s = .next s.tick := by
  rw [step, h]

theorem step_idle_unpowered (h : s.pending = []) (hp : s.powered = false) : step s = .next s := by
  rw [step_of_idle h, State.tick, if_neg (by simp [hp])]

theorem step_idle_powered (h : s.pending = []) (hp : s.powered = true) : step s = .next s.millisecond := by
  rw [step_of_idle h, State.tick, if_pos hp]

end Millisecond

/-- Settles O2: what the step answers is `State.millisecond`, and each block of it is that block's own tick. -/
theorem idleStepOnlyLetsTimePass : Obligations.IdleStepOnlyLetsTimePass := by
  intro s hpending
  refine ⟨step_idle_unpowered hpending, fun hp => ⟨s.millisecond, step_idle_powered hpending hp, rfl,
    sfe_tick_none, fun _ => sfe_tick_some,
    rfl, sweep_tick_period _ _, sweep_tick_none _ _, fun _ _ _ _ => sweep_tick_periodic _ _,
    fun _ _ _ => sweep_tick_oneShot _ _,
    millisecond_table_keeps, millisecond_records_stand, fun hm => ⟨millisecond_seats hm, ?_, ?_⟩, millisecond_lamp,
    rfl, ?_, roster_tick_length _ _, fun hm => if_pos hm, fun hm _ _ => roster_tick hm,
    rfl, later_tick _ _, later_tick _ _, ?_, fun hheld => if_pos hheld, drive_tick _,
    rfl, later_tick _ _, later_tick _ _,
    vehicle_tick_keeps _ _, vehicle_tick_standby _, vehicle_tick_awake _,
    rfl, later_tick _ _, later_tick _ _, later_tick _ _, window_tick_none _ _, fun _ => window_tick_some _ _,
    fun hruns => millisecond_leftBehind_runs ((leftBehindRuns_iff s).2 hruns),
    fun hruns => millisecond_leftBehind_stands (mt (leftBehindRuns_iff s).1 hruns),
    rfl, later_tick _ _, later_tick _ _⟩⟩
  · rw [millisecond_departures hm, List.length_map]
  · rw [millisecond_departures hm]
    exact fun _ _ => departures_tick s.config.running
  · exact duty_tick_phase _ (by cases s.duty.pattern <;> rfl)
  · exact link_tick_stuck

end Sys2Proof.Machine
